-- ==== Sys2Proof/Word.lean ====
section
/-!
DEFINITION. Bytes, register words and byte order (R8, R9): a multi-byte value lies least significant byte first.
-/
namespace Sys2Proof

/-- One byte of a ring, a payload or a memory. -/
abbrev Byte := BitVec 8

/-- One 32-bit direct register or ring word (R40). -/
abbrev Word := BitVec 32

/-- The number that a byte string spells, least significant byte first (R9). -/
def leNat : List Byte → Nat
  | [] => 0
  | b :: bs => b.toNat + 256 * leNat bs

/-- The `n` bytes of a number, least significant byte first (R9); higher bytes are cut off. -/
def leBytes : Nat → Nat → List Byte
  | 0, _ => []
  | n + 1, v => BitVec.ofNat 8 v :: leBytes n (v / 256)

/-- The bits `[lo + len - 1 : lo]` of a number (R8). -/
def bits (v lo len : Nat) : Nat := v / 2 ^ lo % 2 ^ len

/-- The number of a truth value in a one-bit field. -/
def bit (b : Bool) : Nat := if b then 1 else 0

/-- A field value placed at a bit position, cut to its width (R8). -/
def fieldAt (v lo len : Nat) : Nat := v % 2 ^ len * 2 ^ lo

/-- The unsigned image of an integer in `n` bits (two's complement). -/
def natOfInt (n : Nat) (v : Int) : Nat := (v % (2 ^ n : Int)).toNat

/-- The two's-complement reading of an `n`-bit number. -/
def intOfNat (n v : Nat) : Int := if v % 2 ^ n < 2 ^ (n - 1) then (v % 2 ^ n : Nat) else (v % 2 ^ n : Nat) - (2 ^ n : Int)

/-- A counter of `n` bits that stops at its largest value (R563). -/
def satInc (n v : Nat) (by_ : Nat := 1) : Nat := min (v + by_) (2 ^ n - 1)

/-- An integer clamped to a range. -/
def clampInt (lo hi v : Int) : Int := max lo (min hi v)

/-- Replace one element of a vector by a function of it. -/
def vmod {α : Type} {n : Nat} (v : Vector α n) (i : Fin n) (f : α → α) : Vector α n := v.set i (f v[i])

/-- Replace every element of a vector by a function of it. -/
def vmap {α β : Type} {n : Nat} (v : Vector α n) (f : α → β) : Vector β n :=
  ⟨⟨v.toList.map f⟩, by simp⟩

/-- A vector from the values of a function on its indices. -/
def vgen {α : Type} (n : Nat) (f : Fin n → α) : Vector α n :=
  ⟨⟨(List.finRange n).map f⟩, by simp⟩

/-- The indices of a vector, in rising order. -/
def indices (n : Nat) : List (Fin n) := List.finRange n

/-- Fold an update over a list of indices: used where one step acts on several members. -/
def overAll {σ ι : Type} (is : List ι) (f : ι → σ → σ) (s : σ) : σ := is.foldl (fun s i => f i s) s

end Sys2Proof
end

