-- ==== Sys2Proof/Operand.lean ====
section
/-!
DEFINITION. The operand types of the commands: target paths (R6, R53), Gound requests (R49) and the small
alternatives that several commands share.
-/
namespace Sys2Proof

/-- A Gound target path `Section.Unit.instance` (R6). -/
structure Path where
  sec : Nat
  unit : Nat
  inst : Nat := 0
deriving DecidableEq, Repr, Inhabited

/-- The 32-bit word of a path: `SECTION` [3:0], `UNIT` [8:4], `INSTANCE` [18:9] (R53). -/
def Path.word (p : Path) : Nat := fieldAt p.sec 0 4 + fieldAt p.unit 4 5 + fieldAt p.inst 9 10

/-- The path that a 32-bit word names; bits [31:19] are judged apart (R53, R61). -/
def Path.ofWord (w : Nat) : Path := { sec := bits w 0 4, unit := bits w 4 5, inst := bits w 9 10 }

/-- A key that orders paths by Section, then Unit, then instance. -/
def Path.key (p : Path) : Nat := (p.sec * 32 + p.unit) * 1024 + p.inst

/-- The path of an ordering key. -/
def Path.ofKey (k : Nat) : Path := { sec := k / 32768, unit := k / 1024 % 32, inst := k % 1024 }

/-- A seat number (R34). -/
abbrev SeatId := Fin 4

/-- The command classes (R49, R56). -/
inductive CmdClass where
  | urgent
  | normal
  | bulk
deriving DecidableEq, Repr, Inhabited

/-- The `CLASS` field of a request (Table 2.9). -/
def CmdClass.code : CmdClass → Nat
  | .urgent => 0
  | .normal => 1
  | .bulk => 2

/-- A Gound request that the dispatcher has accepted into the channel of its class: the fields of its header
(Table 2.9) and its payload. `doorbell` is the device microsecond count at which its doorbell arrived (R58, R63). -/
structure Request where
  seat : SeatId
  cls : CmdClass := .normal
  quiet : Bool := false
  opcode : Nat
  tag : Nat := 0
  seq : Nat := 0
  target : Path
  payload : List Byte := []
  doorbell : Nat := 0
deriving DecidableEq, Repr, Inhabited

/-- What a tap carries in one core cycle: the value at each of its positions, `none` where the valid mask has 0 (R322, R33). An ADC tap carries
codes, the others values with full scale at 2^15 (DESIGN CHOICE, log entry 77). -/
abbrev TapCycle := List (Option Int)

/-- What the capture engine takes in one core cycle (Table 10.6): the samples of each channel in turn, and for symbol and chip positions the
valid mask. -/
structure CaptureCycle where
  samples : List (List Int)
  valid : List Bool := []
deriving DecidableEq, Repr, Inhabited

/-- What the estimators of the receive chain find at a sample (R153, R332): for each polarisation the mean signal power and the mean noise
variance in one unit; the variance of each amplitude class; the DGD in 0.1 ps; the carrier offset in kHz; the effective SNR and the gain of
`NLE` in 0.01 dB. -/
structure Estimates where
  powerX : Nat
  noiseX : Nat
  powerY : Nat
  noiseY : Nat
  rings : List Nat := []
  dgd : Nat := 0
  foKHz : Int := 0
  effSnr : Nat := 0
  nleGain : Int := 0
deriving DecidableEq, Repr, Inhabited

/-- A complex value: real and imaginary part. -/
abbrev Complex := Int × Int

/-- One symbol period as it leaves `PMX` (R141): its position in its superframe, the input vector that it was formed from, the outputs X and Y,
and the carrier phase that `CPR` estimates for it, as a factor in units of 2^-14. -/
structure PmxSymbol where
  position : Nat
  inputs : List Complex := []
  x : Complex
  y : Complex
  phase : Complex := (16384, 0)
deriving DecidableEq, Repr, Inhabited

/-- What `COD.BDE` has found for one symbol period (R141, R217): the hard decisions of its label bits after each iteration of its block that was
run; whether it lies in a termination block; and its known points, where it has them. -/
structure Decision where
  iterations : List (List Bool) := []
  termination : Bool := false
  known : Complex × Complex := ((0, 0), (0, 0))
deriving DecidableEq, Repr, Inhabited

/-- A codeword group as it comes back (R141, R217): its `sync` and its decisions. `leaving` are the symbol periods of the 32 core cycles in which
it comes, which leave `PMX` in them. -/
structure CodewordGroup where
  sync : Bool
  decisions : List Decision := []
  leaving : List PmxSymbol := []
deriving DecidableEq, Repr, Inhabited

/-- How a seat's write reaches the windows (R37, R38, R40): one aligned 32-bit write; an aligned 64-bit write of a PCIe seat; a frame
of the SPI target, from `SPI_CS_N` falling to rising, as the bits on the wire in their order; or a transfer on the I2C bus up to its
STOP: the 7-bit address, the bytes written, and the 32-bit words read after a repeated START, none in a plain write. `capture` is a PCIe
seat's aligned read of 32 bits, or of 64, through the capture window (R41). -/
inductive WindowWrite where
  | word (offset : Fin 1048576) (value : BitVec 32)
  | pair (offset : Fin 1048576) (value : BitVec 64)
  | spi (wire : List Bool)
  | i2c (address : BitVec 7) (bytes : List Byte) (reads : Nat)
  | capture (offset : Fin 67108864) (wide : Bool)
deriving DecidableEq, Repr

/-- An access that is pending at a block's bus interface when its gate times out (R425): a read or write of a seat, or one of firmware or DMA. -/
inductive PendingAccess where
  | seat (seat : SeatId) (write : Bool)
  | internal
deriving DecidableEq, Repr

/-- A bulk word in which an error is found while a PM record is formed (R339, R440): the block and place of the counter it holds, its word index, and
whether it is poisoned. -/
structure PmError where
  block : Nat
  place : Nat
  word : Nat
  poisoned : Bool := false
deriving DecidableEq, Repr

/-- The two directions of the line. -/
inductive Dir where
  | tx
  | rx
deriving DecidableEq, Repr, Inhabited

/-- One 64-bit queue or stream word. -/
abbrev Word64 := BitVec 64

/-- The trim codes of a slice or a sub-DAC (R90, Table 3.4); a sub-DAC has no bandwidth trim. -/
structure Trims where
  offset : Nat := 128
  gain : Nat := 128
  skew : Nat := 512
  bandwidth : Nat := 32
deriving DecidableEq, Repr, Inhabited

/-- What one calibration of a slice or a sub-DAC ends with: the new trim codes, and whether a convergence loop has
converged (R92, R93). -/
structure CalResult where
  trims : Trims
  converged : Bool := true
deriving DecidableEq, Repr, Inhabited

/-- One member's outcome of the initial calibration (R107): the member of its channel (slice `13 * group + slice`, or
sub-DAC), the failed attempts, 0 to 3, and the trims found if the last attempt passed. -/
structure InitCalItem where
  channel : Fin 4
  member : Nat
  failed : Nat := 0
  trims : Trims
deriving DecidableEq, Repr, Inhabited

/-- What the decoder finds in one Basalt block (R212, R215, R221): the unsatisfied checks after iteration 4 in parts per million; the iteration
after which every check that involves its labels is satisfied and the outer syndrome is zero, if there is one; the errors that the outer
decoder finds; the counted labels in error; and whether it is a termination block. -/
structure BlockResult where
  unsatPpm : Nat := 0
  satisfiedAt : Option Nat := none
  outerErrors : Nat := 0
  errors : Nat := 0
  termination : Bool := false
deriving DecidableEq, Repr, Inhabited

/-- What the self-test of COD finds failing beside clusters (R230). -/
inductive CodPart where
  | encoder
  | outerCode
  | ifd
deriving DecidableEq, Repr

/-- One entry of the multiplex structure identifier: a tributary slot is unavailable, unoccupied, or carries a client (R239, R244). -/
inductive MsiSlot where
  | unavailable
  | unoccupied
  | client (row : Nat)
deriving DecidableEq, Repr

/-- What the overhead of one slice of a received frame shows (R243, R244): its MFAS differs from that of slice #1; the errors that the SM
BIP-8 finds; and the errors that the partner reports in BEI. -/
structure SliceOverhead where
  mfasDiffers : Bool := false
  smBip : Nat := 0
  bei : Nat := 0
deriving DecidableEq, Repr, Inhabited

/-- What one received OTUC frame shows (R243, R244, R260): FAS, the overhead of its slices from slice #1 on, the errors of the PM BIP-8, BDI,
AIS/LCK/OCI in STAT, a complete SM or PM trail trace, the payload type 0x22, a complete multiplex structure identifier with one entry per
tributary slot, and the clients (bit c) whose justification control has a CRC error or is correct. -/
structure OtucFrame where
  fasOk : Bool := true
  slices : List SliceOverhead := []
  pmBip : Nat := 0
  bdi : Bool := false
  maint : Bool := false
  smTti : Option (Vector Byte 64) := none
  pmTti : Option (Vector Byte 64) := none
  payloadTypeOk : Bool := true
  msi : Option (List MsiSlot) := none
  jcBad : BitVec 64 := 0
  jcGood : BitVec 64 := 0
deriving DecidableEq, Repr

/-- One slice of an ODU frame, or the whole frame of an ODU that has one: the bytes of columns 1 to 16 of rows 1 to 4, in row order, and the
payload area, columns 17 to 3,824 of rows 1 to 4, in row order (R268). -/
structure OduSlice where
  overhead : List Byte
  payload : List Byte
deriving DecidableEq, Repr, Inhabited

/-- An ODU frame, slice by slice (R267). -/
abbrev OduFrame := List OduSlice

/-- What the partner's resize control overhead brings (R249): the answer to the step in progress, which may break G.7044; or a step of a
resize that the partner has started, the link connection first and then the bandwidth, to a number of units of a client. -/
inductive ResizeStep where
  | answer (valid : Bool)
  | partner (client : Fin 64) (units : Nat) (valid : Bool)
deriving DecidableEq, Repr

/-- Which memory a data-plane read finds its error in (Tables 14.2 and 14.4, R220, R288): COEF; DPB as a release or outer-code
buffer of the decoder, its decision return buffer, its LLR buffer, or a buffer of another Section; KEY, with the slot; CTX, with
the channel. -/
inductive DataRead where
  | coef
  | blockBuffer
  | decisionReturn
  | llr
  | other
  | key (slot : Fin 128)
  | ctx (channel : Fin 64)
deriving DecidableEq, Repr

/-- What an Announce message says of a grandmaster (R407): clockClass, clockAccuracy, offsetScaledLogVariance, priority2, identity, the steps from
it, and the port identity of the sender: its clock identity times 2^16 and the port number. -/
structure ClockData where
  clockClass : Nat
  accuracy : Nat := 0
  variance : Nat := 0
  priority2 : Nat := 0
  identity : Nat := 0
  steps : Nat := 0
  sender : Nat := 0
deriving DecidableEq, Repr, Inhabited

/-- A received PTP message (R407): an Announce; a Sync, with its Follow_Up in two-step mode, and the offset from the master in nanoseconds that
the timestamps give; or a Delay_Req. -/
inductive PtpBody where
  | announce (data : ClockData)
  | sync (offsetNs : Int)
  | delayReq
deriving DecidableEq, Repr, Inhabited

/-- A received PTP message with its domain (R407). -/
structure PtpRx where
  domain : Nat
  body : PtpBody
deriving DecidableEq, Repr

/-- A rising edge of `PPS_IN` (R385, R387): the device time minus the edge, modulo 1 s, and the time since the edge before against the
measurement base, in picoseconds. -/
structure PpsEdge where
  diffPs : Int
  intervalPs : Nat := 1000000000000
deriving DecidableEq, Repr

/-- What a frame on a Tvedry port says (Table 16.2): whether FCS, tags and size are good, its source address where it is another's, its
EtherType and header, whether `LENGTH` matches, and the payload. -/
structure TvlFrame where
  macOk : Bool := true
  ethertype : Nat
  version : Nat := 1
  type : Nat
  tag : Nat
  source : Nat
  dest : Nat
  epoch : Nat
  seq : Nat
  lengthOk : Bool := true
  hops : Nat := 0
  last : Byte := 0
  sender : List Byte := []
  payload : List Byte
deriving DecidableEq, Repr

end Sys2Proof
end

