-- ==== Sys2Proof/Syntax.lean ====
section
/-!
DEFINITION. The commands of the block: one constructor per row of spec/opcode_table.json. A command that stands for a
hardware event carries what the event measured or received; one that stands for a bus access carries the seat, offset
and value; one that stands for a Gound request carries the accepted request.
-/
namespace Sys2Proof

inductive Instr where
  /-- `COMMIT_BOUNDARY` (R22). The target and the direction whose boundary is reached. -/
  | commitBoundary (path : Path) (dir : Dir)
  /-- `PM_INTERVAL_TICK` (R334). -/
  | pmIntervalTick
  /-- `PM_DRAIN_DONE` (R335). -/
  | pmDrainDone (bad : List PmError) (ns : Nat)
  /-- `FUNCTION_LEVEL_RESET` (R36). The physical function. -/
  | functionLevelReset (pf : Fin 2)
  /-- `PCIE_PERST` (R36). -/
  | pciePerst
  /-- `REGISTER_WRITE` (R37, R38, R40). -/
  | registerWrite (seat : SeatId) (write : WindowWrite)
  /-- `UNMAPPED_WRITE` (R75). -/
  | unmappedWrite (seat : SeatId) (capture : Option Nat) (bytes : List Byte)
  /-- `ATTACH` (R44). -/
  | attach (seat : SeatId) (value : Word)
  /-- `SEAT_RESET` (R77). -/
  | seatReset (seat : SeatId)
  /-- `DETACH` (R47). -/
  | detach (seat : SeatId)
  /-- `HEARTBEAT` (R46). -/
  | heartbeat (seat : SeatId) (beat : Word)
  /-- `SEAT_HB_TIMEOUT_WRITE` (R46). -/
  | seatHbTimeoutWrite (seat : SeatId) (value : Word)
  /-- `SEAT_ABSENT` (R46). -/
  | seatAbsent (seat : SeatId)
  /-- `DOORBELL` (R589). The seat's write of its tail; `upsets` lists (ring word, upset bits) met while the entries are read. -/
  | doorbell (seat : SeatId) (tail : BitVec 7) (upsets : List (Nat × Nat))
  /-- `RSP_HEAD_WRITE` (R74). -/
  | rspHeadWrite (seat : SeatId) (head : BitVec 7)
  /-- `RSP_RING_STALLED` (R74). -/
  | rspRingStalled (seat : SeatId)
  /-- `NOP` (R59). -/
  | nop (req : Request)
  /-- `CLAIM` (R63). -/
  | claim (req : Request)
  /-- `RELEASE` (R61). -/
  | release (req : Request)
  /-- `DELEGATE` (R61). -/
  | delegate (req : Request)
  /-- `OWNER_QUERY` (R61). -/
  | ownerQuery (req : Request)
  /-- `RECLAIM` (R65). -/
  | reclaim (req : Request)
  /-- `SLATE_WRITE` (R60). -/
  | slateWrite (req : Request)
  /-- `SLATE_READ` (R61). -/
  | slateRead (req : Request)
  /-- `SLATE_CLEAR` (R61). -/
  | slateClear (req : Request)
  /-- `PARAM_READ` (R61). -/
  | paramRead (req : Request)
  /-- `COMMIT_CHECK` (R67). -/
  | commitCheck (req : Request)
  /-- `COMMIT_APPLY` (R68). -/
  | commitApply (req : Request)
  /-- `MUTE` (R111). -/
  | mute (req : Request)
  /-- `EVENT_ACK` (R561). -/
  | eventAck (req : Request)
  /-- `UNIT_RESET` (R77). The request, and the outcome of the checks that the reset of a Unit runs (R110). -/
  | unitReset (req : Request) (checkOk : Bool)
  /-- `SECTION_RESET` (R77). -/
  | sectionReset (req : Request) (checkOk : Bool)
  /-- `RESET_RELEASE` (R77). -/
  | resetRelease (path : Path)
  /-- `CONTROL_RESTART` (R79). -/
  | controlRestart (req : Request)
  /-- `CONTROL_RESTART_DONE` (R79). -/
  | controlRestartDone
  /-- `FW_WATCHDOG` (R80). The core that fails to signal, and whether its watchdog now expires or the core has only given its last signal. -/
  | fwWatchdog (core : Fin 4) (expires : Bool)
  /-- `DEVICE_RESET` (R81). -/
  | deviceReset (req : Request)
  /-- `DOMAIN_TIMEOUT` (R74). The number of the policy that the request has sent. -/
  | domainTimeout (policy : Nat)
  /-- `ROTATION_STEP` (R91). The ADC channel and the slice group. -/
  | rotationStep (ch : Fin 4) (grp : Fin 12)
  /-- `SLICE_CAL_DONE` (R93). What the calibration found, and the differences from the interpolated samples in 0.01 LSB (forced step only). -/
  | sliceCalDone (ch : Fin 4) (grp : Fin 12) (result : CalResult) (meanDiff : Nat) (rmsDiff : Nat)
  /-- `SLICE_CAL_TIMEOUT` (R92). -/
  | sliceCalTimeout (ch : Fin 4) (grp : Fin 12)
  /-- `SLICE_SWAP` (R91). The differences over the parallel window in 0.01 LSB. -/
  | sliceSwap (ch : Fin 4) (grp : Fin 12) (meanDiff : Nat) (rmsDiff : Nat)
  /-- `TEMP_READ` (R100). -/
  | tempRead
  /-- `FORCE_PASS` (R100). -/
  | forcePass (seat : SeatId)
  /-- `FORCED_STEP_START` (R102). -/
  | forcedStepStart
  /-- `FORCED_PASS_END` (R100). -/
  | forcedPassEnd
  /-- `INIT_CAL_DONE` (R107). The outcomes per slice and per sub-DAC. -/
  | initCalDone (adcs : List InitCalItem) (dacs : List InitCalItem)
  /-- `DAC_CAL_STEP` (R108). Whether the internal reference reads inside its limits. -/
  | dacCalStep (refOk : Bool)
  /-- `DAC_CAL_DONE` (R109). -/
  | dacCalDone (result : CalResult)
  /-- `AGC_DECISION` (R114). The gain set. -/
  | agcDecision (set : Fin 4)
  /-- `ADC_CLIP_CHECK` (R121). The clipped samples and the samples of the window. -/
  | adcClipCheck (ch : Fin 4) (clipped : Nat) (total : Nat)
  /-- `ADC_CLIP_COUNT_READ` (R120). -/
  | adcClipCountRead (seat : SeatId) (ch : Fin 4)
  /-- `IQ_CORRECT_UPDATE` (R125). The estimates in 0.001 degree and 0.001 dB. -/
  | iqCorrectUpdate (angleX : Int) (gainX : Int) (angleY : Int) (gainY : Int)
  /-- `ACQUISITION_START` (R155). -/
  | acquisitionStart
  /-- `CD_SCAN_DONE` (R129). The peak over the median in 0.125 dB and the fitted dispersion in ps/nm. -/
  | cdScanDone (metrics : List Nat)
  /-- `CD_SEED_REFINE_DONE` (R131). Peak, whether it falls on the first or last hypothesis, and the fitted dispersion. -/
  | cdSeedRefineDone (metrics : List Nat)
  /-- `SEED_WAIT_TIMEOUT` (R132). -/
  | seedWaitTimeout
  /-- `ACQ_STEP_TIMEOUT` (R156). -/
  | acqStepTimeout
  /-- `TIMING_LOCK` (R135). The timing offset in 0.01 ppm. -/
  | timingLock (offset : Int)
  /-- `POL_BLIND_CONVERGED` (R139). -/
  | polBlindConverged
  /-- `PMX_SINGULARITY_CHECK` (R140). The normalised cross-correlation in 0.001. -/
  | pmxSingularityCheck (xcorr : Nat)
  /-- `SUPERFRAME_LOCK` (R150). -/
  | superframeLock
  /-- `POL_RD_CONVERGED` (R155). -/
  | polRdConverged
  /-- `SUPERFRAME_HEADER` (R149). Whether the header was found, and the words that decode. -/
  | superframeHeader (found : Bool) (wordA : Option Nat) (wordB : Option Nat)
  /-- `RX_FORMAT_CHANGE` (R179). -/
  | rxFormatChange
  /-- `CODEWORD_GROUP` (R142). The group, the received superframes of its first and last symbol, and how many of the checks that involve its
  payload are unsatisfied. -/
  | codewordGroup (group : CodewordGroup) (first last unsat checks : Nat)
  /-- `CD_TRACK` (R133). The residual dispersion in ps/nm. -/
  | cdTrack (residual : Int)
  /-- `NLE_RAMP_DONE` (R147). -/
  | nleRampDone
  /-- `TIMING_UNLOCK` (R135). -/
  | timingUnlock (offset : Int)
  /-- `CARRIER_UNLOCK` (R148). -/
  | carrierUnlock
  /-- `LOS_WINDOW` (R158). The mean input power in 0.01 dBFS. -/
  | losWindow (power : Int)
  /-- `LOS_HOLD_EXPIRE` (R159). -/
  | losHoldExpire
  /-- `WARM_REACQUIRE` (R160). -/
  | warmReacquire
  /-- `WARM_TIMEOUT` (R160). -/
  | warmTimeout
  /-- `RX_REACQUIRE` (R163). -/
  | rxReacquire (req : Request)
  /-- `NLE_COEF_LOAD` (R163). -/
  | nleCoefLoad (req : Request)
  /-- `NLE_COEF_READ` (R163). -/
  | nleCoefRead (req : Request)
  /-- `TX_SUPERFRAME` (R178). -/
  | txSuperframe
  /-- `RATE_ANSWER_RX` (R191). -/
  | rateAnswerRx
  /-- `RATE_PROPOSE_RX` (R192). -/
  | rateProposeRx
  /-- `NEGOTIATE_TIMEOUT` (R196). -/
  | negotiateTimeout
  /-- `RATE_HOLD_EXPIRE` (R193). -/
  | rateHoldExpire
  /-- `RATE_ANNOUNCE` (R193). -/
  | rateAnnounce
  /-- `RATE_CHANGE` (R193). -/
  | rateChange
  /-- `RATE_ABORT` (R196). -/
  | rateAbort (req : Request)
  /-- `DPD_COEF_LOAD` (R199). -/
  | dpdCoefLoad (req : Request)
  /-- `DPD_COEF_READ` (R199). -/
  | dpdCoefRead (req : Request)
  /-- `DPD_RAMP_DONE` (R182). -/
  | dpdRampDone
  /-- `DPD_CLIP_COUNT_READ` (R200). -/
  | dpdClipCountRead (seat : SeatId)
  /-- `OUTPUT_CLIP_CHECK` (R201). The clipped samples and the samples of the window. -/
  | outputClipCheck (clipped : Nat) (total : Nat)
  /-- `BLOCK_DECODED` (R212). -/
  | blockDecoded (block : BlockResult)
  /-- `PARITY_ERROR` (R219). -/
  | parityError (cluster : Fin 16)
  /-- `FAST_BER_WINDOW` (R222). The estimate in parts per 10^9. -/
  | fastBerWindow (berPpb : Nat)
  /-- `IFD_FRAME` (R226). -/
  | ifdFrame (aligned : Bool) (codedBits : Nat) (corrected : Nat) (uncorrected : Nat)
  /-- `FEC_RESYNC` (R233). -/
  | fecResync (req : Request)
  /-- `FEC_INJECT` (R229). -/
  | fecInject (req : Request)
  /-- `INJECT_END` (R229). Whether the injection is that of `IFE`. -/
  | injectEnd (ife : Bool)
  /-- `RX_OTUC_FRAME` (R243). -/
  | rxOtucFrame (frame : OtucFrame)
  /-- `LOF_DECLARE` (R243). -/
  | lofDeclare
  /-- `LOF_CLEAR` (R243). -/
  | lofClear
  /-- `RESTORE_HOLD_EXPIRE` (R257). -/
  | restoreHoldExpire (client : Fin 64)
  /-- `ODUFLEX_RESIZE_STEP` (R249). Whether the partner's answer keeps to G.7044. -/
  | oduflexResizeStep (step : ResizeStep)
  /-- `RESIZE_TIMEOUT` (R249). -/
  | resizeTimeout
  /-- `GCC_RX_FRAME` (R259). The content between the flags, and whether FCS and framing are good. -/
  | gccRxFrame (channel : Fin 3) (received : List Byte)
  /-- `GCC_TX_PACKET` (R259). -/
  | gccTxPacket (channel : Fin 3)
  /-- `FRM_TTI_READ` (R263). -/
  | frmTtiRead (req : Request)
  /-- `FRM_CLIENT_QUERY` (R263). -/
  | frmClientQuery (req : Request)
  /-- `KEY_LOAD` (R276). The value written to the register. -/
  | keyLoad (seat : SeatId) (value : Word)
  /-- `KEY_LOAD_DONE` (R276). Whether the key store took the key without an uncorrectable error. -/
  | keyLoadDone (slot : Fin 128) (storeOk : Bool)
  /-- `KEY_ACTIVATE` (R278). -/
  | keyActivate (req : Request)
  /-- `KEY_CHANGEOVER` (R278). -/
  | keyChangeover (channel : Fin 64)
  /-- `KEY_ZEROISE` (R280). -/
  | keyZeroise (req : Request)
  /-- `SEC_CHANNEL_QUERY` (R292). -/
  | secChannelQuery (req : Request)
  /-- `TX_SEGMENT` (R270). The payload areas, the additional data and the suspensions of the segment. -/
  | txSegment (channel : Fin 64) (frames : List OduFrame) (suspensions : List Nat)
  /-- `RX_SEGMENT_START` (R279). The control byte, and the epoch and counter read. -/
  | rxSegmentStart (channel : Fin 64) (frames : List OduFrame) (suspensions : List Nat)
  /-- `TAG_VERDICT` (R286). -/
  | tagVerdict (channel : Fin 64)
  /-- `SEC_SELFTEST` (R285). The cores that fail, and whether GHASH and key expansion pass. -/
  | secSelftest (failed : BitVec 32) (expandOk : Bool)
  /-- `LOD_SLOT` (R302). -/
  | lodSlot
  /-- `IDENTITY_DUE` (R302). -/
  | identityDue
  /-- `PREAMBLE_DETECT` (R303). The metric and the gain in 0.5 dB, and the link group of its sync chirps. -/
  | preambleDetect (metric : Nat) (gain : Fin 121) (group : Byte)
  /-- `LOD_HEADER` (R305). -/
  | lodHeader (bytes : Vector Byte 4)
  /-- `LOD_FRAME` (R305). Payload and CRC, the estimates in ps/nm, MHz and ppm, and whether the chirp power lies within 6 dB of the total. -/
  | lodFrame (rest : List Byte) (cd : Int) (fo : Int) (ppm : Int) (beacon : Bool)
  /-- `IDENTITY_RX` (R313). -/
  | identityRx
  /-- `HOST_OPAQUE_RX` (R314). -/
  | hostOpaqueRx
  /-- `LOD_TX_PACKET` (R314). -/
  | lodTxPacket
  /-- `LDT_GAIN_UPDATE` (R306). The gain in 0.5 dB that meets the RMS target. -/
  | ldtGainUpdate (gain : Fin 121)
  /-- `PARTNER_TIMEOUT` (R313). -/
  | partnerTimeout
  /-- `LOD_PARTNER_QUERY` (R317). -/
  | lodPartnerQuery (req : Request)
  /-- `LOD_IDENTITY_NOW` (R317). -/
  | lodIdentityNow (req : Request)
  /-- `CHAIN_OUTPUT` (R327). -/
  | chainOutput (chain : Fin 8) (cycles : List TapCycle)
  /-- `CHAIN_SETTLED` (R325). -/
  | chainSettled (chain : Fin 8)
  /-- `DET_APPLY` (R329). -/
  | detApply (seat : SeatId) (chain : Fin 8) (value : Word)
  /-- `MEASURE_SAMPLE` (R332). One sample of each recorded estimate. -/
  | measureSample (e : Estimates)
  /-- `PM_SNAPSHOT` (R340). -/
  | pmSnapshot (req : Request)
  /-- `PM_LOCATE` (R348). -/
  | pmLocate (req : Request)
  /-- `CAP_ARM` (R344). -/
  | capArm (req : Request)
  /-- `CAP_STOP` (R345). -/
  | capStop (req : Request)
  /-- `CAP_TRIGGER` (R344). -/
  | capTrigger (req : Request)
  /-- `CAPTURE_DONE` (R344). The trigger's byte offset and the captured bytes, for sources other than chains. -/
  | captureDone (before : Nat) (cycles : List CaptureCycle)
  /-- `LO_READ` (R341). -/
  | loRead (seat : SeatId) (offset : Fin 1048576)
  /-- `HI_READ` (R341). -/
  | hiRead (seat : SeatId) (offset : Fin 1048576)
  /-- `PAIRED_64_READ` (R342). -/
  | paired64Read (seat : SeatId) (offset : Fin 1048576)
  /-- `PMC_READ_STATUS_READ` (R349). -/
  | pmcReadStatusRead (seat : SeatId)
  /-- `LANE_SIGNAL_DETECT` (R375). -/
  | laneSignalDetect (lane : Fin 16)
  /-- `CDR_LOCK` (R361). -/
  | cdrLock (lane : Fin 16)
  /-- `TRAINING_DONE` (R361). Whether training completes, and the taps it gives. -/
  | trainingDone (lane : Fin 16) (ok : Bool) (taps : Vector Int 6)
  /-- `POLARITY_DETERMINED` (R362). -/
  | polarityDetermined (lane : Fin 16) (inverted : Bool)
  /-- `LANE_ORDER_TRY` (R363). -/
  | laneOrderTry
  /-- `PORT_UP` (R361). The skew measured. -/
  | portUp (port : Fin 16) (skewNs : Nat)
  /-- `BRINGUP_TIMEOUT` (R361). -/
  | bringupTimeout (lane : Fin 16)
  /-- `DESKEW_RETRY` (R364). -/
  | deskewRetry (port : Fin 16) (skewNs : Nat)
  /-- `FREQ_OFFSET` (R359). -/
  | freqOffset (lane : Fin 16) (ppm : Int)
  /-- `PARTNER_ABSENT` (R375). -/
  | partnerAbsent (lane : Fin 16)
  /-- `LANE_DOWN` (R377). Loss of signal, or of CDR lock. -/
  | laneDown (lane : Fin 16) (signalLost : Bool)
  /-- `AUI_FEC_CODEWORD` (R377). -/
  | auiFecCodeword (port : Fin 16) (corrected : Bool) (uncorrectable : Bool) (lf : Bool) (rf : Bool)
  /-- `TLM_MARKER` (R371). -/
  | tlmMarker (lane : Fin 16) (marker : Option (BitVec 256)) (received : List (Fin 4))
  /-- `TLM_PERIOD` (R370). The pad count, and the client words dropped before it. -/
  | tlmPeriod (port : Fin 16) (pad : Fin 4096) (dropped : Nat) (words : List (BitVec 256))
  /-- `FLEXE_OH` (R377). -/
  | flexeOh (port : Fin 16) (crcOk : Bool) (gidOk : Bool) (phyOk : Bool) (locked : Bool) (rpf : Bool)
  /-- `HOST_CAL_REQUEST` (R372). The slot owners of the group's PHYs. -/
  | hostCalRequest (group : Fin 4) (calendar : List Nat)
  /-- `FLEXE_CAL_ACK` (R372). -/
  | flexeCalAck (group : Fin 4)
  /-- `FLEXE_CAL_TIMEOUT` (R372). -/
  | flexeCalTimeout
  /-- `HST_LANE_RETRAIN` (R381). -/
  | hstLaneRetrain (req : Request)
  /-- `HST_LANE_EYE` (R381). What the receiver measures. -/
  | hstLaneEye (req : Request) (snr : Nat) (upper : Nat) (middle : Nat) (lower : Nat) (width : Nat) (ctle : Nat) (dfe : Int)
  /-- `FLEXE_CAL_QUERY` (R381). -/
  | flexeCalQuery (req : Request)
  /-- `SELECTOR_RUN` (R390). -/
  | selectorRun
  /-- `SLOT_MEASURE` (R387). The offsets in parts per 10^12, and that of XTAL_B against XTAL_A. -/
  | slotMeasure (slot : Fin 8) (hard : Int) (soft : Int) (xtalB : Int)
  /-- `SOAK_DONE` (R388). -/
  | soakDone (slot : Fin 8)
  /-- `WTR_DONE` (R389). -/
  | wtrDone (slot : Fin 8)
  /-- `ACTIVITY_LOSS` (R391). -/
  | activityLoss (slot : Fin 8)
  /-- `ACTIVITY_RETURN` (R391). -/
  | activityReturn (slot : Fin 8)
  /-- `HOLDOFF_EXPIRE` (R391). -/
  | holdoffExpire (slot : Fin 8)
  /-- `XTAL_B_WARMUP` (R386). The offset of XTAL_B in parts per 10^12. -/
  | xtalBWarmup (offset : Int)
  /-- `HISTORY_ENTRY` (R400). The frequencies that the loops of the sync and the line channel take in over the second, and whether they are locked. -/
  | historyEntry (ppt : Int) (linePpt : Int) (lineLocked : Bool) (syncLocked : Bool)
  /-- `HOLDOVER_LIMIT` (R403). -/
  | holdoverLimit
  /-- `PPS_IN_EDGE` (R385). -/
  | ppsInEdge (edge : PpsEdge)
  /-- `PPS_OUT` (R398). -/
  | ppsOut
  /-- `PPS_PULSE_END` (R398). -/
  | ppsPulseEnd
  /-- `PTP_MESSAGE_RX` (R407). -/
  | ptpMessageRx (port : Fin 2) (message : PtpRx)
  /-- `PTP_MESSAGE_TX` (R407). 0 Sync, 1 Follow_Up, 2 Delay_Req, 3 Announce. -/
  | ptpMessageTx (port : Fin 2) (kind : Fin 4)
  /-- `PTP_SYNC_TIMEOUT` (R385). -/
  | ptpSyncTimeout (port : Fin 2)
  /-- `TIM_SET_TIME` (R410). -/
  | timSetTime (req : Request)
  /-- `TIM_SET_TIME_APPLY` (R397). -/
  | timSetTimeApply
  /-- `TIM_QUERY` (R410). -/
  | timQuery (req : Request)
  /-- `TIM_CLEAR_WTR` (R389). -/
  | timClearWtr (req : Request)
  /-- `SOURCE_AMPLITUDE` (R414). The source by its bit in Table 13.2, and whether its swing is valid. -/
  | sourceAmplitude (source : Fin 10) (valid : Bool)
  /-- `SOURCE_READY` (R414). -/
  | sourceReady (source : Fin 10)
  /-- `PLL_LOCK` (R414). -/
  | pllLock (pll : Fin 4)
  /-- `PLL_UNLOCK` (R415). -/
  | pllUnlock (pll : Fin 4)
  /-- `CLOCK_MONITOR_WINDOW` (R420). -/
  | clockMonitorWindow (source : Fin 10) (ok : Bool)
  /-- `CLK_SWITCH` (R417). -/
  | clkSwitch (req : Request)
  /-- `CLK_SWITCH_DONE` (R418). -/
  | clkSwitchDone (mux : Fin 3)
  /-- `OLD_CLOCK_STOPPED` (R419). -/
  | oldClockStopped (mux : Fin 3)
  /-- `CLK_RESUME` (R423). -/
  | clkResume (req : Request)
  /-- `IDLE_ACK` (R424). -/
  | idleAck (path : Path)
  /-- `GATE_TIMEOUT` (R425). The seats whose write was pending. -/
  | gateTimeout (path : Path) (accesses : List PendingAccess)
  /-- `SCRUB_READ` (R444). The group, and the bits that have gone wrong in the word since it was last read. -/
  | scrubRead (group : Fin 6) (mask : Nat)
  /-- `MEM_RETIRE` (R446). -/
  | memRetire (req : Request)
  /-- `RETIRE_DONE` (R446). -/
  | retireDone
  /-- `MEM_INJECT` (R456). -/
  | memInject (req : Request)
  /-- `LOG_CLEAR` (R445). -/
  | logClear (seat : SeatId) (groups : BitVec 6)
  /-- `SPQ_PUSH` (R450). The high half, and the low half of a 64-bit write. -/
  | spqPush (seat : SeatId) (queue : Fin 24) (hi : Word) (lo : Option Word)
  /-- `SPQ_PUSH_LAST` (R450). -/
  | spqPushLast (seat : SeatId) (queue : Fin 24) (hi : Word)
  /-- `SPQ_POP` (R450). Whether it is a 64-bit read. -/
  | spqPop (seat : SeatId) (queue : Fin 24) (wide : Bool)
  /-- `SPQ_DROP` (R452). -/
  | spqDrop (seat : SeatId) (queue : Fin 24)
  /-- `SPQ_HW_PUSH` (R451). -/
  | spqHwPush (queue : Fin 24) (words : List Word64)
  /-- `SPQ_HW_POP` (R451). -/
  | spqHwPop (queue : Fin 24)
  /-- `SPQ_SPILL` (R449). Bits that have gone wrong in the region: the number of a word in it, the oldest 0, and a mask. -/
  | spqSpill (queue : Fin 24) (upsets : List (Nat × Nat))
  /-- `SEQ_APPLY` (R466). -/
  | seqApply (seat : SeatId) (mask : BitVec 2)
  /-- `SEQ_TRIGGER` (R467). -/
  | seqTrigger (seat : SeatId) (mask : BitVec 2)
  /-- `URGENT_TRIGGER` (R470). -/
  | urgentTrigger (seat : SeatId) (mask : BitVec 2)
  /-- `BURST_STOP` (R467). -/
  | burstStop (seat : SeatId) (mask : BitVec 2)
  /-- `SEQ_TIMER` (R467). -/
  | seqTimer (conv : Fin 2)
  /-- `FLINT_HK_TRIGGER` (R467). -/
  | flintHkTrigger
  /-- `COMP_CROSSING` (R469). The comparator's input in microvolts. -/
  | compCrossing (comp : Fin 8) (uv : Nat)
  /-- `HK_CONVERSION` (R463). The input, the other converter's input in the same cycle, and VREF_HK in microvolts. -/
  | hkConversion (conv : Fin 2) (uv other : Int) (vref : Nat)
  /-- `REF_SETTLED` (R464). -/
  | refSettled (conv : Fin 2)
  /-- `VREF_CHECK` (R465). -/
  | vrefCheck (uv : Nat)
  /-- `DMA_RD_OFFSET` (R472). -/
  | dmaRdOffset (seat : SeatId) (conv : Fin 2) (value : BitVec 20)
  /-- `ABC_DWELL` (R476). The number in the dwell of each conversion made, rising, and its voltage in microvolts; and VREF_HK. -/
  | abcDwell (samples : List (Nat × Int)) (vref : Nat)
  /-- `ABC_RELOCK` (R478). -/
  | abcRelock (req : Request)
  /-- `ITL_LOOP_QUERY` (R485). -/
  | itlLoopQuery (req : Request)
  /-- `ITL_TX_PACKET` (R480). -/
  | itlTxPacket
  /-- `ITL_RESPONSE` (R480). -/
  | itlResponse (bytes : Vector Byte 4)
  /-- `ITL_RSP_TIMEOUT` (R480). -/
  | itlRspTimeout
  /-- `FTF_LOOP_PERIOD` (R481). -/
  | ftfLoopPeriod
  /-- `HELLO_SEND` (R492). -/
  | helloSend
  /-- `HELLO_RX` (R492). -/
  | helloRx (port : Fin 2) (bytes : List Byte)
  /-- `ROSTER_RX` (R497). -/
  | rosterRx (port : Fin 2) (bytes : List Byte)
  /-- `NAK_RX` (R504). -/
  | nakRx (port : Fin 2) (bytes : List Byte)
  /-- `POLICY_RX` (R501). -/
  | policyRx (port : Fin 2) (bytes : List Byte)
  /-- `POLICY_ACK_RX` (R502). -/
  | policyAckRx (port : Fin 2) (bytes : List Byte)
  /-- `NP_STATUS_RX` (R513). -/
  | npStatusRx (port : Fin 2) (bytes : List Byte)
  /-- `NP_SELECT_RX` (R514). -/
  | npSelectRx (port : Fin 2) (bytes : List Byte)
  /-- `HOST_FRAME_RX` (R503). -/
  | hostFrameRx (port : Fin 2) (bytes : List Byte)
  /-- `DOM_HOST_TX` (R503). -/
  | domHostTx
  /-- `NEIGHBOUR_LOST` (R492). -/
  | neighbourLost (port : Fin 2) (id : Nat)
  /-- `REACH_LOST` (R493). -/
  | reachLost (id : Nat)
  /-- `ROSTER_TIMEOUT` (R495). -/
  | rosterTimeout (id : Nat)
  /-- `TVL_PORT_LINK` (R492). -/
  | tvlPortLink (port : Fin 2) (up : Bool)
  /-- `FLINT_FORCE` (R510). -/
  | flintForce (req : Request)
  /-- `FLINT_LOCKOUT` (R510). -/
  | flintLockout (req : Request)
  /-- `DOM_POLICY_SEND` (R501). -/
  | domPolicySend (req : Request)
  /-- `DOM_ROSTER_ADOPT` (R498). -/
  | domRosterAdopt (req : Request)
  /-- `DOM_MEMBER_QUERY` (R518). -/
  | domMemberQuery (req : Request)
  /-- `NP_FORCE` (R518). -/
  | npForce (req : Request)
  /-- `FLINT_FRAME_TX` (R505). -/
  | flintFrameTx
  /-- `FLINT_FRAME_RX` (R505). -/
  | flintFrameRx (word : BitVec 16) (check : Byte)
  /-- `FLINT_HEALTH_CHANGE` (R506). -/
  | flintHealthChange
  /-- `FLINT_LINK_LOSS` (R505). -/
  | flintLinkLoss
  /-- `FLINT_WTR_EXPIRE` (R507). -/
  | flintWtrExpire
  /-- `NP_STATUS_TX` (R512). -/
  | npStatusTx
  /-- `NP_SELECT_TX` (R512). -/
  | npSelectTx
  /-- `NP_WTR_EXPIRE` (R513). -/
  | npWtrExpire
  /-- `NP_SELECT_TIMEOUT` (R515). -/
  | npSelectTimeout
  /-- `VIN_RISE` (R523). Whether the supply had fallen below 2.5 V. -/
  | vinRise (lost : Bool)
  /-- `VIN_LOW` (R524). -/
  | vinLow
  /-- `VIN_LOW_CLEAR` (R524). -/
  | vinLowClear
  /-- `BROWN_OUT` (R524). -/
  | brownOut
  /-- `PORST_ASSERT` (R531). -/
  | porstAssert
  /-- `STARTUP_REFERENCE` (R531). -/
  | startupReference (straps : BitVec 8) (aonTemp : Int)
  /-- `RAILS_IN_REGULATION` (R532). -/
  | railsInRegulation
  /-- `MEMORY_SELFTEST_FILL` (R438). -/
  | memorySelftestFill (singles : List (Fin 6 × Nat)) (banks : List (Fin 64)) (failed : Bool)
  /-- `SEQ_BOOT_GO` (R533). -/
  | seqBootGo (seat : SeatId) (value : Word)
  /-- `FIRMWARE_VERIFIED` (R533). -/
  | firmwareVerified (slot : Fin 2) (version : Nat) (floor : Nat) (build : Nat)
  /-- `SEATS_READY` (R532). -/
  | seatsReady
  /-- `STARTUP_FAULT` (R535). -/
  | startupFault (cause : Fin 7)
  /-- `PHASE_FAILED` (R526). -/
  | phaseFailed (rail : Fin 7)
  /-- `RAIL_FAULT` (R527). -/
  | railFault (rail : Fin 7)
  /-- `AVS_UPDATE` (R528). -/
  | avsUpdate
  /-- `IIN_MEASURE` (R550). -/
  | iinMeasure (vinMv : Nat) (iin10mA : Nat)
  /-- `PWR_TOLERANCE` (R539). -/
  | pwrTolerance (req : Request)
  /-- `PWR_QUERY` (R548). -/
  | pwrQuery (req : Request)
  /-- `DEEPEN_HOLD_EXPIRE` (R540). -/
  | deepenHoldExpire (group : Fin 4)
  /-- `POWER_STATE_ENTERED` (R541). -/
  | powerStateEntered (group : Fin 4)
  /-- `POWER_STATE_EXITED` (R541). The measured exit time in microseconds. -/
  | powerStateExited (group : Fin 4) (us : Nat)
  /-- `THERMAL_READ` (R543). -/
  | thermalRead (readings : Vector Int 8)
  /-- `REG_IIN_PEAK_READ` (R549). -/
  | regIinPeakRead (seat : SeatId)
  /-- `THM_MAX_SEEN_READ` (R549). -/
  | thmMaxSeenRead (seat : SeatId)
  /-- `TAP_INSTRUCTION` (R585). -/
  | tapInstruction (code : Byte) (cells : List Bool)
  /-- `TAP_TEST_LOGIC_RESET` (R585). -/
  | tapTestLogicReset
  /-- `COARSE_SHIFT_SET` (R155). The blind spectral estimate in MHz. -/
  | coarseShiftSet (blindMHz : Int)
  /-- `FO_NEAR_LIMIT` (R148). The fine frequency offset in kHz. -/
  | foNearLimit (fineKHz : Int)
  /-- `DGD_LIMIT` (R138). -/
  | dgdLimit (dgdPsX10 : Nat)
  /-- `RX_BEACON_CLEAR` (R310). -/
  | rxBeaconClear
  /-- `COD_SELFTEST` (R230). The clusters that fail either part, and the Unit whose outer code, encoder or decoder fails. -/
  | codSelftest (failedClusters : BitVec 16) (failed : Option CodPart)
  /-- `ALIGNMENT_MARKER_LOSS` (R377). -/
  | alignmentMarkerLoss (port : Fin 16)
  /-- `PCS_BLOCK_ERROR` (R377). -/
  | pcsBlockError (port : Fin 16)
  /-- `FW_FETCH_UNCORRECTABLE` (R440). -/
  | fwFetchUncorrectable (word : Nat) (poisoned : Bool)
  /-- `DATA_PATH_READ_ERROR` (R440). The memory read, its word and the bits that have gone wrong. -/
  | dataPathReadError (read : DataRead) (word : Nat) (mask : Nat)
  /-- `HKD_RAMP_DONE` (R474). -/
  | hkdRampDone (dac : Fin 12)
  /-- `PCIE_PERST_RELEASE` (R532). -/
  | pciePerstRelease
  /-- `RING_ENTRY_WRITE` (R441). Bytes written into the seat's command ring and the bits upset while it happens. -/
  | ringEntryWrite (seat : SeatId) (offset : Fin 8192) (bytes : List Byte) (flips : Nat)
deriving DecidableEq, Repr

end Sys2Proof
end

