-- ==== Sys2Proof/Decode.lean ====
section
/-!
DEFINITION. The command that a word spells by the bits of the table: the rows of spec/opcode_table.json give no bits, since a
command is an event or an access and not a word, so no word spells one. A Gound request header is decoded by `Machine.Header.ofNat`.
-/
namespace Sys2Proof

/-- The command that a word spells: none. -/
def decodeTableWord (_nbits _w : Nat) : Option Instr := none

end Sys2Proof
end

