-- ==== Sys2Proof/Machine/Signal.lean ====
section
/-!
DEFINITION. The figures and codes of the line signal, as functions of the values in use: rates, entropies and the matched
entropy (chapter 5), Basalt blocks and their codes (chapter 6), and the line bit stream (chapter 7).
-/
namespace Sys2Proof.Machine

/-! ### Superframe (R174, Table 5.4) -/

/-- The pilot spacing S of a code (Table 5.5). -/
def pilotSpacing (code : Nat) : Nat := 32 * 2 ^ code

/-- Pilots per superframe and polarisation: one at every index from 256 on whose index minus 256 is a multiple of S. -/
def pilotCount (code : Nat) : Nat := (65536 - 256) / pilotSpacing code

/-- Payload symbols per superframe and polarisation (Table 5.4). -/
def payloadSymbols (code : Nat) : Nat := 65536 - 256 - pilotCount code

/-- What a symbol position of a superframe carries (R174, R176). -/
inductive SymbolKind where
  | sync
  | announcement
  | pilot
  | payload
deriving DecidableEq, Repr

/-- The kind of symbol position `i` at pilot spacing code `code`. -/
def symbolKind (code i : Nat) : SymbolKind :=
  if i < 128 then .sync
  else if i < 256 then .announcement
  else if (i - 256) % pilotSpacing code = 0 then .pilot
  else .payload

/-! ### Entropy (R168 to R170, Table 5.3) -/

/-- The overhead of a Basalt profile as the exact ratio a/b (Table 6.2). -/
def overhead (fec : Nat) : Nat × Nat :=
  match fec with
  | 0 => (111, 1000)
  | 1 => (3, 20)
  | 2 => (1, 5)
  | _ => (27, 100)

/-- The lowest and highest `ENTROPY_X64` of a constellation (Table 5.3). -/
def entropyRange (constellation : Nat) : Nat × Nat :=
  match constellation with
  | 0 => (96, 128)
  | 1 => (128, 256)
  | 2 => (192, 384)
  | _ => (256, 448)

/-- The constellation can carry the entropy (R169). -/
def entropyFits (constellation entropy : Nat) : Bool :=
  decide ((entropyRange constellation).1 ≤ entropy ∧ entropy ≤ (entropyRange constellation).2)

/-- The matcher is in use: below the upper end of the range, and always at 256QAM (R169). -/
def isShaped (constellation entropy : Nat) : Bool :=
  decide (constellation = 3 ∨ entropy < (entropyRange constellation).2)

/-- 2 × Rs × H × f_p / (1 + OH) ≥ R_F with Rs = `k`/8 GBd, H = `e`/64, f_p = `ps`/65,536, OH = a/b and
R_F = `c` × 26.314535 Gb/s, multiplied out (R170) (DEDUCED, log entry 58). -/
def carries (k ps fec c e : Nat) : Bool :=
  decide (c * 26314535 * (8 * 64 * 65536) * ((overhead fec).1 + (overhead fec).2) ≤
    2 * k * e * ps * (overhead fec).2 * 1000000)

/-- The smallest entropy on the 1/64 grid that carries the capacity (R170) (DEDUCED, log entry 58). -/
def smallestEntropy (k ps fec c : Nat) : Nat :=
  let num := c * 26314535 * (8 * 64 * 65536) * ((overhead fec).1 + (overhead fec).2)
  let den := 2 * k * ps * (overhead fec).2 * 1000000
  (num + den - 1) / den

/-- The matched entropy H_m: raised to the lower end of the constellation's range (R170). -/
def matchedEntropy (k ps fec c constellation : Nat) : Nat :=
  max (smallestEntropy k ps fec c) (entropyRange constellation).1

/-! ### Basalt profiles (R203, R204, R226) -/

/-- The pre-FEC BER threshold in parts per 10^9: Table 6.2, or that of an interoperable mode (R226). -/
def fecThreshold (fec : Nat) : Nat :=
  match fec with
  | 0 => 19000000
  | 1 => 24000000
  | 2 => 31000000
  | 3 => 42000000
  | 4 => 12200000
  | _ => 20000000

/-- The threshold factor of an effective cap in hundredths (Table 6.3); a cap not listed takes the factor of the next
lower one. -/
def capFactor (cap : Nat) : Nat :=
  if 24 ≤ cap then 100 else if 20 ≤ cap then 99 else if 16 ≤ cap then 96 else if 12 ≤ cap then 90
  else if 8 ≤ cap then 80 else if 6 ≤ cap then 72 else if 4 ≤ cap then 62 else if 3 ≤ cap then 55 else 45

/-- The threshold at a lower effective cap (R204). -/
def thresholdAtCap (fec cap : Nat) : Nat := fecThreshold fec * capFactor cap / 100

/-- The fixed decoder delay in symbol periods (Table 6.2, R226). -/
def fixedDelay (fec : Nat) : Nat :=
  match fec with
  | 0 => 491520
  | 1 => 540672
  | 2 => 589824
  | 3 => 655360
  | 4 => 262144
  | _ => 524288

/-- Label bits per block and slots that can hold parity (Table 6.4). -/
def blockLabels (constellation : Nat) : Nat × Nat :=
  match constellation with
  | 0 => (4096, 3072)
  | 1 => (8192, 4096)
  | 2 => (12288, 4096)
  | _ => (16384, 4096)

/-- The total parity P of a block (R207). -/
def totalParity (e fec : Nat) : Nat := 32 * e * (overhead fec).1 / ((overhead fec).1 + (overhead fec).2)

/-- The client bits D of a block (R207). -/
def clientBits (e fec : Nat) : Nat := 32 * e - totalParity e fec

/-- The inner parity P_i of a block (R207). -/
def innerParity (e fec : Nat) : Nat := totalParity e fec - 42

/-- The information labels K_i of a block (R209). -/
def infoLabels (constellation e fec : Nat) : Nat := (blockLabels constellation).1 - innerParity e fec

/-- The connections d of each check (R209). -/
def checkDegree (constellation e fec : Nat) : Nat :=
  (3 * infoLabels constellation e fec + innerParity e fec - 1) / innerParity e fec

/-- The information label that connection `j` of check `c` names: which block back, and its index (R209). -/
def checkTerm (ki d c j : Nat) : Nat × Nat := (j % 3, (c * (8 * j + 1) + j * ki / d) % ki)

/-- The sum of the information labels of check `c`; `u` holds blocks t, t - 1 and t - 2 (R209). -/
def checkSum (u : List (List Bool)) (ki d c : Nat) : Bool :=
  (List.range d).foldl
    (fun s j =>
      let t := checkTerm ki d c j
      xor s (((u.getD t.1 []).getD t.2 false))) false

/-- The parity bits of a block in order of c (R209) (DEDUCED, log entry 92). -/
def innerParityBits (u : List (List Bool)) (ki d pi : Nat) : List Bool :=
  ((List.range pi).foldl
    (fun (acc : List Bool × Bool) c =>
      let p := xor acc.2 (checkSum u ki d c)
      (acc.1 ++ [p], p)) ([], false)).1

/-- Slot `j` of the S slots of a block is a parity slot (R210 item 4). -/
def isParitySlot (pi s j : Nat) : Bool := decide (j * pi / s < (j + 1) * pi / s)

/-- The binary-reflected Gray label of an amplitude index (R206) (DEDUCED, log entry 92). -/
def grayLabel (a : Nat) : Nat := a ^^^ (a / 2)

/-- The level of an amplitude index and sign bit: 2a + 1, positive for a sign bit of 0 (R206). -/
def pamLevel (a : Nat) (sign : Bool) : Int := if sign then -(2 * a + 1 : Int) else 2 * a + 1

/-- The lowest `n` bits of a number, most significant first. -/
def bitsOf (n v : Nat) : List Bool := (List.range n).map fun i => decide (bits v (n - 1 - i) 1 = 1)

/-- The label bits of one symbol period, from the amplitude index and sign bit of XI, XQ, YI and YQ (R206): for QPSK the sign bits of XI, XQ and
YI and the XOR of all four, else for each dimension the amplitude label and the sign bit. -/
def periodLabels (constellation : Nat) (dims : List (Nat × Bool)) : List Bool :=
  if constellation = 0 then (dims.map Prod.snd).take 3 ++ [(dims.map Prod.snd).foldl xor false]
  else dims.flatMap fun d => bitsOf constellation (grayLabel d.1) ++ [d.2]

/-- The sign bits of XI, XQ, YI and YQ that four QPSK labels stand for (R172, R206). -/
def qpskSigns (labels : List Bool) : List Bool := labels.take 3 ++ [labels.foldl xor false]

/-- The parity slot number of label `i` of a block, if it lies in a slot of Table 6.4. -/
def slotOfLabel (constellation i : Nat) : Option Nat :=
  if constellation = 0 then (if i % 4 < 3 then some (i / 4 * 3 + i % 4) else none)
  else if i % (constellation + 1) = constellation then some (i / (constellation + 1)) else none

/-- Label `i` of a block holds parity (R210 item 4). -/
def isParityLabel (constellation pi i : Nat) : Bool :=
  (slotOfLabel constellation i).any fun j => isParitySlot pi (blockLabels constellation).2 j

/-- The information bits of a block as they are split (R210): the inputs of the matchers, XI, XQ, YI and YQ or the one of QPSK, and the bits
that fill the other slots. -/
def splitInformation (constellation k : Nat) (info : List Bool) : List (List Bool) × List Bool :=
  let n := if constellation = 0 then 1 else 4
  ((List.range n).map fun m => (info.drop (m * k)).take k, info.drop (n * k))

/-- Put a block together, label by label (R210): the labels that matchers or a bypass give, the filling bits and the parity bits, each in its
order. -/
def placeLabels (constellation pi : Nat) (shaped fill parity : List Bool) : List Bool :=
  ((List.range (blockLabels constellation).1).foldl
    (fun (acc : List Bool × List Bool × List Bool × List Bool) i =>
      match slotOfLabel constellation i with
      | none => (acc.1 ++ [acc.2.1.headD false], acc.2.1.tail, acc.2.2)
      | some j =>
        if isParitySlot pi (blockLabels constellation).2 j then
          (acc.1 ++ [acc.2.2.2.headD false], acc.2.1, acc.2.2.1, acc.2.2.2.tail)
        else (acc.1 ++ [acc.2.2.1.headD false], acc.2.1, acc.2.2.1.tail, acc.2.2.2)) ([], shaped, fill, parity)).1

/-- The information labels of a block in label order: all but the parity slots (R209). -/
def informationLabels (constellation pi : Nat) (labels : List Bool) : List Bool :=
  (labels.zipIdx.filter fun x => !isParityLabel constellation pi x.2).map Prod.fst

/-- The number that bits stand for, the first one most significant. -/
def numberOf (bs : List Bool) : Nat := bs.foldl (fun n b => 2 * n + (if b then 1 else 0)) 0

/-- Label bits of the symbol periods of a block in label order: in each period `width` bits of each stream in turn (R206). -/
def interleave (width : Nat) (streams : List (List Bool)) : List Bool :=
  (List.range 1024).flatMap fun t => streams.flatMap fun b => (b.drop (width * t)).take width

/-- The labels of a block with its inner parity, from those of its shaped and filling bits (R209 to R211); `u1` and `u2` are the information
labels of the two blocks before it in its chain, all zero before its start. -/
def encodeBlock (constellation e fec : Nat) (shaped fill u1 u2 : List Bool) : List Bool :=
  let pi := innerParity e fec
  let u := informationLabels constellation pi (placeLabels constellation pi shaped fill [])
  placeLabels constellation pi shaped fill
    (innerParityBits [u, u1, u2] (infoLabels constellation e fec) (checkDegree constellation e fec) pi)

/-! ### BCH codes (R177, R208) -/

/-- The product of two field elements, polynomial basis, modulo the field polynomial of degree `m`. -/
def gfMul (m poly : Nat) (a b : Nat) : Nat :=
  ((List.range m).foldl
    (fun (acc : Nat × Nat) i =>
      let sum := if bits b i 1 = 1 then acc.1 ^^^ acc.2 else acc.1
      let dbl := acc.2 * 2
      (sum, if 2 ^ m ≤ dbl then dbl ^^^ poly else dbl)) (0, a)).1

/-- The powers of the field's primitive element x, up to an exponent. -/
def gfPowers (m poly n : Nat) : List Nat :=
  ((List.range n).foldl (fun (acc : List Nat × Nat) _ => (acc.1 ++ [acc.2], gfMul m poly acc.2 2)) ([], 1)).1

/-- A power of the primitive element. -/
def gfPow (m poly : Nat) (e : Nat) : Nat := (List.range e).foldl (fun a _ => gfMul m poly a 2) 1

/-- Multiply a polynomial with field coefficients, lowest first, by (x + r). -/
def mulRoot (m poly : Nat) (p : List Nat) (r : Nat) : List Nat :=
  List.zipWith (fun a b => a ^^^ b) (0 :: p) ((p.map fun c => gfMul m poly c r) ++ [0])

/-- The minimal polynomial of the `e`-th power of the primitive element as a binary number: the product of (x + c) over
its conjugates. -/
def minimalPoly (m poly e : Nat) : Nat :=
  let root := gfPow m poly e
  let conj := ((List.range m).foldl (fun (acc : List Nat × Nat) _ =>
    (if acc.1.contains acc.2 then acc.1 else acc.1 ++ [acc.2], gfMul m poly acc.2 acc.2)) ([], root)).1
  ((conj.foldl (fun p r => mulRoot m poly p r) [1]).zipIdx.foldl (fun n c => n + c.1 * 2 ^ c.2) 0)

/-- The product of two binary polynomials. -/
def polyMul (a b : Nat) : Nat :=
  (List.range (b.log2 + 1)).foldl (fun s i => if bits b i 1 = 1 then s ^^^ (a * 2 ^ i) else s) 0

/-- The remainder of a binary polynomial of degree below `n` modulo another. -/
def polyMod (n a g : Nat) : Nat :=
  (List.range n).foldl
    (fun r i =>
      let k := n - 1 - i
      if bits r k 1 = 1 ∧ g.log2 ≤ k then r ^^^ (g * 2 ^ (k - g.log2)) else r) a

/-- The generator of the outer code: narrow-sense, three errors, over GF(2^14) with x^14 + x^5 + x^3 + x + 1
(R208). -/
def outerGenerator : Nat :=
  polyMul (polyMul (minimalPoly 14 0x402B 1) (minimalPoly 14 0x402B 3)) (minimalPoly 14 0x402B 5)

/-- The 42 check bits of an outer codeword: `data` has the first client bit as its highest of `d` bits (R208) (DEDUCED, log entry 92). -/
def outerCheck (d data : Nat) : Nat := polyMod (d + 42) (data * 2 ^ 42) outerGenerator

/-- The information bits of a block: its client bits and their outer check (R208, R210); those of a termination block are all zero (R205). -/
def blockInformation (e fec : Nat) (termination : Bool) (client : List Bool) : List Bool :=
  if termination then List.replicate (clientBits e fec + 42) false
  else
    let data := client.take (clientBits e fec)
    data ++ bitsOf 42 (outerCheck (clientBits e fec) (numberOf data))

/-- The generator of the announcement code: the narrow-sense BCH code of length 127 correcting 10 errors, with field
polynomial x^7 + x^3 + 1 (R177). -/
def headerGenerator : Nat :=
  [3, 5, 7, 9, 11, 13, 15, 19].foldl (fun g e => polyMul g (minimalPoly 7 0x89 e)) (minimalPoly 7 0x89 1)

/-- The parity of a number's lowest `n` bits. -/
def parityOf (n v : Nat) : Nat := ((List.range n).foldl (fun s i => s + bits v i 1) 0) % 2

/-- The 128 bits of an announcement codeword in the order sent, the first one highest: 64 information bits, bit 63 first,
63 check bits and the parity bit (R177). -/
def announceCode (word : Nat) : Nat :=
  let c := word * 2 ^ 63 + polyMod 127 (word * 2 ^ 63) headerGenerator
  2 * c + parityOf 127 c

/-! ### Announcement words (Table 5.5) -/

/-- Word A. -/
structure WordA where
  sf : Nat
  entropy : Nat
  pilots : Nat
  capacity : Nat
  pending : Bool
  version : Nat := 1
deriving DecidableEq, Repr

/-- Word B. -/
structure WordB where
  countdown : Nat := 0
  nextEntropy : Nat
  nextPilots : Nat
  nextCapacity : Nat
  changeId : Nat := 0
deriving DecidableEq, Repr

/-- The 64 bits of word A. -/
def WordA.toNat (a : WordA) : Nat :=
  fieldAt a.sf 0 32 + fieldAt a.entropy 32 9 + fieldAt a.pilots 41 2 + fieldAt a.capacity 43 8 +
    fieldAt (bit a.pending) 51 1 + fieldAt a.version 52 4

/-- Word A of 64 bits. -/
def WordA.ofNat (w : Nat) : WordA :=
  { sf := bits w 0 32, entropy := bits w 32 9, pilots := bits w 41 2, capacity := bits w 43 8,
    pending := bits w 51 1 = 1, version := bits w 52 4 }

/-- The 64 bits of word B. -/
def WordB.toNat (b : WordB) : Nat :=
  fieldAt b.countdown 0 16 + fieldAt b.nextEntropy 16 9 + fieldAt b.nextPilots 25 2 + fieldAt b.nextCapacity 27 8 +
    fieldAt b.changeId 35 16

/-- Word B of 64 bits. -/
def WordB.ofNat (w : Nat) : WordB :=
  { countdown := bits w 0 16, nextEntropy := bits w 16 9, nextPilots := bits w 25 2, nextCapacity := bits w 27 8,
    changeId := bits w 35 16 }

/-! ### Distribution matcher (R171, R172) -/

/-- The input bits k of a matcher block: 512 × H - 1,024 for amplitudes, 2,048 × H - 3,072 for QPSK, with H = e/64 (DEDUCED, log entry 92). -/
def matcherBits (constellation e : Nat) : Nat := if constellation = 0 then 32 * e - 3072 else 8 * e - 1024

/-- The factorial. -/
def fact : Nat → Nat
  | 0 => 1
  | n + 1 => (n + 1) * fact n

/-- The number of distinct sequences of a composition. -/
def sequences (c : List Nat) : Nat := fact c.sum / (c.map fact).foldl (· * ·) 1

/-- The total energy of a composition of amplitude levels: index a stands for the level 2a + 1. -/
def energy (c : List Nat) : Nat := (c.zipIdx.map fun x => x.1 * (2 * x.2 + 1) * (2 * x.2 + 1)).sum

/-- The composition that the amplitude matcher uses (R171): least total energy among those with at least 2^k sequences;
ties go to the one with more of the smaller amplitudes. -/
def UsesComposition (levels k : Nat) (c : List Nat) : Prop :=
  c.length = levels ∧ c.sum = 1024 ∧ 2 ^ k ≤ sequences c ∧
    ∀ d : List Nat, d.length = levels → d.sum = 1024 → 2 ^ k ≤ sequences d →
      energy c < energy d ∨ (energy c = energy d ∧ (c = d ∨ List.Lex (· > ·) c d))

/-- The composition that the QPSK matcher uses (R172): the smallest number of ones whose binomial count is at least
2^k. -/
def UsesOnes (k ones : Nat) : Prop :=
  2 ^ k ≤ sequences [1024 - ones, ones] ∧ ∀ m, m < ones → sequences [1024 - m, m] < 2 ^ k

/-- The rank of a sequence among all of its composition in lexicographic order of amplitude index (R171). -/
def rankOf (levels : Nat) : List Nat → Nat
  | [] => 0
  | a :: as =>
    let count := fun (v : Nat) => ((a :: as).filter fun x => x == v).length
    let below := ((List.range a).map fun v =>
      if count v = 0 then 0 else sequences ((List.range levels).map fun x => if x = v then count x - 1 else count x)).sum
    below + rankOf levels as

/-- Every composition of `n` symbols over some levels. -/
def compositions : Nat → Nat → List (List Nat)
  | 0, n => if n = 0 then [[]] else []
  | l + 1, n => (List.range (n + 1)).flatMap fun a => (compositions l (n - a)).map (a :: ·)

/-- A composition has more of the smaller amplitudes than another. -/
def moreOfSmaller : List Nat → List Nat → Bool
  | a :: as, b :: bs => decide (b < a) || (decide (a = b) && moreOfSmaller as bs)
  | _, _ => false

/-- The matcher takes the first composition rather than the second (R171). -/
def preferred (c d : List Nat) : Bool := decide (energy c < energy d) || (decide (energy c = energy d) && moreOfSmaller c d)

/-- The composition of a matcher block (R171, R172), found by looking at each one: that of `UsesComposition`, or for QPSK that of `UsesOnes`. -/
def matcherComposition (constellation e : Nat) : List Nat :=
  let k := matcherBits constellation e
  if constellation = 0 then
    let ones := ((List.range 1025).find? fun m => decide (2 ^ k ≤ sequences [1024 - m, m])).getD 0
    [1024 - ones, ones]
  else
    ((compositions (2 ^ constellation) 1024).filter fun c => decide (2 ^ k ≤ sequences c)).foldl
      (fun best c => if best = [] ∨ preferred c best then c else best) []

/-- The sequence of a composition with a rank in lexicographic order of amplitude index (R171): `rankOf` undone. -/
def sequenceOf : Nat → List Nat → Nat → List Nat
  | 0, _, _ => []
  | n + 1, c, r =>
    let without := fun (v : Nat) => c.zipIdx.map fun x => if x.2 = v then x.1 - 1 else x.1
    let ways := fun (v : Nat) => if c.getD v 0 = 0 then 0 else sequences (without v)
    let pick := (List.range c.length).foldl
      (fun (acc : Option Nat × Nat) v =>
        if acc.1.isSome then acc else if acc.2 < ways v then (some v, acc.2) else (none, acc.2 - ways v)) (none, r)
    let v := pick.1.getD 0
    v :: sequenceOf n (without v) pick.2

/-- The matcher (R171, R172): the 1,024 amplitude indices, or for QPSK the XORs, that k input bits select. -/
def matcherBlock (constellation e : Nat) (input : List Bool) : List Nat :=
  sequenceOf 1024 (matcherComposition constellation e) (numberOf input)

/-- A matcher block that is closed early after `n` symbol periods: its remaining positions carry the smallest amplitude, or an XOR of 0
(R173). -/
def closeEarly (n : Nat) (block : List Nat) : List Nat := block.take n ++ List.replicate (1024 - n) 0

/-- The label bits that amplitude indices or QPSK XORs stand for (R206). -/
def amplitudeLabels (constellation : Nat) (block : List Nat) : List Bool :=
  block.flatMap fun a => if constellation = 0 then [decide (a = 1)] else bitsOf constellation (grayLabel a)

/-- The shaped labels of a block in label order, from the inputs of the matchers (R206, R210): what each matcher selects, as far as `n` symbol
periods, or with the matcher bypassed its input bits in order. -/
def shapedLabels (constellation e : Nat) (shaped : Bool) (n : Nat) (inputs : List (List Bool)) : List Bool :=
  interleave (max 1 constellation)
    (inputs.map fun b => if shaped then amplitudeLabels constellation (closeEarly n (matcherBlock constellation e b)) else b)

/-- The amplitude index of a Gray label (R206): `grayLabel` undone. -/
def grayIndex (width label : Nat) : Nat := ((List.range (2 ^ width)).find? fun a => grayLabel a == label).getD 0

/-- The points of X and Y that the label bits of one symbol period stand for (R206). -/
def pointsOf (constellation : Nat) (labels : List Bool) : (Int × Int) × (Int × Int) :=
  let level := fun (d : Nat) =>
    if constellation = 0 then pamLevel 0 ((qpskSigns labels).getD d false)
    else
      let b := (labels.drop (d * (constellation + 1))).take (constellation + 1)
      pamLevel (grayIndex constellation (numberOf (b.take constellation))) (b.getD constellation false)
  ((level 0, level 1), (level 2, level 3))

/-! ### Line bit stream (R240, R241) and random sequences -/

/-- Numerator and denominator of Q_b (R240). -/
def blockQuota (c k ps : Nat) : Nat × Nat := (c * 58077 * 2 ^ 34, 70625 * k * ps)

/-- The bits A_n of the OTUCn stream that block `n` of a chain carries (R240). -/
def streamBits (c k ps n : Nat) : Nat :=
  n * (blockQuota c k ps).1 / (blockQuota c k ps).2 - (n - 1) * (blockQuota c k ps).1 / (blockQuota c k ps).2

/-- One step of the sequence x^a + x^b + 1: the register shifts towards its top, and the new bit, the sum of stages a
and b, is sent (DEDUCED, log entry 58). -/
def prbsStep (a b reg : Nat) : Nat × Nat :=
  let n := (bits reg (a - 1) 1 + bits reg (b - 1) 1) % 2
  (n, (reg * 2 + n) % 2 ^ a)

/-- The first `n` bits of a sequence from a seed. -/
def prbs (a b seed n : Nat) : List Nat :=
  ((List.range n).foldl (fun (acc : List Nat × Nat) _ =>
    let r := prbsStep a b acc.2
    (acc.1 ++ [r.1], r.2)) ([], seed)).1

/-- The two bits of pilot `i` of a polarisation (R175): x^15 + x^14 + 1, seeded with 0x0001 for X and 0x4000 for Y (DEDUCED, log entry 58). -/
def pilotBits (y : Bool) (i : Nat) : List Nat := ((prbs 15 14 (if y then 0x4000 else 0x0001) (2 * i + 2)).drop (2 * i))

/-- The two bits of sync symbol `i` (R176). -/
def syncBits (y : Bool) (i : Nat) : List Nat := ((prbs 15 14 (if y then 0x25A5 else 0x5A5A) (2 * i + 2)).drop (2 * i))

/-- The first `n` bits of the line scrambler (R241): x^31 + x^28 + 1 from all ones. -/
def scrambler (n : Nat) : List Nat := prbs 31 28 (2 ^ 31 - 1) n

end Sys2Proof.Machine
end

