-- ==== Sys2Proof/Machine/Aes.lean ====
section
/-!
DEFINITION. AES-256 (FIPS 197) and GCM with 96-bit IVs and 128-bit tags (NIST SP 800-38D), as SEC uses them (R270, R276).
Blocks are lists of 16 byte numbers in the standards' order.
-/
namespace Sys2Proof.Machine

/-- The S-box: the inverse in GF(2^8) modulo x^8 + x^4 + x^3 + x + 1, then the affine map. -/
def aesSbox (b : Nat) : Nat :=
  let m := gfMul 8 0x11B
  let sq := fun a => m a a
  let p2 := sq b
  let p4 := sq p2
  let p8 := sq p4
  let p16 := sq p8
  let p32 := sq p16
  let p64 := sq p32
  let inv := m (m (m (m (m (m p2 p4) p8) p16) p32) p64) (sq p64)
  let rot := fun (k : Nat) => (inv * 2 ^ k / 256) ^^^ (inv * 2 ^ k % 256)
  inv ^^^ rot 1 ^^^ rot 2 ^^^ rot 3 ^^^ rot 4 ^^^ 0x63

/-- XOR of two byte lists. -/
def xorBytes (a b : List Nat) : List Nat := List.zipWith (· ^^^ ·) a b

/-- The next word of the key schedule: `ws` holds the words so far, the latest first (key length 8 words). -/
def keyScheduleStep (ws : List (List Nat)) : List (List Nat) :=
  let i := ws.length
  let t := ws.headD []
  let old := ws.getD 7 []
  let t :=
    if i % 8 = 0 then
      match (t.drop 1 ++ t.take 1).map aesSbox with
      | x :: r => (x ^^^ 2 ^ (i / 8 - 1)) :: r
      | [] => []
    else if i % 8 = 4 then t.map aesSbox
    else t
  xorBytes old t :: ws

/-- The 15 round keys of 16 bytes of a 32-byte key. -/
def roundKeys (key : List Nat) : List (List Nat) :=
  let ws0 := ((List.range 8).map fun i => (key.drop (4 * i)).take 4).reverse
  let ws := ((List.range 52).foldl (fun ws _ => keyScheduleStep ws) ws0).reverse
  (List.range 15).map fun r => ((ws.drop (4 * r)).take 4).flatten

/-- `ShiftRows`: byte r of column c comes from column c + r. -/
def shiftRows (b : List Nat) : List Nat := (List.range 16).map fun i => b.getD ((i + 4 * (i % 4)) % 16) 0

/-- `MixColumns`. -/
def mixColumns (b : List Nat) : List Nat :=
  (List.range 16).map fun i =>
    let at_ := fun k => b.getD (i / 4 * 4 + (i + k) % 4) 0
    gfMul 8 0x11B 2 (at_ 0) ^^^ gfMul 8 0x11B 3 (at_ 1) ^^^ at_ 2 ^^^ at_ 3

/-- AES-256 encryption of one block. -/
def aes256 (key block : List Nat) : List Nat :=
  match roundKeys key with
  | [] => []
  | k0 :: rest =>
    let mid := rest.take 13
    let b := mid.foldl (fun b k => xorBytes (mixColumns (shiftRows (b.map aesSbox))) k) (xorBytes block k0)
    xorBytes (shiftRows (b.map aesSbox)) (rest.getD 13 [])

/-- The number of a byte list, first byte highest. -/
def beNat (bs : List Nat) : Nat := bs.foldl (fun a b => a * 256 + b) 0

/-- The `n` bytes of a number, first byte highest. -/
def beBytes (n v : Nat) : List Nat := (List.range n).map fun i => v / 256 ^ (n - 1 - i) % 256

/-- The product in GF(2^128) of GCM: bit 127 of the number is the first bit of the block. -/
def ghashMul (x y : Nat) : Nat :=
  ((List.range 128).foldl
    (fun (zv : Nat × Nat) i =>
      let z := if bits x (127 - i) 1 = 1 then zv.1 ^^^ zv.2 else zv.1
      let v := if zv.2 % 2 = 1 then (zv.2 / 2) ^^^ (0xE1 * 2 ^ 120) else zv.2 / 2
      (z, v)) (0, y)).1

/-- GHASH of a byte list cut into blocks, the last one filled with zeros, from an accumulator. -/
def ghash (h acc : Nat) (bs : List Nat) : Nat :=
  (List.range ((bs.length + 15) / 16)).foldl
    (fun a i =>
      let blk := (bs.drop (16 * i)).take 16
      ghashMul (a ^^^ beNat (blk ++ List.replicate (16 - blk.length) 0)) h) acc

/-- Encrypt one block of GCM's counter sequence: the 96-bit IV and a 32-bit count. -/
def gcmBlock (key : List Nat) (iv n : Nat) : List Nat := aes256 key (beBytes 12 iv ++ beBytes 4 n)

/-- GCM encryption, which is also its decryption: the text XOR the encrypted counts from 2 on (DESIGN CHOICE, log entry 74). -/
def gcmCipher (key : List Nat) (iv : Nat) (text : List Nat) : List Nat :=
  (List.range ((text.length + 15) / 16)).flatMap fun i => xorBytes ((text.drop (16 * i)).take 16) (gcmBlock key iv (i + 2))

/-- The GHASH accumulator after the additional data and `n` blocks of the ciphertext. -/
def gcmAccumulator (key : List Nat) (aad cipher : List Nat) (n : Nat) : Nat :=
  let h := beNat (aes256 key (List.replicate 16 0))
  ghash h (ghash h 0 aad) (cipher.take (16 * n))

/-- The 128-bit GCM tag of additional data and ciphertext. -/
def gcmTag (key : List Nat) (iv : Nat) (aad cipher : List Nat) : Nat :=
  let h := beNat (aes256 key (List.replicate 16 0))
  let g := ghash h (ghash h 0 aad) cipher
  ghashMul (g ^^^ (8 * aad.length * 2 ^ 64 + 8 * cipher.length)) h ^^^ beNat (gcmBlock key iv 1)

/-- GCM authenticated encryption with a 96-bit IV: the ciphertext and the 128-bit tag. -/
def gcmEncrypt (key : List Nat) (iv : Nat) (aad plain : List Nat) : List Nat × Nat :=
  (gcmCipher key iv plain, gcmTag key iv aad (gcmCipher key iv plain))

/-- The bytes of eight key words, the first byte lowest in word 0 (R276). -/
def keyBytes (k : Vector Word 8) : List Nat := k.toList.flatMap fun w => (leBytes 4 w.toNat).map BitVec.toNat

/-- The key check value (R276): the first three bytes of the encryption of the zero block, least significant first. -/
def keyCheckValue (k : Vector Word 8) : Nat :=
  match aes256 (keyBytes k) (List.replicate 16 0) with
  | a :: b :: c :: _ => a + 256 * b + 65536 * c
  | _ => 0

end Sys2Proof.Machine
end

