-- ==== Sys2Proof/Machine/CipherFrame.lean ====
section
/-!
DEFINITION. The frames of a cipher channel (R267 to R271, R286): the cipher overhead, the parity, the authenticated bytes and
the enciphered payload of a segment, as sent and as received.
-/
namespace Sys2Proof.Machine

/-- BIP-8 of a byte string. -/
def bip8 (bs : List Byte) : Byte := bs.foldl (fun a b => a ^^^ b) 0

/-- The index of row `row`, column `col` of columns 1 to 16 in the overhead bytes of a slice, which are in row order. -/
def overheadAt (row col : Nat) : Nat := 16 * (row - 1) + (col - 1)

/-- Replace bytes by index. -/
def putBytes (ps : List (Nat × Byte)) (bs : List Byte) : List Byte :=
  bs.zipIdx.map fun x => ((ps.find? fun p => p.1 == x.2).map Prod.snd).getD x.1

/-- The area that the PM BIP-8 of a slice covers, columns 15 to 3,824: the BIP-8 of a frame is carried two frames later, in row 3, column 11
(G.709) (PRESUMED, log entry 106). -/
def pmBipOf (x : OduSlice) : Byte :=
  bip8 ((x.overhead.zipIdx.filter fun y => 14 ≤ y.2 % 16).map Prod.fst ++ x.payload)

/-- Carry the PM BIP-8 of frames as they are: `queue` holds, oldest first, those of up to two frames before, one byte per slice. The frames,
and the queue after them (R268) (PRESUMED, log entry 106). -/
def carryBip (queue : List (List Byte)) (frames : List OduFrame) : List OduFrame × List (List Byte) :=
  frames.foldl
    (fun (acc : List OduFrame × List (List Byte)) f =>
      let sent := match acc.2 with
        | old :: _ :: _ => f.zipIdx.map fun x =>
            { x.1 with overhead := putBytes [(overheadAt 3 11, old.getD x.2 0)] x.1.overhead }
        | _ => f
      (acc.1 ++ [sent], ((acc.2 ++ [sent.map pmBipOf]).drop (acc.2.length - 1)))) ([], queue)

/-- The cipher overhead of frame `f` of a segment (Table 8.2): `control` is that of frame 0, with `SOS`. -/
def cipherOverhead (f control epoch counter : Nat) (tag : Option Nat) : List (Nat × Byte) :=
  let first := fun (n : Nat) => if f < 4 then BitVec.ofNat 8 n else 0
  let tagBytes := (tag.map (beBytes 16)).getD []
  ((List.range 4).map fun j => (overheadAt 4 (9 + j), first (tagBytes.getD (4 * f + j) 0))) ++
    [(overheadAt 4 13, BitVec.ofNat 8 (if f = 0 then control else control - 1)),
     (overheadAt 4 14, if f < 3 then BitVec.ofNat 8 (epoch / 256 ^ f) else 0),
     (overheadAt 3 13, first (counter / 256 ^ (2 * f))), (overheadAt 3 14, first (counter / 256 ^ (2 * f + 1)))]

/-- Change the first slice of a frame, which carries the cipher overhead (R269). -/
def onFirst (g : OduSlice → OduSlice) : OduFrame → OduFrame
  | [] => []
  | x :: xs => g x :: xs

/-- The frames of a segment with their cipher overhead. -/
def withOverhead (control epoch counter : Nat) (tag : Option Nat) (frames : List OduFrame) : List OduFrame :=
  frames.zipIdx.map fun x => onFirst (fun y => { y with overhead := putBytes (cipherOverhead x.2 control epoch counter tag) y.overhead }) x.1

/-- The authenticated overhead bytes of a segment (R270): frame by frame, those of columns 1 to 16 that the mask selects; for
type 9 those of every slice, in order (DESIGN CHOICE, log entry 106). -/
def authBytes (mask : Nat) (frames : List OduFrame) : List Byte :=
  frames.flatten.flatMap fun x => (x.overhead.zipIdx.filter fun y => decide (bits mask y.2 1 = 1)).map Prod.fst

/-- The payload areas of a segment, in frame order, with slices in order (R270). -/
def payloadBytes (frames : List OduFrame) : List Byte := frames.flatten.flatMap OduSlice.payload

/-- Cut a byte string back into the payload areas of frames. -/
def withPayload (bs : List Byte) (frames : List OduFrame) : List OduFrame :=
  (frames.foldl
    (fun (acc : List OduFrame × List Byte) f =>
      let r := f.foldl (fun (a : OduFrame × List Byte) x =>
        (a.1 ++ [{ x with payload := a.2.take x.payload.length }], a.2.drop x.payload.length)) (([] : OduFrame), acc.2)
      (acc.1 ++ [r.1], r.2)) ([], bs)).1

/-- The frames of a segment from block `n` on: frames that lie before it wholly are left out, and the payload before it is zero (R290). -/
def fromBlock (n : Nat) (frames : List OduFrame) : List OduFrame :=
  let bs := payloadBytes frames
  let rest := withPayload (List.replicate (min (16 * n) bs.length) 0 ++ bs.drop (16 * n)) frames
  rest.drop (16 * n / ((frames.headD []).map fun x => x.payload.length).sum)

/-- Encipher, or decipher, the payload areas of a segment (R268, R270). -/
def cipherPayload (key : List Nat) (iv : Nat) (frames : List OduFrame) : List OduFrame :=
  withPayload ((gcmCipher key iv ((payloadBytes frames).map BitVec.toNat)).map (BitVec.ofNat 8)) frames

/-- The tag of a segment from its frames as they are on the line (R270). -/
def segmentTag (key : List Nat) (iv mask : Nat) (line : List OduFrame) : Nat :=
  gcmTag key iv ((authBytes mask line).map BitVec.toNat) ((payloadBytes line).map BitVec.toNat)

/-- What is read from the cipher overhead of a received segment: the control byte of frame 0; and from frames 0 to 3, if it has them, the
epoch, the counter and the tag of the segment before (R274, Table 8.2). -/
structure ReadSegment where
  control : Byte
  whole : Option (Nat × Nat × Nat)
deriving DecidableEq, Repr

/-- The frames begin a segment of a partner that encrypts: `SOS` and `ENC` are set (R274, Table 8.3). -/
def ReadSegment.begins (r : ReadSegment) : Bool := r.control.getLsbD 0 && r.control.getLsbD 4

/-- Read the cipher overhead of a segment. -/
def readSegment (frames : List OduFrame) : ReadSegment :=
  let at_ := fun (f row col : Nat) =>
    (((frames[f]?.bind List.head?).map fun (x : OduSlice) => x.overhead.getD (overheadAt row col) 0).getD 0).toNat
  { control := BitVec.ofNat 8 (at_ 0 4 13)
    whole := if frames.length < 4 then none
      else some ((List.range 3).foldl (fun n f => n + at_ f 4 14 * 256 ^ f) 0,
        (List.range 4).foldl (fun n f => n + at_ f 3 13 * 256 ^ (2 * f) + at_ f 3 14 * 256 ^ (2 * f + 1)) 0,
        beNat ((List.range 4).flatMap fun f => (List.range 4).map fun j => at_ f 4 (9 + j))) }

/-- The bytes of the mark in the cipher overhead of the first four frames delivered after a failed segment (R286). -/
def untrustMark (counter : Nat) : List (Nat × Byte) :=
  (overheadAt 4 13, 0x40#8) :: (List.range 4).map fun j => (overheadAt 4 (9 + j), BitVec.ofNat 8 (counter / 256 ^ j))

/-- The cipher overhead positions of a delivered frame: zero, but for a mark (R269, R286). -/
def putMark (mark : List (Nat × Byte)) : List (Nat × Byte) :=
  mark ++ cipherOverhead 4 1 0 0 none

/-- The frames of a channel with `mode` = 0: those of types 7 to 9 pass unchanged, those of types 1 to 6 hold zeros at the positions of the cipher
overhead (R267, R269). -/
def clearFrames (type : Nat) (frames : List OduFrame) : List OduFrame :=
  if 7 ≤ type then frames
  else frames.map (onFirst fun y => { y with overhead := putBytes (cipherOverhead 4 1 0 0 none) y.overhead })

/-- The frames of a client of types 7 to 9 as delivered (R268, R269, R286): the cipher overhead is zero, but that the first frames carry the mark
`mark`, a counter and how many frames are still to carry it; and the PM BIP-8 is that of the plaintext XOR the difference between the received
one and that of the received ciphertext. `queue` is as in `carryBip`, with the BIP-8 of ciphertext and plaintext. The spec names the zeros for
types 7 and 8; type 9 is delivered in the same way (DESIGN CHOICE, log entry 106). -/
def deliverBip (queue : List (List (Byte × Byte))) (mark : Nat × Nat) (line plain : List OduFrame) :
    List OduFrame × List (List (Byte × Byte)) :=
  (line.zip plain).foldl
    (fun (acc : List OduFrame × List (List (Byte × Byte))) f =>
      let zeros := putMark (if acc.1.length < mark.2 then untrustMark mark.1 else [])
      let out := (f.1.zip f.2).zipIdx.map fun x =>
        let bip := overheadAt 3 11
        let was := x.1.1.overhead.getD bip 0
        let now := match acc.2 with
          | old :: _ :: _ => (old.getD x.2 (0, 0)).2 ^^^ (was ^^^ (old.getD x.2 (0, 0)).1)
          | _ => was
        { x.1.2 with overhead := putBytes ((bip, now) :: if x.2 = 0 then zeros else []) x.1.2.overhead }
      (acc.1 ++ [out],
       ((acc.2 ++ [(f.1.zip f.2).map fun x => (pmBipOf x.1, pmBipOf x.2)]).drop (acc.2.length - 1)))) ([], queue)

/-- Which class of block a core takes next, of those that have one ready; none leaves the core to a dummy block (R283). -/
def nextClass (ready : List Nat) : Option Nat := ready.min?

end Sys2Proof.Machine
end

