-- ==== Sys2Proof/Config.lean ====
section
/-!
DEFINITION. What the spec leaves open and the model leaves free: constants with no body, so that nothing can be proved
about their values. Each is applied to what it may depend on; `draw` is the counter `State.free`, which each use of a
fresh value advances.
-/
namespace Sys2Proof

/-- A stored word with four or more wrong bits (R435: "may be miscorrected or reported as uncorrectable"): `none`
reports it uncorrectable; `some m` takes it as correctable and leaves the bits `m` wrong (DESIGN CHOICE, log entry 9). -/
opaque Config.heavyError (draw mask : Nat) : Option Nat

/-- By how many kBd the symbol rate of the 800ZR mode exceeds 75 GBd: the agreement fixes the rate and the spec does not
state it, except that the sample rate is 1.2 times it (R225) (DESIGN CHOICE, log entry 10). -/
opaque Config.rate800ZrAbove75 : Nat

/-- The adapted value of a coefficient of `RXD.NLE`, real and imaginary part: the device adapts it on the live signal, and
the spec states no value (R146, R163) (DESIGN CHOICE, log entry 11). -/
opaque Config.nleCoef (draw index : Nat) : Int × Int

/-- How many label bits an injection that began at a time has inverted: each bit is decided by a random sequence against the rate (R229)
(DESIGN CHOICE, log entry 12). -/
opaque Config.injectedBits (since ratePpb elapsedUs : Nat) : Nat

/-- The coded frame of an interoperable mode, 4 the 400ZR and 5 the 800ZR mode: the codes, interleaving and frame are those of the OIF
agreements, which the spec names and does not give (R225) (DESIGN CHOICE, log entry 102). -/
opaque Config.zrFrame (mode : Nat) (client : List Bool) : List Bool

/-- Whether a whole write more is made after a capture trigger where the share of the region is not a whole number of
writes (R344) (DESIGN CHOICE, log entry 13). -/
opaque Config.captureRoundsUp (share : Nat) : Bool

/-- Whether a level between two steps of 0.01 dB is reported as the higher one (R328 states no rounding); the level is
that of the power `num`/`den` (DESIGN CHOICE, log entry 14). -/
opaque Config.levelRoundsUp (num den : Nat) : Bool

/-- The level reported for a power that is not positive, which has no logarithm (R328) (DESIGN CHOICE, log entry 15). -/
opaque Config.levelOfZero (draw : Nat) : Int

/-- Whether a mean that is not a whole number is reported as the next higher one (R332, R336 state no rounding)
(DESIGN CHOICE, log entry 16). -/
opaque Config.meanRoundsUp (sum : Int) (count : Nat) : Bool

/-- Whether a register's quotient `num`/`den` that is not whole is shown as the next higher number (the rules of the
register state no rounding) (DESIGN CHOICE, log entry 17). -/
opaque Config.roundsUp (num den : Nat) : Bool

/-- Whether a value halfway between two whole numbers is rounded to the higher one (the rules say "round" without it)
(DESIGN CHOICE, log entry 18). -/
opaque Config.tieUp (num : Int) (den : Nat) : Bool

/-- The clockClass sent in a state for which Table 12.5 gives none: locked or acquiring in frequency without slot 5 or a
grandmaster (DESIGN CHOICE, log entry 19). -/
opaque Config.clockClassElse (draw : Nat) : Nat

/-- The instance (Section, Unit, instance) whose data a word of a memory group holds: Table 14.2 names what the groups 2 to 5 hold and no layout
(DESIGN CHOICE, log entry 33). -/
opaque Config.wordOwner (group word : Nat) : Nat × Nat × Nat

/-- Output and second state of a loop of a bandwidth in mHz after a time: its input, its output and second state before. R394 gives the bandwidth,
the order and a bound on the peaking, and not the response itself (DESIGN CHOICE, log entry 48). -/
opaque Config.loop (bandwidthMhz elapsedUs : Nat) (input output memory : Int) : Int × Int

/-- What `HLD_EST_FREQ` shows for an estimate that exceeds its 32 bits: Table 12.10 calls only `HLD_EST_PHASE` saturating (DESIGN CHOICE,
log entry 46). -/
opaque Config.estFreqOver (ppt : Nat) : Nat

/-- After how many microseconds without an Announce message a master counts as gone: the profile of R407 has it, and the spec does not state it
(DESIGN CHOICE, log entry 47). -/
opaque Config.announceTimeoutUs : Nat

/-- clockAccuracy and offsetScaledLogVariance of the device's own clock: R407 gives no values (DESIGN CHOICE, log entry 47). -/
opaque Config.ownQuality : Nat × Nat

/-- The age, in ms, that `DOM_MEMBER_QUERY` returns for a member that has never been heard (R518 states none)
(DESIGN CHOICE, log entry 20). -/
opaque Config.unheardAge (member : Nat) : Nat

/-- Minimum, maximum and mean in a PM record of a measure that has no sample (R332) (DESIGN CHOICE, log entry 21). -/
opaque Config.emptyGauge (measure part : Nat) : Nat

/-- The interruption in microseconds that `COMMIT_CHECK` reports for a Restart of `SEC.CIP.role`: the spec gives no time for it (R67, R291)
(DESIGN CHOICE, log entry 23). -/
opaque Config.roleRestartUs : Nat

/-- The block index of the tracked segment of a channel at which its cores resume after an exit from P1: within 2 µs, at the next block (R290)
(DESIGN CHOICE, log entry 74). -/
opaque Config.resumeBlock (channel now : Nat) : Nat

/-- A tap of `RXD.PMX` after adaptation: filter and index, real and imaginary part; it adapts on the live signal, and the spec states no value
(R139, R141) (DESIGN CHOICE, log entry 99). -/
opaque Config.pmxTap (draw filter index : Nat) : Int × Int

/-- A tap of `RXD.PMX` after an update in a stage (1 radius-directed, 2 decoder-aided) at a step size: filter and index, the tap before, and for
each symbol the errors, or in the radius-directed stage the outputs, of X and Y with the input vector they were formed from. The spec names the
error of each stage and no formula of the update (R139, R141) (DESIGN CHOICE, log entry 99). -/
opaque Config.pmxUpdate (stage : Nat) (muLog2 : Int) (filter index : Nat) (tap : Int × Int)
  (symbols : List ((Int × Int) × (Int × Int) × List (Int × Int))) : Int × Int

/-- The fitted dispersion in ps/nm where the best hypothesis has no neighbour on one side or the three metrics have no parabola with a peak:
R129 and R131 state none (DESIGN CHOICE, log entry 100). -/
opaque Config.cdFit (near : List Nat) : Int

/-- The LLR of one bit in steps of 0.5 natural-log units before it is limited to its range: R152 gives the coding, the variances and the
priors that it uses, but no formula (DESIGN CHOICE, log entry 101). -/
opaque Config.llr (received : Int × Int) (variances priors : List Nat) (bit : Nat) : Int

/-- Coefficients of a chain's FIR filter, by preset, in units of 2^-`Config.firFraction`: R323 gives its response and no coefficients
(DESIGN CHOICE, log entry 77). -/
opaque Config.firTap (preset index : Nat) : Int

/-- The fraction bits of the FIR coefficients (R323 gives none) (DESIGN CHOICE, log entry 77). -/
opaque Config.firFraction : Nat

/-- Whether a FIR sum that is not whole is output as the next higher number: R323 states no rounding (DESIGN CHOICE, log entry 77). -/
opaque Config.firRoundsUp (sum : Int) : Bool

/-- The input of a chain in a core cycle in which no position of its tap is valid: R322 states none (DESIGN CHOICE, log entry 77). -/
opaque Config.emptyTap (draw cycle : Nat) : Int

/-- A derived measure whose formula has no value: an SNR without noise or without signal, a Q with no error or with half of the bits in error,
a PDL of a response that passes one polarisation only (R332) (DESIGN CHOICE, log entry 77). -/
opaque Config.openMeasure (measure draw : Nat) : Int

/-- The number of 5 mV steps that adaptive voltage scaling asks of the core supply for a part's fused speed code and the junction
temperature (DESIGN CHOICE, log entry 42). -/
opaque Config.avsSteps (speedCode : Nat) (tj : Int) : Nat

end Sys2Proof
end

