-- ==== Sys2Proof/Machine/EventTable.lean ====
section
/-!
DEFINITION. The master event table (R551, R552, R565, Table 18.8) with the rate limit the owning chapters give (R559).
-/
namespace Sys2Proof.Machine

/-- How an owning chapter limits the raises of an event: not at all, at most once per second for the device, or at
most once per second for each member named by the event's qualifier (R559). -/
inductive RateLimit where
  | off
  | whole
  | perMember
deriving DecidableEq, Repr

/-- One row of Table 18.8: number, severity (0 info to 3 critical), the number of the source Unit (the first, where
the row names several) and the rate limit of the owning chapter. The Section is the number divided by 16 (R551). -/
structure EventRow where
  num : Nat
  severity : Nat
  unit : Nat
  limit : RateLimit := .off
deriving DecidableEq, Repr


/-- Events of Section 0 (MGT). -/
def eventsMGT : List EventRow := [
  ⟨0, 0, 4, .off⟩,
  ⟨1, 0, 4, .off⟩,
  ⟨2, 2, 4, .off⟩,
  ⟨3, 2, 4, .off⟩,
  ⟨4, 0, 4, .off⟩,
  ⟨5, 1, 4, .off⟩,
  ⟨6, 1, 4, .off⟩,
  ⟨7, 0, 4, .whole⟩,
  ⟨8, 0, 4, .off⟩,
  ⟨9, 0, 4, .off⟩,
  ⟨10, 1, 4, .off⟩,
  ⟨11, 0, 4, .off⟩,
  ⟨12, 2, 5, .off⟩,
  ⟨13, 3, 5, .off⟩,
  ⟨14, 0, 6, .off⟩,
  ⟨15, 3, 6, .off⟩]

/-- Events of Section 1 (PWR). -/
def eventsPWR : List EventRow := [
  ⟨16, 0, 1, .off⟩,
  ⟨17, 1, 1, .off⟩,
  ⟨18, 2, 0, .off⟩,
  ⟨19, 3, 0, .off⟩,
  ⟨20, 3, 0, .off⟩,
  ⟨21, 2, 0, .off⟩,
  ⟨22, 2, 0, .whole⟩,
  ⟨23, 2, 2, .off⟩,
  ⟨24, 0, 2, .off⟩,
  ⟨25, 1, 2, .off⟩,
  ⟨26, 3, 1, .off⟩,
  ⟨27, 1, 0, .off⟩,
  ⟨28, 1, 2, .off⟩]

/-- Events of Section 2 (CLK). -/
def eventsCLK : List EventRow := [
  ⟨32, 0, 0, .off⟩,
  ⟨33, 3, 3, .off⟩,
  ⟨34, 2, 3, .off⟩,
  ⟨35, 0, 3, .off⟩,
  ⟨36, 0, 0, .off⟩,
  ⟨37, 1, 0, .off⟩,
  ⟨38, 2, 3, .off⟩,
  ⟨39, 2, 2, .off⟩]

/-- Events of Section 3 (TIM). -/
def eventsTIM : List EventRow := [
  ⟨48, 0, 0, .off⟩,
  ⟨49, 1, 0, .off⟩,
  ⟨50, 0, 0, .off⟩,
  ⟨51, 2, 2, .off⟩,
  ⟨52, 0, 2, .off⟩,
  ⟨53, 2, 1, .off⟩,
  ⟨54, 2, 2, .off⟩,
  ⟨55, 1, 2, .off⟩,
  ⟨56, 1, 0, .off⟩,
  ⟨57, 1, 0, .off⟩,
  ⟨58, 1, 0, .off⟩,
  ⟨59, 1, 3, .off⟩,
  ⟨60, 0, 3, .off⟩,
  ⟨61, 0, 3, .off⟩,
  ⟨62, 0, 0, .off⟩]

/-- Events of Section 4 (MEM). -/
def eventsMEM : List EventRow := [
  ⟨64, 0, 1, .perMember⟩,
  ⟨65, 2, 1, .perMember⟩,
  ⟨66, 2, 1, .off⟩,
  ⟨67, 1, 1, .perMember⟩,
  ⟨68, 1, 1, .perMember⟩,
  ⟨69, 1, 1, .off⟩,
  ⟨70, 0, 0, .off⟩,
  ⟨71, 3, 1, .off⟩,
  ⟨72, 2, 0, .off⟩,
  ⟨73, 0, 0, .off⟩,
  ⟨74, 1, 2, .perMember⟩,
  ⟨75, 1, 2, .off⟩,
  ⟨76, 3, 1, .off⟩]

/-- Events of Section 5 (CNV). -/
def eventsCNV : List EventRow := [
  ⟨80, 0, 0, .off⟩,
  ⟨81, 1, 0, .off⟩,
  ⟨82, 2, 0, .off⟩,
  ⟨83, 2, 0, .off⟩,
  ⟨84, 0, 9, .off⟩,
  ⟨85, 1, 0, .off⟩,
  ⟨86, 1, 9, .off⟩,
  ⟨87, 1, 4, .off⟩,
  ⟨88, 2, 8, .off⟩,
  ⟨89, 1, 10, .off⟩,
  ⟨90, 1, 10, .off⟩,
  ⟨91, 1, 0, .whole⟩,
  ⟨92, 0, 0, .off⟩,
  ⟨93, 0, 9, .off⟩]

/-- Events of Section 6 (RXD). -/
def eventsRXD : List EventRow := [
  ⟨96, 0, 0, .off⟩,
  ⟨97, 2, 0, .off⟩,
  ⟨98, 2, 4, .off⟩,
  ⟨99, 1, 0, .off⟩,
  ⟨100, 2, 0, .off⟩,
  ⟨101, 1, 0, .off⟩,
  ⟨102, 1, 0, .off⟩,
  ⟨103, 2, 3, .off⟩,
  ⟨104, 0, 1, .off⟩,
  ⟨105, 1, 1, .off⟩,
  ⟨106, 0, 1, .off⟩,
  ⟨107, 1, 2, .off⟩,
  ⟨108, 2, 4, .off⟩,
  ⟨109, 1, 4, .off⟩,
  ⟨110, 2, 5, .off⟩,
  ⟨111, 1, 1, .whole⟩]

/-- Events of Section 7 (TXD). -/
def eventsTXD : List EventRow := [
  ⟨112, 0, 0, .off⟩,
  ⟨113, 1, 0, .off⟩,
  ⟨114, 0, 1, .off⟩,
  ⟨115, 0, 1, .off⟩,
  ⟨116, 0, 0, .off⟩,
  ⟨117, 1, 1, .off⟩,
  ⟨118, 1, 0, .off⟩,
  ⟨119, 1, 3, .whole⟩]

/-- Events of Section 8 (COD). -/
def eventsCOD : List EventRow := [
  ⟨128, 0, 1, .off⟩,
  ⟨129, 2, 1, .off⟩,
  ⟨130, 2, 1, .off⟩,
  ⟨131, 1, 1, .off⟩,
  ⟨132, 2, 1, .off⟩,
  ⟨133, 2, 1, .off⟩,
  ⟨134, 0, 1, .whole⟩,
  ⟨135, 1, 1, .off⟩,
  ⟨136, 1, 1, .off⟩,
  ⟨137, 3, 1, .off⟩,
  ⟨138, 0, 0, .off⟩,
  ⟨139, 3, 0, .off⟩]

/-- Events of Section 9 (FRM). -/
def eventsFRM : List EventRow := [
  ⟨144, 1, 0, .off⟩,
  ⟨145, 2, 0, .off⟩,
  ⟨146, 1, 0, .off⟩,
  ⟨147, 2, 0, .off⟩,
  ⟨148, 2, 0, .off⟩,
  ⟨149, 2, 0, .off⟩,
  ⟨150, 1, 0, .off⟩,
  ⟨151, 2, 1, .off⟩,
  ⟨152, 0, 1, .off⟩,
  ⟨153, 1, 1, .off⟩,
  ⟨154, 1, 1, .whole⟩,
  ⟨155, 0, 1, .off⟩,
  ⟨156, 2, 1, .off⟩,
  ⟨157, 1, 0, .whole⟩,
  ⟨158, 0, 2, .off⟩]

/-- Events of Section 10 (SEC). -/
def eventsSEC : List EventRow := [
  ⟨160, 3, 0, .off⟩,
  ⟨161, 2, 0, .off⟩,
  ⟨162, 0, 1, .off⟩,
  ⟨163, 1, 1, .off⟩,
  ⟨164, 0, 0, .off⟩,
  ⟨165, 0, 0, .off⟩,
  ⟨166, 0, 1, .off⟩,
  ⟨167, 2, 0, .off⟩,
  ⟨168, 1, 0, .perMember⟩,
  ⟨169, 2, 0, .off⟩,
  ⟨170, 1, 0, .off⟩,
  ⟨171, 2, 0, .off⟩,
  ⟨172, 2, 0, .off⟩,
  ⟨173, 2, 0, .off⟩,
  ⟨174, 3, 1, .off⟩,
  ⟨175, 1, 0, .off⟩]

/-- Events of Section 11 (LOD). -/
def eventsLOD : List EventRow := [
  ⟨176, 0, 2, .off⟩,
  ⟨177, 2, 2, .off⟩,
  ⟨178, 2, 2, .off⟩,
  ⟨179, 1, 1, .whole⟩,
  ⟨180, 0, 1, .off⟩,
  ⟨181, 1, 1, .whole⟩,
  ⟨182, 1, 1, .whole⟩,
  ⟨183, 0, 1, .whole⟩,
  ⟨184, 0, 1, .whole⟩,
  ⟨185, 1, 2, .whole⟩,
  ⟨186, 1, 2, .whole⟩,
  ⟨187, 0, 0, .off⟩,
  ⟨188, 1, 1, .off⟩,
  ⟨189, 1, 2, .whole⟩,
  ⟨190, 1, 1, .off⟩]

/-- Events of Section 12 (MON). -/
def eventsMON : List EventRow := [
  ⟨192, 1, 1, .perMember⟩,
  ⟨193, 1, 1, .perMember⟩,
  ⟨194, 1, 0, .off⟩,
  ⟨195, 0, 2, .off⟩,
  ⟨196, 2, 2, .off⟩,
  ⟨197, 1, 2, .off⟩,
  ⟨198, 0, 2, .off⟩,
  ⟨199, 0, 3, .off⟩,
  ⟨200, 1, 3, .off⟩,
  ⟨201, 0, 2, .whole⟩]

/-- Events of Section 13 (HST). -/
def eventsHST : List EventRow := [
  ⟨208, 0, 0, .off⟩,
  ⟨209, 2, 0, .off⟩,
  ⟨210, 0, 0, .off⟩,
  ⟨211, 1, 0, .off⟩,
  ⟨212, 2, 0, .off⟩,
  ⟨213, 0, 0, .off⟩,
  ⟨214, 0, 16, .off⟩,
  ⟨215, 2, 16, .off⟩,
  ⟨216, 0, 16, .off⟩,
  ⟨217, 2, 16, .off⟩,
  ⟨218, 1, 16, .off⟩,
  ⟨219, 1, 16, .whole⟩,
  ⟨220, 2, 17, .off⟩,
  ⟨221, 0, 17, .off⟩,
  ⟨222, 2, 16, .off⟩,
  ⟨223, 1, 0, .off⟩]

/-- Events of Section 14 (FEH). -/
def eventsFEH : List EventRow := [
  ⟨224, 1, 0, .perMember⟩,
  ⟨225, 1, 0, .perMember⟩,
  ⟨226, 0, 0, .off⟩,
  ⟨227, 1, 0, .perMember⟩,
  ⟨228, 0, 0, .off⟩,
  ⟨229, 2, 0, .off⟩,
  ⟨230, 1, 2, .off⟩,
  ⟨231, 0, 2, .off⟩,
  ⟨232, 2, 2, .off⟩,
  ⟨233, 1, 3, .whole⟩,
  ⟨234, 1, 3, .whole⟩,
  ⟨235, 1, 3, .off⟩,
  ⟨236, 1, 3, .off⟩,
  ⟨237, 1, 3, .off⟩,
  ⟨238, 0, 0, .off⟩]

/-- Events of Section 15 (DOM). -/
def eventsDOM : List EventRow := [
  ⟨240, 0, 0, .off⟩,
  ⟨241, 1, 0, .off⟩,
  ⟨242, 1, 0, .off⟩,
  ⟨243, 2, 1, .off⟩,
  ⟨244, 2, 1, .off⟩,
  ⟨245, 0, 1, .off⟩,
  ⟨246, 0, 1, .off⟩,
  ⟨247, 3, 1, .off⟩,
  ⟨248, 1, 0, .perMember⟩,
  ⟨249, 0, 1, .off⟩,
  ⟨250, 2, 2, .off⟩,
  ⟨251, 1, 2, .off⟩,
  ⟨252, 2, 2, .off⟩,
  ⟨253, 0, 2, .off⟩,
  ⟨254, 2, 2, .off⟩,
  ⟨255, 1, 2, .off⟩]

/-- Table 18.8: every event that exists (R551). -/
def eventTable : List EventRow :=
  eventsMGT ++ eventsPWR ++ eventsCLK ++ eventsTIM ++ eventsMEM ++ eventsCNV ++ eventsRXD ++ eventsTXD ++ eventsCOD ++ eventsFRM ++ eventsSEC ++ eventsLOD ++ eventsMON ++ eventsHST ++ eventsFEH ++ eventsDOM

/-- The row of an event number, if the event exists. -/
def findEvent (n : Nat) : Option EventRow := eventTable.find? fun e => e.num == n

/-- The severity of an event number; 0 where there is no such event (its bits are RSV, R551). -/
def severityOf (n : Nat) : Nat := ((findEvent n).map EventRow.severity).getD 0

/-- A 256-bit mask of the events of `eventTable` that satisfy a test: bit `n` stands for event `n` (R555). -/
def eventMask (p : EventRow → Bool) : BitVec 256 :=
  BitVec.ofNat 256 ((eventTable.filter p).foldl (fun a e => a + 2 ^ e.num) 0)

/-- The bits of the events that exist; the 38 others are RSV (R551). -/
def definedEvents : BitVec 256 := eventMask fun _ => true

/-- Default ring mask: every event (R555). -/
def defaultRingMask : BitVec 256 := definedEvents

/-- Default MSI-X mask: major and critical events (R555). -/
def defaultMsixMask : BitVec 256 := eventMask fun e => decide (2 ≤ e.severity)

/-- Default ALERT mask: critical events (R555). -/
def defaultAlertMask : BitVec 256 := eventMask fun e => decide (e.severity = 3)

end Sys2Proof.Machine
end

