-- ==== Sys2Proof/Machine/Outputs.lean ====
section
/-!
DEFINITION. What the device sends to the outside: one constructor per kind of message or pin action of the spec.
-/
namespace Sys2Proof.Machine

/-- The replacement signals of Table 7.7: continuous Local Fault ordered sets, Local Fault in the FlexE client, ODU-AIS, and ODUC-AIS in each
slice. -/
inductive Replacement where
  | localFault
  | flexeLocalFault
  | oduAis
  | oducAis
deriving DecidableEq, Repr

/-- A chirp of Lodestone (R296): an up-chirp with a cyclic shift, or the down-chirp. -/
inductive Chirp where
  | up (shift : Nat)
  | down
deriving DecidableEq, Repr

inductive Output where
  /-- The data bytes of a read of the SPI or I2C seat, in the order sent (R37, R38). -/
  | serial (seat : SeatId) (bytes : List Byte)
  /-- The completion of a PCIe seat's read that found an uncorrectable or poisoned word: the EP bit is set (Table 14.4). -/
  | poisonedRead (seat : SeatId)
  /-- A PCIe access of a seat completed with a Completer Abort, and a bus error of an access of firmware or DMA (R425). -/
  | completerAbort (seat : SeatId)
  | busError
  /-- The MSI-X message of a vector of a PCIe seat (R557). -/
  | msix (seat : SeatId) (vector : Nat)
  /-- The two announcement codewords of a transmit superframe's header, on X and Y (R176, R177). -/
  | header (sf : Nat) (codeA : Nat) (codeB : Nat)
  /-- The termination block with which the encoder closes a coupled chain: the payload symbol periods that it holds (R205, R211). -/
  | termination (periods : Nat)
  /-- A block that `COD.BDE` delivers to `FRM.LFR`, with its uncorrected flag: on the fixed output or on the early one (R214). -/
  | block (fixed : Bool) (uncorrected : Bool)
  /-- A client's receive signal is replaced by a signal, or its own signal is restored (R257). -/
  | clientSignal (client : Nat) (replacement : Option Replacement)
  /-- The 66-bit blocks of a client of types 1 to 6 that hold bits of an uncorrected Basalt block become error blocks (Table 7.7). -/
  | errorBlocks (client : Nat)
  /-- The bytes of an HDLC frame with its flags, or a flag while there is none, on GCC channel 0, 1 or 2, which
  carries them in slice #1 at `gccPlace` (R258, R259). -/
  | gcc (channel : Nat) (bytes : List Byte)
  /-- A transmit segment of a cipher channel: its frames as `CIP` hands them to `LFR` (R268 to R273). -/
  | segment (channel : Nat) (frames : List OduFrame)
  /-- A received segment of a cipher channel, or what is delivered of it: its frames as `CIP` delivers them to `MAP`, with the mark of a failed
  segment (R268, R269, R274, R286). -/
  | delivered (client : Nat) (frames : List OduFrame)
  /-- A Lodestone frame (R297, R299, R300): beacon or in service, spreading factor, level in dB, and its chirps. -/
  | lodFrame (beacon : Bool) (sf : Nat) (level : Int) (chirps : List Chirp)
  /-- A Transparent Lane Mode period on a physical transmit lane, in the lane's polarity (R362, R363, R367 to R369): the levels of its marker
  (Table 11.7), of its pad symbols, and of its payload and stuff symbols. -/
  | tlmPeriod (lane : Nat) (marker pad payload : List (Fin 4))
  /-- The client words that a physical receive lane of a Transparent Lane Mode group delivers for a period (R368, R369). -/
  | tlmWords (lane : Nat) (words : List (BitVec 256))
  /-- A client's signal toward the line is replaced while it fails on the host side, or is its own again (R378). -/
  | lineSignal (client : Nat) (replacement : Option Replacement)
  /-- A block of a client's signal from the host becomes an error block (Table 11.9). -/
  | hostErrorBlock (client : Nat)
  /-- A FlexE calendar request, or its acknowledgement, on a FlexE group (R372). -/
  | flexeRequest (group : Nat)
  | flexeAck (group : Nat)
  /-- A remote PHY fault sent to the host on a FlexE group (Table 11.9). -/
  | flexeFault (group : Nat)
  /-- A level change of `PPS_OUT` (R398). -/
  | pps (high : Bool)
  /-- A PTP message sent on a Tvedry port (R407, Table 12.5): 0 Sync, 1 Follow_Up, 2 Delay_Req, 3 Announce, 4 Delay_Resp; domain, address code, and
  what an Announce says. -/
  | ptp (port : Nat) (kind : Nat) (domain : Nat) (address : Nat) (announced : Option ClockData)
  /-- A packet that a spill queue hands to its hardware consumer (R451). -/
  | packet (queue : Nat) (words : List Word64)
  /-- A 4-byte command packet on the laser port (R479). -/
  | itl (bytes : List Byte)
  /-- A Tvedry frame sent out of a port, from its destination address to its FCS (R490). -/
  | tvedry (port : Nat) (bytes : List Byte)
  /-- A Flint status word and its check byte (R505). -/
  | flint (word : Nat) (check : Nat)
  /-- The level driven on a `GPIO` (R509). -/
  | gpio (number : Nat) (high : Bool)
deriving DecidableEq, Repr

end Sys2Proof.Machine
end

