-- ==== Sys2Proof/Machine/Balls.lean ====
section
/-!
DEFINITION. The balls of the package, their boundary cells and the instructions of the test access port (R566 to R570, R583 to R585), and
the balls through which each output leaves the device.
-/
namespace Sys2Proof.Machine

/-! ### Places and roles (R567, R568) -/

/-- A ball's row index 1 to 30, for A to AL, and its column 1 to 30 (R567). -/
structure BallPlace where
  row : Nat
  col : Nat
deriving DecidableEq, Repr

/-- The letters of the rows in order (R567). -/
def rowLetters : List String :=
  ["A", "B", "C", "D", "E", "F", "G", "H", "J", "K", "L", "M", "N", "P", "T"] ++
  ["U", "V", "W", "Y", "AA", "AB", "AC", "AD", "AE", "AF", "AG", "AH", "AJ", "AK", "AL"]

/-- The centre of a ball from the body centre, seen from the lid side, in half millimetres (R567). -/
def BallPlace.centre (b : BallPlace) : Int × Int := (2 * b.col - 31, 31 - 2 * b.row)

/-- What a ball is for (R568). -/
inductive BallRole where
  | vin
  | gnd
  | reserved
  | signal
deriving DecidableEq, Repr

/-- The columns of a row that are ground in Table 19.2, but for the central block. -/
def gndColumns (row : Nat) : List Nat :=
  match row with
  | 3 => [1, 4, 7, 10, 13, 14, 15, 16, 17, 18, 21, 24, 27, 30]
  | 5 => [1, 2, 28, 29, 30]
  | 7 => [1, 2]
  | 25 => [1, 4, 7, 10, 13, 16, 19, 22, 25, 28]
  | 27 => [1, 4, 7, 10, 13, 16, 19, 20, 23, 26, 28, 30]
  | 29 => [1, 11, 18, 21]
  | 30 => [1, 30]
  | _ => []

/-- The rows H to AD, in which host lanes and the central block lie. -/
def inLaneRows (row : Nat) : Bool := decide (8 ≤ row ∧ row ≤ 23)

/-- The role of a ball (Table 19.2). -/
def BallPlace.role (b : BallPlace) : BallRole :=
  if [1, 2, 4, 24, 26, 28].contains b.row then .gnd
  else if b.row = 6 then .reserved
  else if inLaneRows b.row then
    if b.col = 30 then .reserved
    else if 8 ≤ b.col ∧ b.col ≤ 22 then (if (b.row + b.col) % 2 = 0 then .vin else .gnd)
    else if b.row % 2 = 1 then .gnd
    else if [1, 4, 7, 23, 26, 29].contains b.col then .gnd
    else .signal
  else if (b.row = 7 ∧ 15 ≤ b.col) ∨ (b.row = 29 ∧ 27 ≤ b.col) then .reserved
  else if (gndColumns b.row).contains b.col then .gnd
  else .signal

/-- All 900 balls. -/
def allPlaces : List BallPlace := (List.range 30).flatMap fun r => (List.range 30).map fun c => ⟨r + 1, c + 1⟩

/-! ### Signal balls (Tables 19.3 and 19.4) -/

/-- The types of Table 19.4. -/
inductive BallType where
  | la
  | hs
  | lv
  | ck
  | xt
  | ha
  | ct
  | cb
  | co
  | cf
  | od
deriving DecidableEq, Repr

/-- A signal ball. -/
structure Ball where
  name : String
  place : BallPlace
  type : BallType
deriving DecidableEq, Repr

/-- A number in two digits. -/
def twoDigits (n : Nat) : String := toString (n / 10) ++ toString (n % 10)

/-- The two balls of a pair, side by side. -/
def pairAt (type : BallType) (row : Nat) (name : String) (col : Nat) : List Ball :=
  [⟨name ++ "_P", ⟨row, col⟩, type⟩, ⟨name ++ "_N", ⟨row, col + 1⟩, type⟩]

/-- Named pairs, three columns apart. -/
def pairsAt (type : BallType) (row first : Nat) (names : List String) : List Ball :=
  names.zipIdx.flatMap fun x => pairAt type row x.1 (first + 3 * x.2)

/-- Named balls in successive columns. -/
def ballsAt (type : BallType) (row first : Nat) (names : List String) : List Ball :=
  names.zipIdx.map fun x => ⟨x.1, ⟨row, first + x.2⟩, type⟩

/-- The balls of a host lane (Table 19.3). -/
def laneBalls (l : Nat) : List Ball :=
  let row := 8 + 2 * (l / 2)
  let off := 3 * (l % 2)
  pairAt .hs row ("HRX" ++ twoDigits l) (2 + off) ++ pairAt .hs row ("HTX" ++ twoDigits l) (24 + off)

/-- The 205 signal balls (R568, Tables 19.3 and 19.4). -/
def signalBalls : List Ball :=
  (List.range 16).flatMap laneBalls ++
  pairsAt .la 3 2 ["ADC_XI", "ADC_XQ", "ADC_YI", "ADC_YQ"] ++ pairsAt .la 3 19 ["DAC_XI", "DAC_XQ", "DAC_YI", "DAC_YQ"] ++
  ballsAt .ha 5 3 ((List.range 24).map fun n => "HK_IN" ++ twoDigits n) ++ ballsAt .ha 5 27 ["VREF_HK"] ++
  ballsAt .ha 7 3 ((List.range 12).map fun n => "HK_DAC" ++ twoDigits n) ++
  pairsAt .hs 25 2 ["PCIE_TX0", "PCIE_TX1", "PCIE_RX0", "PCIE_RX1"] ++ pairsAt .ck 25 14 ["PCIE_REFCLK"] ++
  pairsAt .hs 25 17 ["TVL_A_TX", "TVL_A_RX", "TVL_B_TX", "TVL_B_RX"] ++
  pairsAt .lv 25 29 ["FLINT_TX"] ++ pairsAt .lv 27 2 ["FLINT_RX"] ++ pairsAt .ck 27 5 ["REFIN_A", "REFIN_B"] ++
  pairsAt .lv 27 11 ["CLKOUT_A", "CLKOUT_B"] ++ pairsAt .ck 27 17 ["REFCLK_HOST"] ++
  ballsAt .xt 27 21 ["XTAL_A_IN", "XTAL_A_OUT"] ++ ballsAt .xt 27 24 ["XTAL_B_IN", "XTAL_B_OUT"] ++
  ballsAt .ct 27 27 ["PPS_IN"] ++ ballsAt .co 27 29 ["PPS_OUT"] ++
  ballsAt .ct 29 2 ["PORST_N"] ++ ballsAt .od 29 3 ["PGOOD"] ++ ballsAt .ct 29 4 ["PCIE_PERST_N"] ++
  ballsAt .ct 29 5 ["SPI_SCK", "SPI_CS_N", "SPI_SDI"] ++ ballsAt .co 29 8 ["SPI_SDO"] ++ ballsAt .od 29 9 ["I2C_SCL", "I2C_SDA"] ++
  ballsAt .co 29 12 ["FLASH_SCK", "FLASH_CS_N"] ++ ballsAt .cf 29 14 ["FLASH_IO0", "FLASH_IO1", "FLASH_IO2", "FLASH_IO3"] ++
  ballsAt .co 29 19 ["ITLA_TXD"] ++ ballsAt .ct 29 20 ["ITLA_RXD"] ++
  ballsAt .ct 29 22 ["TCK", "TMS", "TDI"] ++ ballsAt .co 29 25 ["TDO"] ++ ballsAt .ct 29 26 ["TRST_N"] ++
  ballsAt .od 30 2 ["ALERT_N0", "ALERT_N1", "ALERT_N2", "ALERT_N3"] ++
  ballsAt .ct 30 6 ((List.range 8).map fun n => "STRAP" ++ toString n) ++
  ballsAt .cb 30 14 ((List.range 16).map fun n => "GPIO" ++ twoDigits n)

/-! ### Boundary cells (R584) -/

/-- The boundary cell of a ball. -/
inductive BoundaryCell where
  /-- IEEE 1149.6, on a pair. -/
  | ac
  /-- IEEE 1149.1. -/
  | dc
  /-- Observe-only. -/
  | observe
deriving DecidableEq, Repr

/-- The TAP balls (Table 19.4). -/
def BallPlace.isTap (b : BallPlace) : Bool := decide (b.row = 29 ∧ 22 ≤ b.col ∧ b.col ≤ 26)

/-- The cell of a ball, if it has one (R584). -/
def Ball.cell (b : Ball) : Option BoundaryCell :=
  if b.place.isTap then none
  else if b.place = ⟨29, 2⟩ ∨ b.place = ⟨29, 4⟩ then some .observe
  else match b.type with
    | .hs | .lv => some .ac
    | .ct | .cb | .cf | .co | .od => some .dc
    | .la | .ha | .xt | .ck => none

/-- The balls that the boundary register controls, in the order of its cells (PRESUMED, log entry 22). -/
def cellBalls : List Ball := signalBalls.filter fun b => b.cell == some .ac || b.cell == some .dc

/-! ### The test access port (R583, R585) -/

/-- IDCODE (R583). -/
def tapIdcode : BitVec 32 := 0x132004B7

/-- An instruction code as it acts: any code that Table 19.12 does not list acts as `BYPASS` (PRESUMED, log entry 22). -/
def tapInstruction (code : Byte) : Byte := if code.toNat ≤ 6 then code else 0xFF

/-- The instructions under which the boundary register controls the balls (R585). -/
def tapHolds (code : Byte) : Bool := [0x00#8, 0x03#8, 0x04#8, 0x05#8, 0x06#8].contains code

/-- The instructions that connect the boundary register for shifting: `EXTEST`, `SAMPLE/PRELOAD`, `EXTEST_PULSE` and `EXTEST_TRAIN`
(PRESUMED, log entry 22). -/
def tapShifts (code : Byte) : Bool := [0x00#8, 0x02#8, 0x03#8, 0x04#8].contains code

/-- What a ball that has a cell carries (R585). -/
inductive BallControl where
  /-- Its function: the device drives or receives. -/
  | functional
  /-- The boundary register drives it. -/
  | driven (high : Bool)
  /-- High-impedance, under `HIGHZ`. -/
  | floating
deriving DecidableEq, Repr

/-- What a ball carries under an instruction, with the boundary register's contents (R584, R585). -/
def ballControl (tap : Byte) (cells : List Bool) (b : Ball) : BallControl :=
  if tapHolds tap = false then .functional
  else match cellBalls.idxOf? b with
    | none => .functional
    | some i => if tap = 0x06 then .floating else .driven (cells.getD i false)

/-- The output leaves through balls that have cells: it is interrupted while the boundary register controls them (R584, R585). -/
def Output.throughCells : Output → Bool
  | .serial _ _ | .poisonedRead _ | .completerAbort _ | .msix _ _ => true
  | .clientSignal _ _ | .errorBlocks _ | .tlmPeriod _ _ _ _ | .flexeRequest _ | .flexeAck _ | .flexeFault _ => true
  | .pps _ | .ptp _ _ _ _ _ | .itl _ | .tvedry _ _ | .flint _ _ | .gpio _ _ => true
  | .header _ _ _ | .termination _ | .block _ _ | .gcc _ _ | .segment _ _ | .delivered _ _ | .lodFrame _ _ _ _ => false
  | .busError | .tlmWords _ _ | .lineSignal _ _ | .hostErrorBlock _ | .packet _ _ => false

end Sys2Proof.Machine
end

