-- ==== Sys2Proof/Machine/Maps.lean ====
section
/-!
DEFINITION. Sparse maps with natural-number keys: a list of key and value pairs, keys strictly rising. Memories
(`Host.Cell` lists), the running configuration and the slates all use this one form.
-/
namespace Sys2Proof.Machine

/-- A sparse map: keys strictly rising. -/
abbrev NMap (α : Type) := List (Nat × α)

/-- The value at a key, if the map lists it. -/
def nmGet {α : Type} : NMap α → Nat → Option α
  | [], _ => none
  | (k, v) :: m, i => if i = k then some v else nmGet m i

/-- Add or replace the value at a key, keeping the keys rising. -/
def nmPut {α : Type} : NMap α → Nat → α → NMap α
  | [], i, x => [(i, x)]
  | (k, v) :: m, i, x =>
    if i < k then (i, x) :: (k, v) :: m
    else if i = k then (i, x) :: m
    else (k, v) :: nmPut m i x

/-- Remove a key. -/
def nmDel {α : Type} (m : NMap α) (i : Nat) : NMap α := m.filter fun e => e.1 != i

/-- Write a value; a value equal to what an unlisted key reads as removes the entry, so equal contents are equal
lists. -/
def nmSet {α : Type} [DecidableEq α] (dflt : α) (m : NMap α) (i : Nat) (x : α) : NMap α :=
  if x = dflt then nmDel m i else nmPut m i x

/-- The keys rise strictly. -/
def nmRising {α : Type} : NMap α → Bool
  | [] => true
  | [_] => true
  | a :: b :: m => decide (a.1 < b.1) && nmRising (b :: m)

/-- The canonical form: keys strictly rising and no entry equal to what an unlisted key reads as. -/
def nmWf {α : Type} [DecidableEq α] (dflt : α) (m : NMap α) : Bool :=
  nmRising m && m.all fun e => decide (e.2 ≠ dflt)

/-- One byte of a sparse byte memory; an unlisted byte reads as zero (R436: the fill) (DEDUCED, log entry 27). -/
def readByte (m : List Host.Cell) (a : Nat) : Byte := (nmGet m a).getD 0

/-- Write one byte, keeping the canonical form. -/
def writeByte (m : List Host.Cell) (a : Nat) (b : Byte) : List Host.Cell := nmSet (0 : Byte) m a b

/-- `n` bytes from an address upwards. -/
def readBytes (m : List Host.Cell) (a : Nat) : Nat → List Byte
  | 0 => []
  | n + 1 => readByte m a :: readBytes m (a + 1) n

/-- Write bytes from an address upwards. -/
def writeBytes (m : List Host.Cell) (a : Nat) : List Byte → List Host.Cell
  | [] => m
  | b :: bs => writeBytes (writeByte m a b) (a + 1) bs

/-- The canonical form of a sparse byte memory (DEDUCED, log entry 27). -/
def memWf (m : List Host.Cell) : Bool := nmWf (0 : Byte) m

end Sys2Proof.Machine
end

