-- ==== Sys2Proof/Machine/CodState.lean ====
section
/-!
DEFINITION. The state of Section 8, COD (chapter 6).
-/
namespace Sys2Proof.Machine

/-- An error injection in progress (R229): its rate in parts per 10^9, when it started and when it ends. -/
structure Injection where
  ratePpb : Nat
  since : Nat
  until_ : Nat
deriving DecidableEq, Repr, Inhabited

/-- Counters that a decoder keeps from zero at the resets of Table 6.5, and their values at the last interval boundary
(R221, Table 6.10). -/
structure DecCounters where
  bits : Nat := 0
  corr : Nat := 0
  blocks : Nat := 0
  uncorr : Nat := 0
  outer : Nat := 0
  iter : Nat := 0
  capped : Nat := 0
deriving DecidableEq, Repr, Inhabited

/-- Section 8, COD. `candidate` and `goodBlocks` are the progress of the search (R215), `badBlocks` the consecutive blocks
beyond `sync_ppm` (R216), `cleanWindows` the windows since the last bad one (R222), `degraded` the clusters out of
service and `clusterErrs` the times of their last parity errors (R213), `capLow` that the cap is below `iter_cap` as last
judged for `EV135`. `uncorrSeen` says that this interval has had an uncorrected block (R224). `blockBad` says that a
memory error marks the block in hand uncorrected, `returnBad` that one has hit the decisions of the group in hand (R220). `hits` and `misses`
count consecutive frame alignments of `IFD` (R226). `testing` says that a self-test is due: of the clusters, or of all of COD (R213, R230).
`chainSf` is the transmit superframe at which the coupled chain started and `chainBlock` the first block of it since then; `termDue` that the
termination block of an announced change has still to be decoded (R205, R211, R215). -/
structure Cod where
  released : Bool := false
  benInject : Option Injection := none
  benInjected : Nat := 0
  ifeInject : Option Injection := none
  sync : Bool := false
  fail : Bool := false
  degrade : Bool := false
  halted : Bool := false
  phase : Nat := 0
  candidate : Nat := 0
  goodBlocks : Nat := 0
  badBlocks : Nat := 0
  syncLosses : Nat := 0
  fastBer : Nat := 0
  cleanWindows : Nat := 0
  parityErrs : Nat := 0
  degraded : BitVec 16 := 0
  clusterErrs : Vector (List Nat) 16 := Vector.replicate 16 []
  capLow : Bool := false
  ctr : DecCounters := {}
  ctrAt : DecCounters := {}
  uncorrSeen : Bool := false
  blockBad : Bool := false
  returnBad : Bool := false
  testing : Option Bool := some true
  chainSf : Nat := 0
  chainBlock : Nat := 0
  termDue : Bool := false
  frameLock : Bool := false
  ifdFail : Bool := false
  ifdDegrade : Bool := false
  frameLosses : Nat := 0
  hits : Nat := 0
  misses : Nat := 0
  ifdCtr : DecCounters := {}
  ifdCtrAt : DecCounters := {}
deriving DecidableEq, Repr

end Sys2Proof.Machine
end

