-- ==== Sys2Proof/Machine/DomState.lean ====
section
/-!
DEFINITION. The state of Section 15, DOM (chapter 16).
-/
namespace Sys2Proof.Machine

/-- A Tvedry port (Table 16.15): its counters, and its neighbours as domain IDs with the time of their last `HELLO` with
`HOPS` 0 (R492). -/
structure TvlPort where
  link : Bool := false
  neighbours : NMap Nat := []
  rxFrames : Nat := 0
  txFrames : Nat := 0
  bad : Nat := 0
  foreign : Nat := 0
  nakSent : Nat := 0
  nakRx : Nat := 0
  fcs : Nat := 0
  linkDowns : Nat := 0
deriving DecidableEq, Repr, Inhabited

/-- What is known of a member from its last `HELLO` (R492, R493, R499, Table 16.5): its `DEVICE_ID`, flags, hops, time and
epoch, whether its Bedrock digest equals the local one, and whether it is in H. -/
structure Member where
  deviceId : Nat := 0
  flags : Nat := 0
  hops : Nat := 0
  helloAt : Nat := 0
  epoch : Nat := 0
  digestOk : Bool := true
  reachable : Bool := true
deriving DecidableEq, Repr, Inhabited

/-- The fields of a Flint status word that concern health and request (Table 16.6). -/
structure FlintWord where
  healthy : Bool := false
  degraded : Bool := false
  ready : Bool := false
  active : Bool := false
  request : Nat := 0
  wtr : Bool := false
deriving DecidableEq, Repr, Inhabited

/-- The Flint link and decision (R505 to R510, Table 16.15). `own` is the local word and `partner` the partner's, all zero while the link is
lost; `force` and `lockout` are the local requests; `lockedOut` that a lockout was in force when the link was lost; `wtrAt` when the
wait-to-restore began; `hkDue` counts the changes of health and the switches that have not reached HK (R467). -/
structure Flint where
  link : Bool := false
  frameAt : Nat := 0
  own : FlintWord := {}
  force : Nat := 0
  lockout : Bool := false
  partner : FlintWord := {}
  lockedOut : Bool := false
  wtrAt : Option Nat := none
  mismatch : Bool := false
  cause : Nat := 0
  switchAt : Nat := 0
  switches : Nat := 0
  linkLosses : Nat := 0
  badWords : Nat := 0
  seq : Nat := 0
  hkDue : Nat := 0
deriving DecidableEq, Repr

/-- The latest `NP_STATUS` of a device of the 1:N group (Table 16.10). -/
structure NpStatus where
  member : Nat
  endB : Bool
  health : Nat
  request : Nat
  digest : Nat
deriving DecidableEq, Repr, Inhabited

/-- The 1:N group as this device sees it (R512 to R515). `quietSince` is when the arbiter last had a request, `flagged`
the members and ends with the digest reported by `EV255`. -/
structure NpGroup where
  statuses : List NpStatus := []
  request : Nat := 0
  selected : Nat := 0
  selectAt : Nat := 0
  frozen : Bool := false
  quietSince : Option Nat := none
  flagged : List NpStatus := []
  switches : Nat := 0
deriving DecidableEq, Repr

/-- Section 15, DOM. `seq` numbers the frames sent, `seen` lists per originator its newest sequence numbers (R491);
`members` what is known per domain ID; `roster` the roster in ascending order; `outSince` since when a roster member is
out of H; `nakAt` when the last NAK to a source was sent; `policy` numbers the policies sent. -/
structure Dom where
  ports : Vector TvlPort 2 := Vector.replicate 2 {}
  seq : Nat := 0
  seen : NMap (List Nat) := []
  members : NMap Member := []
  roster : List Nat := [0]
  epoch : Nat := 0
  authority : Bool := false
  holdover : Bool := false
  isolated : Bool := false
  partitions : Nat := 0
  outSince : NMap Nat := []
  nakAt : NMap Nat := []
  policy : Nat := 0
  flint : Flint := {}
  np : NpGroup := {}
deriving DecidableEq, Repr

end Sys2Proof.Machine
end

