-- ==== Sys2Proof/Machine/FehState.lean ====
section
/-!
DEFINITION. The state of Section 14, FEH (chapter 15).
-/
namespace Sys2Proof.Machine

/-- A housekeeping converter (R463 to R472, Table 15.6). It settles since `settleAt` and last settled at `settledAt`. `pass` holds the input
codes that the pass in progress has still to convert, `passes` those left in the burst and `burstOf` how many it had; `refUsed` is the
reference in use and `refWaits` that another one follows at the end of the pass. `heldSeq` and `heldUrg` are triggers held while settling.
`urg` holds the input codes that the urgent list has still to convert, and `abcRun` is the number in its dwell of the ABC conversion in progress.
`skip` lists the retired pages that the pass over the buffer in progress jumps, and `full` says that the writer has reached `RD_OFFSET`. -/
structure HkConv where
  settling : Bool := true
  settleAt : Nat := 0
  settledAt : Nat := 0
  refUsed : Nat := 0
  refWaits : Bool := false
  heldSeq : Bool := false
  heldUrg : Bool := false
  burst : Bool := false
  passes : Nat := 0
  burstOf : Nat := 0
  pass : List Nat := []
  stopping : Bool := false
  timerAt : Nat := 0
  urgent : Bool := false
  urg : List Nat := []
  urgPos : Nat := 0
  abcRun : Option Nat := none
  urgRes : Vector Nat 8 := Vector.replicate 8 0
  urgTime : Nat := 0
  vrefFault : Bool := false
  missed : Nat := 0
  startSh : Nat := 0
  lengthSh : Nat := 1
  start : Nat := 0
  length : Nat := 1
  wr : Nat := 0
  wraps : Nat := 0
  rd : Nat := 0
  skip : List Nat := []
  lost : Nat := 0
  full : Bool := false
  stopped : Bool := false
deriving DecidableEq, Repr, Inhabited

/-- A housekeeping DAC (R474, R475): the code at the start of the ramp, where it goes, when the ramp began, and its slew in codes per µs. -/
structure HkDac where
  code : Nat := 0
  target : Nat := 0
  rampAt : Option Nat := none
  slew : Nat := 64
deriving DecidableEq, Repr, Inhabited

/-- A bias under control (R476, R477): consecutive dwells within the lock limit and beyond four times it, and the last
error. -/
structure Bias where
  good : Nat := 0
  bad : Nat := 0
  locked : Bool := false
  atLimit : Bool := false
  error : Int := 0
deriving DecidableEq, Repr, Inhabited

/-- What is outstanding on the laser port (R480, R481): a seat's packet, or the loop's read or write of register 0x62. -/
inductive ItlCommand where
  | seat
  | loopRead
  | loopWrite (value : Int)
deriving DecidableEq, Repr

/-- The laser port and its loop (R479 to R482). `waits` is the loop packet that takes the port next, `known` that the FTF in
force has been read back; `ftf` is the loop's own value, `written` the last one sent to the laser and `inForce` the last one that the laser
has confirmed or returned; `atBound` says that FTF is at a bound. -/
structure Itl where
  busy : Option ItlCommand := none
  sentAt : Nat := 0
  waits : Option ItlCommand := none
  known : Bool := false
  periodAt : Nat := 0
  ftf : Int := 0
  written : Int := 0
  inForce : Int := 0
  atBound : Bool := false
  lastFo : Int := 0
  updates : Nat := 0
  status : Nat := 0
  timeouts : Nat := 0
  checksum : Nat := 0
  naks : Nat := 0
  refused : Nat := 0
deriving DecidableEq, Repr

/-- Section 14, FEH. `below` and `above` say which comparators' inputs lie below their lower or above their upper threshold (R469).
`released` says that the DAC outputs have been released since start-up, and `heldAt` since when they are held (R475); `under` are the biases
under control, and `active` the one in its dwell, since `dwellAt`; `samples` are the ABC conversions of the dwell so far, by number, and
`heldDither` the dither offset that a channel holds. -/
structure Feh where
  convs : Vector HkConv 2 := Vector.replicate 2 {}
  below : BitVec 8 := 0
  above : BitVec 8 := 0
  cross : BitVec 8 := 0
  dacs : Vector HkDac 12 := Vector.replicate 12 {}
  released : Bool := false
  heldAt : Option Nat := none
  under : BitVec 6 := 0
  biases : Vector Bias 6 := Vector.replicate 6 {}
  active : Option (Fin 6) := none
  dwellAt : Nat := 0
  samples : List (Nat × Int) := []
  heldDither : Option (Fin 6 × Int) := none
  unlocks : Nat := 0
  itl : Itl := {}
deriving DecidableEq, Repr

end Sys2Proof.Machine
end

