-- ==== Sys2Proof/Machine/FrmState.lean ====
section
/-!
DEFINITION. The state of Section 9, FRM (chapter 7).
-/
namespace Sys2Proof.Machine

/-- A row of the client map in operation: what replaces its receive signal and what the frame shows of it (R246, R250,
R257). `clearSince` is when its last cause of replacement cleared. `hostKbps` is its measured
host rate. -/
structure Client where
  replacing : Bool := false
  clearSince : Option Nat := none
  outside : Bool := false
  msiBad : Bool := false
  jcBad : Nat := 0
  jcGood : Nat := 0
  jcAlarm : Bool := false
  hostKbps : Nat := 0
deriving DecidableEq, Repr, Inhabited

/-- An ODUflex resize in progress (R249): its client, the size it had, the size it goes to, its step (0 link connection,
1 bandwidth), and the commit it belongs to. -/
structure Resize where
  client : Nat
  from_ : Nat
  to_ : Nat
  step : Nat := 0
  since : Nat := 0
  commit : Nat
deriving DecidableEq, Repr, Inhabited

/-- A resize that the partner has started and `MAP` follows (R249): its client and the size it goes to. -/
structure Followed where
  client : Nat
  to_ : Nat
deriving DecidableEq, Repr, Inhabited

/-- Section 9, FRM. `sentBei` holds the BIP-8 errors of each slice of the last frame checked, which BEI reports back (R260); `following` the
resize of the partner whose link connection is resized (R249). `fasBad`, `fasGood` and, for each slice, `mfasBad`
count consecutive frames (R243), `oofSince` and `inSince` are when
the present out-of-frame or in-frame condition began. `resizes` lists the resizes still to make, the first one in
progress, and `resized` those of the same commit that are made. `replacedAt` is the time up to which replaced words are
counted and `replacedRest` the rest of a word, in 1/128,000 word (R257). -/
structure Frm where
  oof : Bool := true
  lof : Bool := true
  bdi : Bool := false
  tim : Bool := false
  maint : Bool := false
  ptBad : Bool := false
  msiMismatch : Bool := false
  sticky : BitVec 6 := 0
  rxCapacity : Nat := 0
  txCapacity : Nat := 128
  smBip : Nat := 0
  smBipAt : Nat := 0
  pmBip : Nat := 0
  smBei : Nat := 0
  lofCount : Nat := 0
  gccDrops : Nat := 0
  gccBad : Nat := 0
  fasBad : Nat := 0
  fasGood : Nat := 0
  mfasBad : Vector Nat 32 := Vector.replicate 32 0
  sentBei : List Nat := []
  following : Option Followed := none
  oofSince : Nat := 0
  inSince : Nat := 0
  smTti : Vector Nat 64 := Vector.replicate 64 0
  pmTti : Vector Nat 64 := Vector.replicate 64 0
  clients : Vector Client 64 := Vector.replicate 64 {}
  resizes : List Resize := []
  resized : List Resize := []
  resizeClient : Nat := 0
  resizeTarget : Nat := 0
  resizeFail : Bool := false
  replaced : Nat := 0
  replacedAt : Nat := 0
  replacedRest : Nat := 0
  jcErrors : Nat := 0
  steps : Nat := 0
deriving DecidableEq, Repr

end Sys2Proof.Machine
end

