-- ==== Sys2Proof/Machine/HstState.lean ====
section
/-!
DEFINITION. The state of Section 13, HST (chapter 11).
-/
namespace Sys2Proof.Machine

/-- A lane (Table 11.4, Table 11.8, Table 11.14). `low` says that the lane is in H2, `deep` that P3 or P4 holds it there; `flint` that a Flint mute holds its
transmitter, `forced` a safe-state force. `step` is the step of the bring-up in progress, 0 none, 7 up, and `passed` says that step 4 has ended; `refAt` and
`stepAt` are when the bring-up and the step began, `absentAt` when signal detect cleared. `kept` says that trained taps and
polarity are kept, `warm` that a warm exit runs (R365). `taps` are the trained taps, `ctle` and `dfe` the
equaliser's values as last measured. `good` and `bad` count markers in
succession (R371). -/
structure Lane where
  low : Bool := true
  deep : Bool := false
  muted : Bool := false
  forced : Bool := false
  flint : Bool := false
  present : Bool := false
  signal : Bool := false
  cdr : Bool := false
  trained : Bool := false
  inverted : Bool := false
  step : Nat := 0
  passed : Bool := false
  refAt : Nat := 0
  stepAt : Nat := 0
  absentAt : Nat := 0
  kept : Bool := false
  warm : Bool := false
  taps : Vector Int 6 := #v[0, 0, 0, 64, 0, 0]
  freq : Int := 0
  snrX4 : Nat := 0
  ctle : Nat := 0
  dfe : Int := 0
  faults : BitVec 6 := 0
  downCount : Nat := 0
  trainFails : Nat := 0
  stuffs : Nat := 0
  good : Nat := 0
  bad : Nat := 0
  locked : Bool := false
deriving DecidableEq, Repr

/-- A port (Table 11.14). `fecUncorrAt` is the count at the last interval boundary, `skewed` says that step 6 waits for a
retry since `skewAt`, `period` counts the Transparent Lane Mode periods sent, `noPad` that the next one has P = 0. Of a FlexE PHY the last five say what its overhead
shows: lock, a bad CRC, a mismatch of the group or PHY number, and a remote PHY fault (R377). -/
structure Port where
  up : Bool := false
  markerLock : Bool := false
  deskewed : Bool := false
  fecDegrade : Bool := false
  rxLf : Bool := false
  rxRf : Bool := false
  skew : Nat := 0
  seen : BitVec 5 := 0
  blockErrs : Nat := 0
  markerErrs : Nat := 0
  fecCorr : Nat := 0
  fecUncorr : Nat := 0
  fecUncorrAt : Nat := 0
  skewed : Bool := false
  skewAt : Nat := 0
  period : Nat := 0
  noPad : Bool := false
  ohLocked : Bool := false
  ohCrcBad : Bool := false
  gidBad : Bool := false
  phyBad : Bool := false
  rpf : Bool := false
deriving DecidableEq, Repr, Inhabited

/-- A FlexE group (Table 11.14): the calendar in use, a switch in progress, and a calendar that does not match. What its overhead shows is kept
PHY by PHY. -/
structure FlexeGroup where
  calB : Bool := false
  switching : Bool := false
  calMismatch : Bool := false
deriving DecidableEq, Repr, Inhabited

/-- Section 13, HST. `reversed` is the receive order found or being tried, `orderLocked` that it is held, `tryAt` when the
trial began (R363). `calendar` and `standby` are the calendars in use and on standby, listing used slots only, and
`calAt` is when the last calendar request was sent (R372). `failing` are the clients whose signal toward the line is replaced (R378). -/
structure Hst where
  lanes : Vector Lane 16 := Vector.replicate 16 {}
  reversed : Bool := false
  orderLocked : Bool := false
  tryAt : Nat := 0
  ports : Vector Port 16 := Vector.replicate 16 {}
  groups : Vector FlexeGroup 4 := Vector.replicate 4 {}
  ohCrc : Nat := 0
  switches : Nat := 0
  calendar : NMap Nat := []
  standby : NMap Nat := []
  calAt : Nat := 0
  failing : List Nat := []
deriving DecidableEq, Repr

end Sys2Proof.Machine
end

