-- ==== Sys2Proof/Machine/InfraState.lean ====
section
/-!
DEFINITION. The state of the infrastructure Sections PWR, CLK and MEM (chapters 17, 13 and 14).
-/
namespace Sys2Proof.Machine

/-- A change of a group's power state in progress (R540, R541): the state left and the state entered. -/
structure PowerMove where
  from_ : Nat
  target : Nat
  deeper : Bool
  since : Nat
deriving DecidableEq, Repr, Inhabited

/-- A traffic group (R536 to R541): its state from P0 to P4, the deepen wait and the move in progress. -/
structure Group where
  state : Nat := 0
  target : Nat := 0
  holdSince : Option Nat := none
  move : Option PowerMove := none
deriving DecidableEq, Repr, Inhabited

/-- Section 1, PWR. Temperatures are in 0.125 °C; `none` as a tolerance is "no tolerance given" (R539).
`flintTol` is the tolerance that `DOM.FLT` gives, `tjSeen` that `THM_MAX_SEEN` holds a reading, `vinRose` that VIN has come
back since a shutdown. `powered` says that the rails other than always-on are on; `offLatched` that a shutdown of R545 or R527 holds. -/
structure Pwr where
  inReg : BitVec 7 := 0x7F
  powered : Bool := true
  offLatched : Bool := false
  pgood : Bool := false
  vinLow : Bool := false
  vinPresent : Bool := true
  porstLow : Bool := false
  phasesFailed : Vector Nat 7 := Vector.replicate 7 0
  coreMv : Nat := 800
  avsLimited : Bool := false
  vinMv : Nat := 0
  iin10mA : Nat := 0
  iinPeak : Nat := 0
  groups : Vector Group 4 := Vector.replicate 4 {}
  tolerances : Vector (Vector (Option Nat) 4) 4 := Vector.replicate 4 (Vector.replicate 4 none)
  flintTol : Option Nat := none
  transitions : Nat := 0
  lastExitUs : Nat := 0
  lastExitFrom : Nat := 0
  resetCause : Nat := 0
  priorShutdown : Bool := false
  level : Nat := 0
  invalid : BitVec 8 := 0
  temps : Vector Int 8 := Vector.replicate 8 0
  tj : Int := 0
  tjMax : Int := 0
  tjSeen : Bool := false
  vinRose : Bool := false
  hotSince : Option Nat := none
deriving DecidableEq, Repr

/-- A clock multiplexer (R416 to R419): its selection and the source that a switch in progress goes to. -/
structure ClockMux where
  sel : Bool := false
  switchTo : Option Bool := none
  oldStopped : Bool := false
deriving DecidableEq, Repr, Inhabited

/-- An access of a seat that is held while the gate of a block is closed or about to close (R424): the command that makes it, the instance it
reaches, and whether it writes. -/
structure HeldAccess where
  command : Instr
  seat : SeatId
  path : Path
  write : Bool
deriving DecidableEq, Repr

/-- Section 2, CLK. Source bits follow Table 13.2; the four PLLs are instances 0 SPLL to 3 TPLL. `firstReady` records
`PCIE_REFCLK`'s first ready, which arms its monitor (R420). `gateWait` holds the Units that have been asked for
quiescence (R424), `gated` those whose gate is closed, `resetRequired` those marked by R425. `swing` says which sources show a valid swing
(R413). -/
structure Clk where
  ready : BitVec 10 := 0
  swing : BitVec 10 := 0
  counting : BitVec 10 := 0
  failed : BitVec 10 := 0
  locked : BitVec 4 := 0
  pcieArmed : Bool := false
  unlocks : Nat := 0
  muxes : Vector ClockMux 3 := Vector.replicate 3 {}
  fallback : Bool := false
  stoppedOld : Bool := false
  mgmtStopped : Bool := false
  coreStopped : Bool := false
  timeStopped : Bool := false
  hcoreStopped : Bool := false
  safeState : Bool := false
  firstSource : Nat := 0
  firstCause : Nat := 0
  failTimeUs : Nat := 0
  fails : Nat := 0
  gateWait : List Path := []
  gated : List Path := []
  held : List HeldAccess := []
  resetRequired : List Path := []
  gateTimeouts : Nat := 0
  gateLast : Nat := 0
deriving DecidableEq, Repr

/-- One entry of a group's error log (R445, Table 14.12). `kind` 0 is an empty entry. -/
structure ErrorEntry where
  word : Nat := 0
  kind : Nat := 0
  source : Nat := 0
  rep : Nat := 0
  timeUs : Nat := 0
deriving DecidableEq, Repr, Inhabited

/-- The counters and the error log of one memory group (R433, R445). -/
structure EccGroup where
  ce : Nat := 0
  ceAtInterval : Nat := 0
  ue : Nat := 0
  poison : Nat := 0
  log : Vector ErrorEntry 32 := Vector.replicate 32 {}
  logNext : Nat := 0
deriving DecidableEq, Repr

/-- One queued word with its end-of-packet mark (R449). -/
structure SpqWord where
  data : Word64
  eop : Bool
deriving DecidableEq, Repr, Inhabited

/-- One spill queue (R449 to R453): the register entries of the tail and the head and the words in the region, each oldest first; `wr` is
the place in the region that the spill engine writes next, counted on from 0 and wrapping over the region's words. -/
structure Spq where
  tail : List SpqWord := []
  region : List SpqWord := []
  head : List SpqWord := []
  wr : Nat := 0
  pushLo : Word := 0
  dropping : Bool := false
  high : Bool := false
  fullDrops : Nat := 0
  cmdDrops : Nat := 0
  pushRefused : Nat := 0
  poisonDrops : Nat := 0
deriving DecidableEq, Repr

/-- A page or bank whose retirement is in progress (R446). -/
structure Retiring where
  bank : Bool
  index : Nat
deriving DecidableEq, Repr, Inhabited

/-- Section 4, MEM. `image` is what the host has written of a firmware image in PCIe boot mode (R533). `pages` and `banks` count the
retirements (R446). `bulk` is the bulk memory of 32 MiB, one cell a byte; `flips` the stored bits that differ from the codeword written, a
79-bit mask per word, keyed by group and word (`faultKey`); both in canonical form. -/
structure Mem where
  bulk : List Host.Cell := []
  image : List Host.Cell := []
  flips : NMap Nat := []
  groups : Vector EccGroup 6 := Vector.replicate 6 {}
  ueSeen : BitVec 6 := 0
  poisonSeen : BitVec 6 := 0
  rmwCount : Nat := 0
  scrubPos : Vector Nat 6 := Vector.replicate 6 0
  scrubbing : Bool := false
  scrubPasses : Nat := 0
  retired : List Nat := []
  pages : Nat := 0
  banks : Nat := 0
  retiring : List Retiring := []
  startBanks : BitVec 64 := 0
  queues : Vector Spq 24 := Vector.replicate 24 {}
deriving DecidableEq, Repr

end Sys2Proof.Machine
end

