-- ==== Sys2Proof/Machine/MgtState.lean ====
section
/-!
DEFINITION. The state of Section 0, MGT: seats, rings, event blocks, ownership, slates and commits, firmware and the
start-up sequencer (chapters 2, 17 and 18).
-/
namespace Sys2Proof.Machine

/-- One entry of a seat's violation log (R43). `kind` 0 is an empty entry. -/
structure ViolationEntry where
  kind : Nat := 0
  index : Nat := 0
  timeUs : Nat := 0
deriving DecidableEq, Repr, Inhabited

/-- One entry of a seat's event ring (Table 18.4). -/
structure EventEntry where
  event : Nat := 0
  severity : Nat := 0
  sec : Nat := 0
  unit : Nat := 0
  inst : Nat := 0
  coalesced : Nat := 0
  timeS : Nat := 0
  timeNs : Nat := 0
deriving DecidableEq, Repr, Inhabited

/-- One vector of a seat's MSI-X table: address, data and mask bit, as PCIe 4.0 lays them out (R35, Table 2.2). -/
structure MsixVector where
  addr : Nat := 0
  data : Nat := 0
  masked : Bool := true
  lastSent : Option Nat := none
deriving DecidableEq, Repr, Inhabited

/-- The answer to a Gound request: `STATUS`, `DETAIL` and payload (R50, Table 2.10). -/
structure Reply where
  status : Nat
  detail : Nat := 0
  payload : List Byte := []
deriving DecidableEq, Repr, Inhabited

/-- A response on its way into a response ring: the echoed header fields and the answer (R50). -/
structure Posting where
  opcode : Nat
  cls : Nat
  quiet : Bool
  tag : Nat
  seq : Nat
  reply : Reply
deriving DecidableEq, Repr, Inhabited

/-- One doorbell that the dispatcher has not finished: its tail, the time it arrived, and whether a request of it has
failed check 1, 2, 3 or 4, so that the rest is discarded (R75). -/
structure Doorbell where
  tail : BitVec 7
  at_ : Nat
  failed : Bool := false
deriving DecidableEq, Repr, Inhabited

/-- The event block of a seat (R553 to R558, Table 18.3). -/
structure EventBlock where
  sticky : BitVec 256 := 0
  ringMask : BitVec 256 := defaultRingMask
  msixMask : BitVec 256 := defaultMsixMask
  alertMask : BitVec 256 := defaultAlertMask
  ring : Vector EventEntry 256 := Vector.replicate 256 {}
  tail : BitVec 9 := 0
  head : BitVec 9 := 0
  overflow : Bool := false
  lost : Nat := 0
deriving DecidableEq, Repr

/-- One coefficient of a `DPD` slate or of the running `DPD` set: channel, order, delay and value (R199). -/
structure DpdCoef where
  channel : Nat
  order : Nat
  delay : Nat
  coef : Int
deriving DecidableEq, Repr, Inhabited

/-- One triplet of an `NLE` slate or of the running list: indices m and n and the complex coefficient (R163). -/
structure NleTriplet where
  m : Int
  n : Int
  re : Int
  im : Int
deriving DecidableEq, Repr, Inhabited

/-- A seat's most recent failed claim (R63): the targets answered `OWNED`, its sequence number, and when its response was posted. -/
structure FailedClaim where
  targets : List Nat
  seq : Nat
  postedAt : Option Nat
deriving DecidableEq, Repr, Inhabited

/-- Everything that a seat holds: its registers, rings, event block, slates and key staging. -/
structure Seat where
  attached : Bool := false
  absent : Bool := false
  quarantined : Bool := false
  detached : Bool := false
  rspStalled : Bool := false
  writeRefused : Bool := false
  nonceEcho : Nat := 0
  attachReg : Nat := 0
  beat : Nat := 0
  hbTimeoutMs : Nat := 0
  hbStart : Nat := 0
  reqTail : BitVec 7 := 0
  reqHead : BitVec 7 := 0
  rspTail : BitVec 7 := 0
  rspHead : BitVec 7 := 0
  seqExpect : BitVec 32 := 0
  violTotal : Nat := 0
  violTimes : List Nat := []
  violLog : Vector ViolationEntry 16 := Vector.replicate 16 {}
  violNext : Nat := 0
  reqRing : List Host.Cell := []
  rspRing : List Host.Cell := []
  doorbells : List Doorbell := []
  rspWait : List Posting := []
  rspFullSince : Option Nat := none
  urgentOut : Nat := 0
  events : EventBlock := {}
  msix : Vector MsixVector 64 := Vector.replicate 64 {}
  msixPending : BitVec 64 := 0
  failedClaim : Option FailedClaim := none
  slate : NMap Int := []
  nleSlate : List NleTriplet := []
  dpdSlate : List DpdCoef := []
  keyStage : Vector Word 8 := Vector.replicate 8 0
  keyResult : Nat := 0
  shadowPair : Option Nat := none
  shadowHi : Nat := 0
  unpaired : Bool := false
  ppsNs : Nat := 0
  readData : Nat := 0
deriving DecidableEq, Repr

/-- The values that a hitless rate change alters (R190): line capacity C in 25 Gb/s units, H in 1/64 bit and the code
of the pilot spacing. -/
structure RateValues where
  capacity : Nat
  entropy : Nat
  pilots : Nat
deriving DecidableEq, Repr, Inhabited

/-- The slates of a commit: records, triplets and pre-distortion coefficients of the seat for the listed targets. -/
structure SlateSet where
  recs : NMap Int
  nle : List NleTriplet
  dpd : List DpdCoef
deriving DecidableEq, Repr

/-- One target's share of an applied slate in one direction. `onTx` says that `due` counts transmit superframes
(a receive part without superframe lock does, R22); `deferral` by how many
superframes its reservation lies later (R186, R188). -/
structure CommitPart where
  path : Path
  dir : Dir
  onTx : Bool
  deferral : Nat := 0
  due : Nat
  done : Bool := false
deriving DecidableEq, Repr, Inhabited

/-- What an applied commit still has to go through, in order: ODUflex resizes (client, size before, size after; R249), FlexE
calendar switches of groups (R372), and the crossing of its boundaries with its rate change if it has one (R69, R193). -/
inductive CommitStage where
  | resize (items : List (Nat × Nat × Nat))
  | calendar (groups : List Nat)
  | land
deriving DecidableEq, Repr, Inhabited

/-- An applied commit that has not taken effect in full (R69). `recs` are the slate records that change a running value and
land with the parts, `rateRecs` those that land with its hitless rate change (R193) and `calRecs` those of the FlexE calendar
(R372), with the values `calOld` before, keyed as the running configuration is; `targets` are the targets whose slates, as
`applied` holds them, it applies; `rate` says that the rate
change has not landed, `values` what it leads to; `landing` that the parts have been placed. `txSf`,
`rxSf`, `rxLocal` and `deferral` are what the response will report, if one is posted: `silent` says that the seat or the
control plane has been reset since. -/
structure Commit where
  id : Nat
  req : Request
  targets : List Path
  recs : NMap Int
  rateRecs : NMap Int := []
  calRecs : NMap Int := []
  calOld : NMap Int := []
  applied : SlateSet
  nle : List NleTriplet := []
  dpd : List DpdCoef := []
  plan : List CommitStage
  landing : Bool := false
  parts : List CommitPart
  hit : Bool := false
  rate : Bool := false
  values : RateValues
  changed : Nat := 0
  txSf : Nat := 0
  rxSf : Nat := 0
  rxLocal : Bool := false
  deferral : Nat := 0
  silent : Bool := false
deriving DecidableEq, Repr

/-- A request whose response is posted by a later step. -/
inductive Waiting where
  /-- `UNIT_RESET` or `SECTION_RESET`: posted when the reset Units are released (R77). -/
  | reset (req : Request) (units : List Path)
  /-- `KEY_ACTIVATE`: posted at the changeover of the channel (R278). -/
  | keyActivate (req : Request) (channel : Nat)
  /-- `MEM_RETIRE`: posted when the retirement has taken effect (R446). -/
  | memRetire (req : Request) (bank : Bool) (index : Nat)
  /-- `CLK_SWITCH`: posted when the switch ends (R418). -/
  | clkSwitch (req : Request) (mux : Nat)
  /-- `COMMIT_CHECK`, or with `apply` a `COMMIT_APPLY`, that waits for a `RATE_ANSWER` (R191). -/
  | negotiate (req : Request) (apply : Bool)
  /-- `DOM_POLICY_SEND` that waits for its answers (R502). -/
  | policySend (req : Request) (number : Nat) (waitFor : List Nat) (answers : List (Nat × Nat × Nat)) (since : Nat)
deriving DecidableEq, Repr

/-- The request that a waiting answer belongs to. -/
def Waiting.req : Waiting → Request
  | .reset r _ => r
  | .keyActivate r _ => r
  | .memRetire r _ _ => r
  | .clkSwitch r _ => r
  | .negotiate r _ => r
  | .policySend r _ _ _ _ => r

/-- The record of a rate-limited event (R559): when its last raise passed and how many have been suppressed since.
`reopened` says that a new PM interval lets the next raise pass (R286). -/
structure LimitEntry where
  event : Nat
  member : Nat
  passedAt : Nat
  suppressed : Nat := 0
  reopened : Bool := false
deriving DecidableEq, Repr, Inhabited

/-- The start-up sequencer `MGT.SEQ` (R532 to R535, Table 17.14). -/
structure SeqState where
  step : Nat := 0
  fault : Bool := false
  cause : Nat := 0
  straps : BitVec 8 := 0
  bootSlot : Bool := false
  version : Nat := 0
  readyTimeUs : Nat := 0
  refAt : Nat := 0
  everReady : Bool := false
  verifying : Bool := false
deriving DecidableEq, Repr

/-- Section 0. `owners` lists only the targets whose owner differs from the one at cold reset (R62). `running` lists
only the parameters that differ from their defaults; `perst` says that `PCIE_PERST_N` is low; `resetting` lists the targets of each
reset in progress; `earlyTx` and `earlyRx` hold values of parameters that act in
both directions and have taken effect in one of them only (R22); `coreStopped` when each core of MPC that has stopped gave its last
signal (R80); `stored`, `storedNle` and `storedDpd` what has been committed while CORE was stopped and takes effect when it runs again,
with the values before (R22). -/
structure Mgt where
  seats : Vector Seat 4 := Vector.replicate 4 {}
  fwReady : Bool := false
  restarting : Bool := false
  build : Nat := 0
  channel : List Request := []
  normalRun : Nat := 0
  waiting : List Waiting := []
  owners : NMap (Option SeatId) := []
  running : NMap Int := []
  earlyTx : NMap Int := []
  earlyRx : NMap Int := []
  commits : List Commit := []
  nextCommit : Nat := 0
  perst : Bool := false
  resetting : List (List Path) := []
  limits : List LimitEntry := []
  seq : SeqState := {}
  coreStopped : Vector (Option Nat) 4 := Vector.replicate 4 none
  stored : NMap Int := []
  storedNle : List NleTriplet := []
  storedDpd : List DpdCoef := []
deriving DecidableEq, Repr

end Sys2Proof.Machine
end

