-- ==== Sys2Proof/Machine/TxdState.lean ====
section
/-!
DEFINITION. The state of Section 7, TXD (chapter 5).
-/
namespace Sys2Proof.Machine

/-- The outstanding `RATE_PROPOSE` (R191): its `CHANGE_ID`, the values proposed, and when it was sent. -/
structure Proposal where
  changeId : Nat
  values : RateValues
  since : Nat
deriving DecidableEq, Repr, Inhabited

/-- An accepted answer (R193): the `CHANGE_ID` and the values accepted, and when it was received; each holds for `rate_hold_ms`, whatever is
proposed after it. -/
structure Accepted where
  changeId : Nat
  values : RateValues
  since : Nat
deriving DecidableEq, Repr, Inhabited

/-- The stages of an applied rate change (R193). -/
inductive RateStage where
  | resizingDown
  | placed
  | announced
  | resizingUp
deriving DecidableEq, Repr, Inhabited

/-- An applied rate change: its commit, the `CHANGE_ID` under which it was accepted, its stage, the first announcing superframe s0, the change superframe and by how
many superframes the arbiter moved it (R193). -/
structure PendingRate where
  commit : Nat
  changeId : Nat
  stage : RateStage
  values : RateValues
  s0 : Nat := 0
  change : Nat := 0
  deferral : Nat := 0
deriving DecidableEq, Repr, Inhabited

/-- Who holds a superframe (R186, R188). -/
inductive Holder where
  | rate
  | key (channel : Nat)
  | commit (id : Nat)
  /-- Receive side only: a change announced by the partner or a key changeover it has signalled (R188). -/
  | partner
deriving DecidableEq, Repr, Inhabited

/-- A reservation of the arbiter: the superframe and its holder (R186, R188). -/
structure Reservation where
  sf : Nat
  holder : Holder
deriving DecidableEq, Repr, Inhabited

/-- Section 7, TXD. `changeId` is that of the current or last change, `proposals` that of the last proposal; `zr` says that the format in use is
that of an interoperable mode; `released` says that TXD has been released since the cold reset (R298). -/
structure Txd where
  constellation : Nat := 3
  shaped : Bool := false
  entropy : Nat := 0
  capacity : Nat := 0
  changeId : Nat := 0
  proposals : Nat := 0
  changes : Nat := 0
  rejects : Nat := 0
  localResult : Nat := 0
  remoteResult : Nat := 0
  proposal : Option Proposal := none
  accepted : List Accepted := []
  pending : Option PendingRate := none
  pilots : Nat := 1
  sf : Nat := 0
  counting : Bool := false
  countdown : Nat := 0
  targetSf : Nat := 0
  deferrals : Nat := 0
  reserved : List Reservation := []
  rxReserved : List Reservation := []
  symbolRate : Nat := 2400
  rolloff : Nat := 5
  dpdEnabled : Bool := false
  dpdRamping : Bool := false
  dpdCoefs : List DpdCoef := []
  dpdClips : Nat := 0
  restartMute : Bool := false
  released : Bool := false
  zr : Bool := false
deriving DecidableEq, Repr

end Sys2Proof.Machine
end

