-- ==== Sys2Proof/Machine/LineState.lean ====
section
/-!
DEFINITION. The state of Section 5, CNV (chapter 3) and Section 6, RXD (chapter 4).
-/
namespace Sys2Proof.Machine

/-- One ADC slice: its trims and its consecutive failed attempts (R94). -/
structure Slice where
  trims : Trims := {}
  fails : Nat := 0
deriving DecidableEq, Repr, Inhabited

/-- What the calibration of a group is doing (Table 3.5, R94, R102). -/
inductive RotationPhase where
  /-- No calibration runs. -/
  | idle
  /-- The resting slice, or in a forced step the slice out of service, is being calibrated. -/
  | calibrating
  /-- The new trims are loaded and the slice samples in parallel with the one it replaces. -/
  | parallel (old : Trims)
deriving DecidableEq, Repr, Inhabited

/-- A slice group (R91 to R98). `active` lists the slices in service in rotation order, `next` is the position of the
next one to be replaced, `resting` the slice out of service if there is one, `retired` the slice that the group has retired, `passLeft` the
rotation steps that a forced pass still owes, `steps` counts the rotation steps of the current background pass, `stepAt` is the start of the
last step and `windowAt` that of its parallel window (R106). -/
structure SliceGroup where
  slices : Vector Slice 13 := Vector.replicate 13 {}
  active : List Nat := [0, 1, 2, 3, 4, 5]
  resting : Option Nat := some 6
  next : Nat := 0
  phase : RotationPhase := .idle
  retired : Option Nat := none
  blocked : List Nat := []
  passLeft : Nat := 0
  steps : Nat := 0
  stepAt : Nat := 0
  windowAt : Nat := 0
deriving DecidableEq, Repr

/-- One ADC channel (Table 3.10). `noSpareSeen` is `NO_SPARE_GROUPS` as last judged for `EV082` (R97). -/
structure Adc where
  running : Bool := false
  full : Bool := false
  forcedStep : Bool := false
  initCal : Bool := false
  groups : Vector SliceGroup 12 := Vector.replicate 12 {}
  noSpareSeen : Nat := 0
  passes : Nat := 0
  fails : Nat := 0
  clips : Nat := 0
deriving DecidableEq, Repr

/-- One sub-DAC (R108, R109). -/
structure SubDac where
  trims : Trims := {}
  fails : Nat := 0
  oldTrim : Bool := false
deriving DecidableEq, Repr, Inhabited

/-- One DAC channel (Table 3.10). `muteCommand` is the state that `MUTE` set (R111). -/
structure Dac where
  running : Bool := false
  full : Bool := false
  initCal : Bool := false
  muteCommand : Bool := false
  subs : Vector SubDac 4 := Vector.replicate 4 {}
  passes : Nat := 0
  fails : Nat := 0
deriving DecidableEq, Repr

/-- Section 5, CNV. `obsNext` is the turn of the background pass over the 16 sub-DACs and `obsBegun` that it has taken its reference;
`dacPassLeft` and `dacPassBegun` are the same of a forced pass, counted down; `obsSub` is the sub-DAC under calibration and `obsForced` that
it belongs to the forced pass (R108, R110). `forcedAt` is the group that a forced step is recalibrating, with the slice in turn. `gainAt` is
when a gain step last took effect on each channel (R106). -/
structure Cnv where
  adcs : Vector Adc 4 := Vector.replicate 4 {}
  dacs : Vector Dac 4 := Vector.replicate 4 {}
  obsChannel : Nat := 0
  obsActive : Bool := false
  obsFault : Bool := false
  obsNext : Nat := 0
  obsBegun : Bool := false
  obsSub : Nat := 0
  obsForced : Bool := false
  obsStepAt : Nat := 0
  dacPassLeft : Nat := 0
  dacPassBegun : Bool := false
  initCal : Bool := false
  forcedPass : Bool := false
  passQueued : Bool := false
  passPendingExit : Bool := false
  skipRaised : Bool := false
  forcedAt : Option (Fin 4 × Fin 12 × Nat) := none
  forcedDone : List (Fin 4 × Fin 12) := []
  refTemp : Int := 0
  reading : Int := 0
  gains : Vector Nat 4 := Vector.replicate 4 12
  held : BitVec 4 := 0
  atLimit : BitVec 4 := 0
  agcSteps : Nat := 0
  gainAt : Vector Nat 4 := Vector.replicate 4 0
  agcAt : Vector Nat 4 := Vector.replicate 4 0
deriving DecidableEq, Repr

/-- `RX_STATE` (Table 4.12). -/
inductive RxState where
  | idle
  | freq
  | cdScan
  | cdRefine
  | timing
  | polBlind
  | carrier
  | polRd
  | decode
  | locked
  | hold
  | warm
deriving DecidableEq, Repr, Inhabited

/-- The code of `RX_STATE`. -/
def RxState.code : RxState → Nat
  | .idle => 0 | .freq => 1 | .cdScan => 2 | .cdRefine => 3 | .timing => 4 | .polBlind => 5
  | .carrier => 6 | .polRd => 7 | .decode => 8 | .locked => 9 | .hold => 10 | .warm => 11

/-- The stage of `PMX` (R139). -/
inductive PmxStage where
  | frozen
  | cma
  | rde
  | da
deriving DecidableEq, Repr, Inhabited

/-- The code of `PMX_STATUS.STAGE` (Table 4.13). -/
def PmxStage.code : PmxStage → Nat
  | .frozen => 0 | .cma => 1 | .rde => 2 | .da => 3

/-- A change of format that a valid header has announced (R179): the received superframe at which it lands and the new
values. -/
structure FormatChange where
  sf : Nat
  values : RateValues
deriving DecidableEq, Repr, Inhabited

/-- Section 6, RXD. `powerAt` is when input power appeared, `acqStart` the reference time of the running acquisition, `stepAt` the moment
from which the bounds of Table 4.7 and `warm_timeout_ms` run, `acqMode` the mode of the running acquisition (0 value, 1 blind, 2 seeded),
`stored` that the chain holds the state a warm reacquisition needs, `holdExpired` that the hold is over, `exitP2` that the chain waits after
an exit from P2, `warmRun` that the chain runs steps 4, 6, 7 and 8 only (`rxState` is then the step and `RX_STATE` reads 11), `resumed` that
it resumes after a short LOS (R159), `iqAngle` (0.001°) and `iqGain` (0.001 dB) the corrections of X and Y. `headers` and `missing` count
consecutive headers found and missing (R150); `announced` is the scheduled change (R179), `adopted` that a valid header has been taken since
superframe lock, `changeSfs` the latest received superframes in which a change of format took effect (R143). `nleActive` and `nleSpan` are
the triplets and the span in use; `nleCoefs` holds the coefficients once they are no longer those of the list (R146). `pmxTaps` are the
filters from X and Y to X, then to Y, then those of the conjugated inputs that 4×4 real mode adds (R138 to R141); `draws` counts the free
values taken for taps and coefficients; `pmxKept` holds what `PMX` keeps of its inputs, outputs and the carrier phase, the newest 32 cycles
first, and `llrs` the soft decisions that `DMP` has delivered last (R141, R152). `scanBest` and `scanNear` are the best coarse hypothesis and the metrics about it (R129);
`dmpEntropy` is the last valid entropy of `DMP` since superframe lock (R151), `ringVar` the noise variances that it uses (R153). -/
structure Rxd where
  rxState : RxState := .idle
  los : Bool := false
  losAt : Nat := 0
  powerAt : Option Nat := none
  seedValid : Bool := false
  seed : Int := 0
  seedFo : Int := 0
  trackAtLimit : Bool := false
  cdValue : Int := 0
  cdAcquired : Int := 0
  coarseBins : Int := 0
  acqFails : Nat := 0
  peakDbX8 : Nat := 0
  acqUs : Nat := 0
  acqStart : Nat := 0
  acqMode : Nat := 2
  stepAt : Nat := 0
  scanRepeated : Bool := false
  scanBest : Nat := 0
  scanNear : List Nat := []
  stored : Bool := false
  holdExpired : Bool := false
  exitP2 : Bool := false
  warmRun : Bool := false
  resumed : Bool := false
  iqAngle : Vector Int 2 := Vector.replicate 2 0
  iqGain : Vector Int 2 := Vector.replicate 2 0
  stage : PmxStage := .frozen
  iqMimo : Bool := false
  taps : Nat := 31
  pmxTaps : Vector (List (Int × Int)) 8 := Vector.replicate 8 (List.replicate 31 (0, 0))
  draws : Nat := 0
  pmxKept : List (List PmxSymbol) := []
  llrs : List (BitVec 6) := []
  dgd : Nat := 0
  daFallbacks : Nat := 0
  daSkipped : Nat := 0
  singularities : Nat := 0
  bad : Nat := 0
  good : Nat := 0
  nle : Bool := false
  nleAdapting : Bool := false
  nleFrozen : Bool := false
  nleSeatList : Bool := false
  nleList : List NleTriplet := []
  nleRamping : Bool := false
  nleGated : Bool := true
  nleGain : Int := 0
  nleActive : Nat := 128
  nleSpan : Nat := 32
  nleCoefs : Option (List (Int × Int)) := none
  trcLocked : Bool := false
  trcOffset : Int := 0
  trcUnlocks : Nat := 0
  freqLock : Bool := false
  phaseLock : Bool := false
  sfLock : Bool := false
  foSeeded : Bool := false
  pilots : Nat := 1
  entropy : Nat := 0
  foKHz : Int := 0
  foNear : Bool := false
  sf : Nat := 0
  losfCount : Nat := 0
  losf : Bool := false
  headers : Nat := 0
  missing : Nat := 0
  announced : Option FormatChange := none
  adopted : Bool := false
  changeSfs : List Nat := []
  dmpEntropy : Option Nat := none
  ringVar : List Nat := []
  constellation : Nat := 3
  shaped : Bool := false
  rings : Nat := 0
  effSnr : Nat := 0
deriving DecidableEq, Repr

end Sys2Proof.Machine
end

