-- ==== Sys2Proof/Machine/LodState.lean ====
section
/-!
DEFINITION. The state of Section 11, LOD (chapter 9).
-/
namespace Sys2Proof.Machine

/-- A preamble that `LDT` receives or tracks (R303, R307): its metric in 0.5 dB, the gain it asks for in 0.5 dB, and its
link group. -/
structure Preamble where
  metric : Nat
  gain : Nat
  group : Nat
deriving DecidableEq, Repr, Inhabited

/-- A Lodestone message with its sequence number (R300), and when and with what metric it was received. -/
structure LodMessage where
  type : Nat
  payload : List Byte
  seq : Nat := 0
  at_ : Nat := 0
  metric : Nat := 0
deriving DecidableEq, Repr, Inhabited

/-- Section 11, LOD. `mode` is the mode in force (0 off, 1 beacon, 2 in service), `busyUntil` the first superframe after
the frame being sent, `lastSlot` the superframe of the last slot served, `txSeq` the next sequence number; `answers` and
`propose` wait for a slot, as do `opaques`, oldest first; `identityAt` is when the last `IDENTITY` was sent; `estimateNoted` that `EV180` has
been raised for the estimates of this partner; `template` is the last `IDENTITY` built. `current` is the
reception in progress, `header` its decoded header (type, length, sequence), `tracked` a second preamble. `inbox` holds
messages passed to `LMS`, oldest first. `rateNoted` and `cancelNoted` say that `EV188` and `EV190` have been raised for
this identification, `lastValid` when the last valid frame came, `rxSeq` its sequence number. -/
structure Lod where
  mode : Nat := 0
  busyUntil : Nat := 0
  lastSlot : Option Nat := none
  frames : Nat := 0
  txSeq : Nat := 0
  answers : List (List Byte) := []
  propose : Option (List Byte) := none
  identityDue : Bool := false
  identityAt : Nat := 0
  opaques : List LodMessage := []
  template : List Byte := []
  current : Option Preamble := none
  header : Option (Nat × Nat × Nat) := none
  tracked : Option Preamble := none
  gain : Nat := 0
  metric : Nat := 0
  estimateValid : Bool := false
  estimateNoted : Bool := false
  cd : Int := 0
  fo : Int := 0
  rate : Int := 0
  framesOk : Nat := 0
  hdrCrc : Nat := 0
  payCrc : Nat := 0
  preempted : Nat := 0
  ignored : Nat := 0
  foreign : Nat := 0
  lastGroup : Nat := 0
  rxBeacon : Bool := false
  beaconAt : Nat := 0
  inService : Bool := false
  cancelling : Bool := false
  rateNoted : Bool := false
  cancelNoted : Bool := false
  inbox : List LodMessage := []
  identified : Bool := false
  mismatch : Bool := false
  partner : List Byte := []
  partnerAt : Nat := 0
  partnerMetric : Nat := 0
  lastValid : Nat := 0
  rxSeq : Option Nat := none
  missed : Nat := 0
  protoErrors : Nat := 0
  rxDrops : Nat := 0
  txRejects : Nat := 0
deriving DecidableEq, Repr

end Sys2Proof.Machine
end

