-- ==== Sys2Proof/Machine/MonState.lean ====
section
/-!
DEFINITION. The state of Section 12, MON (chapter 10).
-/
namespace Sys2Proof.Machine

/-- A decimation chain and its detectors (R325 to R331, Table 10.11). `conf` is the configuration that it has been cleared
for, `since` when the settling count began, `out` the last output, `index` the index of the next output. `windowSh` and
`threshSh` are the shadow words, `window` and `thresh` the words in force. `peakMax`, `peakN`, `rmsSum` and `rmsN` are the
running windows; the envelope is the exact value `envNum` / 2^`envExp`. A level is `none` until it has a value. `fresh`
says that the next update reports no crossing. `ints` and `combs` are the five integrators and combs, `phase` the core cycles since the
last decimated value, `fir` the values in the FIR filter, newest first (R323, R324). -/
structure Chain where
  settled : Bool := false
  noSource : Bool := false
  conf : List Int := []
  since : Nat := 0
  ints : List (BitVec 96) := List.replicate 5 0
  combs : List (BitVec 96) := List.replicate 5 0
  phase : Nat := 0
  fir : List Int := []
  out : BitVec 32 := 0x80000000
  index : Nat := 0
  drops : Nat := 0
  windowSh : Word := 0x0A02080A
  threshSh : Word := 0x00018800
  window : Word := 0x0A02080A
  thresh : Word := 0x00018800
  peakMax : Nat := 0
  peakN : Nat := 0
  rmsSum : Int := 0
  rmsN : Nat := 0
  envNum : Nat := 0
  envExp : Nat := 0
  peak : Option Int := none
  rms : Option Int := none
  env : Option Int := none
  fresh : Bool := true
  above : Bool := false
  below : Bool := false
  crossUp : Bool := false
  crossDown : Bool := false
deriving DecidableEq, Repr, Inhabited

/-- The capture engine (R343 to R345): `state` as `CAP_STATUS`, `pos` where the next write goes, `left` the bytes still to
be written after the trigger, or the core cycles that the histograms `hist` still count, `conf` the parameters and the chain configuration it was armed with. -/
structure Capture where
  state : Nat := 0
  trigSrc : Nat := 0
  abortCause : Nat := 0
  trigPos : Nat := 0
  endPos : Nat := 0
  count : Nat := 0
  pos : Nat := 0
  left : Nat := 0
  hist : List Nat := []
  conf : List Int := []
deriving DecidableEq, Repr, Inhabited

/-- A gauge over an interval (R332): minimum, maximum, sum and number of samples. -/
structure Gauge where
  lo : Int := 0
  hi : Int := 0
  sum : Int := 0
  count : Nat := 0
deriving DecidableEq, Repr, Inhabited

/-- What a record holds besides its number (R336, R337): kind, flags, interval and latch time, the gauges, and for each
counter block whether it is incomplete and its counts. -/
structure PmContent where
  kind : Nat
  aligned : Bool := false
  timeStep : Bool := false
  interval : Nat := 0
  latchS : Nat := 0
  latchNs : Nat := 0
  gauges : Vector Gauge 9 := Vector.replicate 9 {}
  blocks : List (Bool × List Nat) := []
deriving DecidableEq, Repr

/-- A bin being summed (R336): the gauges, the sums of its 1 s records, when it began, and the counters, by block and place, in which an
uncorrectable error has been found while it formed (R339). -/
structure Bin where
  start : Option Nat := none
  gauges : Vector Gauge 9 := Vector.replicate 9 {}
  blocks : List (Bool × List Nat) := []
  timeStep : Bool := false
  bad : List (Nat × Nat) := []
deriving DecidableEq, Repr

/-- A drain in progress (R335): the content of its record, and of the bins that close with it, with the counters in which they hold an error. -/
structure Drain where
  content : PmContent
  bins : List (PmContent × List (Nat × Nat)) := []
deriving DecidableEq, Repr

/-- Section 12, MON. `latched` are the totals at the last tick, `cleared` the targets whose counters have been cleared since then, `early`
that the interval began before the device was released, `stepped` that the device time has stepped. `written` counts the records of each
kind, `snaps` the record numbers in the slots of each kind, newest first. `waiting` are on-demand requests that wait for the end of a drain,
`atBoundary` those that the next boundary answers (R340). `sampledAt` is when the measures were last sampled, `fecBits` and `fecCorr` the
pre-FEC counts then (R332). -/
structure Mon where
  chains : Vector Chain 8 := Vector.replicate 8 {}
  cap : Capture := {}
  gauges : Vector Gauge 9 := Vector.replicate 9 {}
  latched : List (List Nat) := []
  cleared : List Path := []
  early : Bool := true
  stepped : Bool := false
  bin15 : Bin := {}
  bin24 : Bin := {}
  drain : Option Drain := none
  waiting : List Request := []
  atBoundary : List Request := []
  written : Vector Nat 4 := Vector.replicate 4 0
  snaps : Vector (List Nat) 4 := Vector.replicate 4 []
  drainNs : Nat := 0
  snap : Nat := 0
  interval : Nat := 0
  lastKind : Nat := 0
  flagStep : Bool := false
  flagStore : Bool := false
  sampledAt : Nat := 0
  fecBits : Nat := 0
  fecCorr : Nat := 0
  unpairedCount : Vector Nat 4 := Vector.replicate 4 0
deriving DecidableEq, Repr

end Sys2Proof.Machine
end

