-- ==== Sys2Proof/Machine/SecState.lean ====
section
/-!
DEFINITION. The state of Section 10, SEC (chapter 8).
-/
namespace Sys2Proof.Machine

/-- A key load in progress (R276): the seat that wrote `KEY_LOAD`, the staged key and when it was written. -/
structure KeyLoading where
  seat : SeatId
  key : Vector Word 8
  since : Nat
deriving DecidableEq, Repr

/-- A key slot (Table 8.11 `KEY_SLOT_STATUS`): the key in the key store, its check value, `LOADED` and `FAULT`. -/
structure KeySlot where
  loaded : Bool := false
  fault : Bool := false
  key : Vector Word 8 := Vector.replicate 8 0
  kcv : Nat := 0
  loading : Option KeyLoading := none
deriving DecidableEq, Repr

/-- A placed activation of a channel (R278): the slot of the two, the superframe and by how many superframes the arbiter
moved it. -/
structure KeyChange where
  slot : Bool
  sf : Nat
  deferral : Nat := 0
deriving DecidableEq, Repr, Inhabited

/-- The segment that waits for its verdict (R286): its counter, whether it can only be unverified, the tag computed for it and the tag received. -/
structure DueVerdict where
  counter : Nat
  doubt : Bool
  computed : Nat
  received : Nat
deriving DecidableEq, Repr, Inhabited

/-- The context of a suspended segment (R283): its direction, key slot, epoch, counter, block index, GHASH accumulator, and the lengths of its
additional data and plaintext in bytes. Its channel is the entry's number. -/
structure CipherContext where
  tx : Bool
  slot : Nat
  epoch : Nat
  counter : Nat
  block : Nat
  accumulator : Nat
  aadLength : Nat
  plainLength : Nat
deriving DecidableEq, Repr, Inhabited

/-- A cipher channel (R272 to R287). A slot is named by the last bit of its number. `txUsing` and `rxUsing` say that a
direction uses its slot (R277); an epoch is `none` while it is undefined (R280), and `rxEmptied` says that both slots have been emptied since
the receive epoch was set (R279). `txCounter` is the counter of the next
segment; `txTag` the tag that the next segment carries, if a segment with a key precedes it; `txNoKey` and `rxNoKey` that
`EV167` has been raised for the present lack of a key; `txBips` the PM BIP-8 of the last two frames sent (R268). `rxSync` says that the
receiver decrypts, `rxRead` that it has read
the segment in progress complete, `rxCounter` its counter, `rxTag` the tag computed over it, `rxDoubt` that it counts as unverified,
`rxSilent` that it carries `NO_KEY`,
`rxStray` that the partner has shown an epoch that cannot be followed (R279), `rxRuns` that the segment in progress is decrypted, `rxHeld` its
frames while it is only tracked (R290), and `rxMark` the counter of a failed segment and how many delivered frames still carry its mark
(R286); `rxBips` are the PM BIP-8 of the ciphertext and the plaintext of
the last two frames received (R268). `due` is the segment that waits for its verdict. `mode` and `client` are those of the receive direction
as last seen. -/
structure Channel where
  txSlot : Bool := false
  txUsing : Bool := false
  txEpoch : Option Nat := none
  txCounter : Nat := 0
  txTag : Option Nat := none
  txNoKey : Bool := false
  txBips : List (List Byte) := []
  pending : Option KeyChange := none
  rxSlot : Bool := false
  rxUsing : Bool := false
  rxEpoch : Option Nat := none
  rxEmptied : Bool := false
  rxSync : Bool := false
  rxRead : Bool := false
  rxCounter : Nat := 0
  rxTag : Nat := 0
  rxDoubt : Bool := false
  rxSilent : Bool := false
  rxNoKey : Bool := false
  rxStray : Bool := false
  rxRuns : Bool := false
  rxHeld : List OduFrame := []
  rxMark : Nat × Nat := (0, 0)
  rxBips : List (List (Byte × Byte)) := []
  due : Option DueVerdict := none
  encMismatch : Bool := false
  roleConflict : Bool := false
  authFails : Nat := 0
  consec : Nat := 0
  unverified : Nat := 0
  passRun : Nat := 0
  authDefect : Bool := false
  policyReplaces : Bool := false
  segments : Nat := 0
  mode : Bool := false
  client : Nat := 255
deriving DecidableEq, Repr, Inhabited

/-- Section 10, SEC. `dummy` is the dummy share in force in per mille, `dummyReduced` that it is below `dummy_permille`
(R282); `contexts` is the context store, one entry per channel (R283). -/
structure Sec where
  cores : Nat := 0
  released : Bool := false
  selftestFail : Bool := false
  dummy : Nat := 0
  dummyReduced : Bool := false
  preemptions : Nat := 0
  channels : Vector Channel 64 := Vector.replicate 64 {}
  slots : Vector KeySlot 128 := Vector.replicate 128 {}
  contexts : Vector (Option CipherContext) 64 := Vector.replicate 64 none
deriving DecidableEq, Repr

end Sys2Proof.Machine
end

