-- ==== Sys2Proof/Machine/TimeState.lean ====
section
/-!
DEFINITION. The state of Section 3, TIM (chapter 12).
-/
namespace Sys2Proof.Machine

/-- A reference slot (R385 to R391, Table 12.10). `actF` and `actP` say that its frequency and its phase have activity,
`measured` that it has been measured since it had activity; offsets are in parts per 10^12. `everDisq` says that it has
been disqualified since the last reset of `RSL`; `soakAt`, `wtrAt`, `holdF` and `holdP` are when soak, wait-to-restore and the hold-offs
of its frequency and phase began. -/
structure Slot where
  actF : Bool := false
  actP : Bool := false
  measured : Bool := false
  hard : Int := 0
  soft : Int := 0
  qualified : Bool := false
  everDisq : Bool := false
  soakAt : Option Nat := none
  wtrAt : Option Nat := none
  holdF : Option Nat := none
  holdP : Option Nat := none
  disquals : Nat := 0
deriving DecidableEq, Repr, Inhabited

/-- The disagreement of two available slots of equal priority (R393): the pair and the deviant code. -/
structure Disagree where
  a : Nat
  b : Nat
  deviant : Nat
deriving DecidableEq, Repr, Inhabited

/-- A port of the boundary clock (R407): its state as `PTP_A` codes it, when the last Sync message came, what the last Announce message said, and
since when no Announce message has come. -/
structure PtpPort where
  state : Nat := 0
  lastSync : Option Nat := none
  heard : Option ClockData := none
  heardAt : Nat := 0
deriving DecidableEq, Repr, Inhabited

/-- Section 3, TIM. `devS` and `devNs` are the device time. `baseB` says that the measurement base is `XTAL_B`, `xtalBAt`
when its ready flag set and `xtalBPpt` its offset against `XTAL_A`. Line and sync state are as `DPL_STATUS` codes them; `rampAt` is
when the line channel's ramp to zero began. `history` lists the ends and values of the entries, newest first; `entryAt` is
when the entry in progress began. `phaseHold` says that R399 applies. `pulses` holds the offsets of the last 16 pulse intervals of slot 5,
newest first. `phaseMem`, `syncMem` and `lineMem` are the second states of the loops, `phaseAt` the last phase comparison. `ppsAt` is the last rise
of `PPS_OUT`, `ppsSecond` the device second it belongs to, `setTime` the seconds that a `TIM_SET_TIME` waits to give. -/
structure Tim where
  devS : Nat := 0
  devNs : Nat := 0
  timeValid : Bool := false
  slots : Vector Slot 8 := Vector.replicate 8 {}
  selF : Option (Fin 8) := none
  selP : Option (Fin 8) := none
  baseB : Bool := false
  xtalBAt : Option Nat := none
  xtalBPpt : Int := 0
  disagree : Option Disagree := none
  lineState : Nat := 0
  syncState : Nat := 0
  phaseLocked : Bool := false
  lineFreq : Int := 0
  rampAt : Option Nat := none
  syncFreq : Int := 0
  phaseErr : Int := 0
  history : List (Nat × Int) := []
  entryAt : Option Nat := none
  discardedTenths : Nat := 0
  discards : Nat := 0
  holdover : Bool := false
  holdAt : Nat := 0
  limit : Bool := false
  squelched : Bool := false
  mean : Int := 0
  phaseHold : Bool := false
  ptp : Vector PtpPort 2 := Vector.replicate 2 {}
  ptpOffset : Int := 0
  pulses : List Int := []
  phaseMem : Int := 0
  syncMem : Int := 0
  lineMem : Int := 0
  phaseAt : Option Nat := none
  steps : Nat := 0
  ppsHigh : Bool := false
  ppsAt : Option Nat := none
  ppsSecond : Option Nat := none
  setTime : Option Nat := none
deriving DecidableEq, Repr

end Sys2Proof.Machine
end

