-- ==== Sys2Proof/Machine/State.lean ====
section
/-!
DEFINITION. The state of the device: one part per Section of Table 0.3, what is fused, the device microsecond count,
what has been sent, and the queue of waiting commands.
-/
namespace Sys2Proof.Machine

/-- What is fused in manufacture (R2, R534, R528, R313). -/
structure Fuses where
  encEnabled : Bool := true
  deviceId : Nat := 0
  floor : Nat := 0
  floorRises : Nat := 0
  speedCode : Nat := 0
deriving DecidableEq, Repr

/-- The whole device. `now` is the device microsecond count (R43); `free` counts the free values drawn (the model's own field); `tap` is the
current instruction of the test access port and `boundary` what its boundary register holds (R583 to R585); `out` lists what the device has
sent, oldest first; `pending` is the queue of commands that wait. -/
structure State where
  now : Nat := 0
  free : Nat := 0
  fuses : Fuses := {}
  mgt : Mgt := {}
  pwr : Pwr := {}
  clk : Clk := {}
  tim : Tim := {}
  mem : Mem := {}
  cnv : Cnv := {}
  rxd : Rxd := {}
  txd : Txd := {}
  cod : Cod := {}
  frm : Frm := {}
  sec : Sec := {}
  lod : Lod := {}
  mon : Mon := {}
  hst : Hst := {}
  feh : Feh := {}
  dom : Dom := {}
  tap : Byte := 0x01
  boundary : List Bool := []
  out : List Output := []
  pending : List Instr := []
deriving DecidableEq, Repr

/-- The reasons for which the device stops with a fault. -/
inductive Fault where
  /-- Raised by no command: every command of the table has an effect. Safe. -/
  | unreachable
deriving DecidableEq, Repr

/-- The reasons for which a command is refused. -/
inductive Refusal where
  /-- A command whose meaning is not written yet; `exec` raises it, by mnemonic. Safe: nothing happens. -/
  | notModelled (mnemonic : String)
deriving DecidableEq, Repr

/-- The outcome of a command. -/
abbrev Result := Host.Outcome State Fault Refusal

/-- The device right after a cold reset, every register at its Reset column (R12), nothing waiting (DESIGN CHOICE, log entries 2, 24, 25). -/
def State.reset : State := {}

end Sys2Proof.Machine
end

