-- ==== Sys2Proof/Machine/Operands.lean ====
section
/-!
DEFINITION. Operand forms: target paths and the Units that exist (R6, R16), the seat maps (R34), the Gound request
header (R48, R49, R589), payload fields, and CRC-32C (R51).
-/
namespace Sys2Proof.Machine

/-- How many instances a Unit has; 0 where Table 1.1 has no such Unit (R6, R16). -/
def unitInstances (sec unit : Nat) : Nat :=
  let one := fun (n : Nat) => if unit < n then 1 else 0
  match sec with
  | 0 => one 8
  | 1 => one 3
  | 2 => if unit = 1 then 4 else one 4
  | 3 => one 4
  | 4 => if unit = 2 then 24 else one 3
  | 5 => one 11
  | 6 => one 6
  | 7 => one 5
  | 8 => one 4
  | 9 => one 3
  | 10 => if unit = 0 then 64 else if unit = 1 then 128 else 0
  | 11 => one 3
  | 12 => if unit = 0 then 8 else one 4
  | 13 => one 18
  | 14 => one 4
  | 15 => if unit = 0 then 2 else one 3
  | _ => 0

end Sys2Proof.Machine

namespace Sys2Proof

/-- The path names a Unit and an instance that exist (R6, R16). -/
def Path.isTarget (p : Path) : Bool := decide (p.inst < Machine.unitInstances p.sec p.unit)

/-- The path is of the form that its 32-bit word can carry (R53). -/
def Path.fits (p : Path) : Bool := decide (p.sec < 16) && decide (p.unit < 32) && decide (p.inst < 1024)

end Sys2Proof

namespace Sys2Proof.Machine

/-- The targets of one Unit, in ascending instance. -/
def unitTargets (sec unit : Nat) : List Path := (List.range (unitInstances sec unit)).map fun i => ⟨sec, unit, i⟩

/-- The targets of one Section, in ascending Unit and instance. -/
def sectionTargets (sec : Nat) : List Path := (List.range 18).flatMap fun u => unitTargets sec u

/-- Every target of the device, in ascending Section, Unit and instance. -/
def allTargets : List Path := (List.range 16).flatMap sectionTargets

/-- A Unit of the data plane (Table 1.1). -/
def isDataPlane (sec unit : Nat) : Bool :=
  match sec with
  | 5 | 6 | 7 | 8 | 9 | 10 | 13 => true
  | 11 => unit < 2
  | 14 => unit = 1 || unit = 2
  | 15 => unit = 2
  | _ => false

/-- The interface of a seat: 0 and 1 the PCIe functions, 2 SPI, 3 I2C (Table 2.1, `IFACE` of Table 2.4). -/
def seatIface (mapB : Bool) (i : SeatId) : Nat :=
  if mapB then
    match i with
    | 0 => 2 | 1 => 0 | 2 => 1 | _ => 3
  else i.val

/-- The seat uses PCIe (Table 2.1). -/
def isPcieSeat (mapB : Bool) (i : SeatId) : Bool := decide (seatIface mapB i < 2)

/-- The seat that a PCIe physical function is mapped to (Table 2.1). -/
def seatOfFunction (mapB : Bool) (pf : Fin 2) : SeatId :=
  match mapB, pf with
  | false, 0 => 0
  | false, _ => 1
  | true, 0 => 1
  | true, _ => 2

/-! ### CRC-32C (R51) -/

/-- One bit of the reflected CRC-32C register: polynomial 0x1EDC_6F41 read from the other end. -/
def crcBit (c : BitVec 32) : BitVec 32 := if c.getLsbD 0 then (c >>> 1) ^^^ 0x82F63B78#32 else c >>> 1

/-- One byte of CRC-32C. -/
def crcByte (c : BitVec 32) (b : Byte) : BitVec 32 :=
  (List.range 8).foldl (fun c _ => crcBit c) (c ^^^ b.zeroExtend 32)

/-- CRC-32C of a byte string: initial value and final XOR 0xFFFF_FFFF (R51). -/
def crc32c (bs : List Byte) : Nat := ((bs.foldl crcByte 0xFFFFFFFF#32) ^^^ 0xFFFFFFFF#32).toNat

/-! ### Request header (Table 2.9) -/

/-- The fields of a request header. -/
structure Header where
  opcode : Nat
  cls : Nat
  quiet : Bool
  entries : Nat
  length : Nat
  tag : Nat
  seq : Nat
  target : Path
deriving DecidableEq, Repr

/-- The header that 128 bits spell (Table 2.9); bit 0 is the least significant. -/
def Header.ofNat (h : Nat) : Header :=
  { opcode := bits h 0 16, cls := bits h 16 2, quiet := bits h 18 1 = 1, entries := bits h 24 3, length := bits h 32 16,
    tag := bits h 48 16, seq := bits h 64 32,
    target := { sec := bits h 96 4, unit := bits h 100 5, inst := bits h 105 10 } }

/-- The 128 bits of a request header, every RSV bit zero (R49). -/
def Header.toNat (h : Header) : Nat :=
  fieldAt h.opcode 0 16 + fieldAt h.cls 16 2 + fieldAt (bit h.quiet) 18 1 + fieldAt h.entries 24 3 +
    fieldAt h.length 32 16 + fieldAt h.tag 48 16 + fieldAt h.seq 64 32 + fieldAt h.target.sec 96 4 +
    fieldAt h.target.unit 100 5 + fieldAt h.target.inst 105 10

/-- The RSV bit positions of a request header (Table 2.9). -/
def headerRsvBits : List Nat := [19, 20, 21, 22, 23, 27, 28, 29, 30, 31] ++ (List.range 13).map (· + 115)

/-- The lowest-numbered RSV bit that is set, if one is (check 3 of R589). -/
def firstRsvBit (h : Nat) : Option Nat := headerRsvBits.find? fun b => bits h b 1 = 1

/-- The ring entries that hold 20 + `len` bytes (R48). -/
def entriesFor (len : Nat) : Nat := (20 + len + 127) / 128

/-- The three command classes by code; 3 is invalid (Table 2.9). -/
def classOfCode : Nat → Option CmdClass
  | 0 => some .urgent
  | 1 => some .normal
  | 2 => some .bulk
  | _ => none

/-! ### Payload fields (R9) -/

/-- A payload byte; a byte beyond the end reads as zero. -/
def byteAt (p : List Byte) (i : Nat) : Nat := (p.getD i 0).toNat

/-- A 16-bit payload field. -/
def u16At (p : List Byte) (i : Nat) : Nat := leNat ((p.drop i).take 2)

/-- A 32-bit payload field. -/
def u32At (p : List Byte) (i : Nat) : Nat := leNat ((p.drop i).take 4)

/-- A 64-bit payload field. -/
def u64At (p : List Byte) (i : Nat) : Nat := leNat ((p.drop i).take 8)

/-- Cut a payload into records of `n` bytes; a short rest is dropped. -/
def records (n : Nat) (p : List Byte) : List (List Byte) := (List.range (p.length / n)).map fun i => (p.drop (i * n)).take n

/-- How a list of paths is judged as a whole (R61). -/
inductive PathList where
  /-- Well formed, or empty where an empty list is allowed: the words in order. -/
  | ok (words : List Nat)
  /-- Malformed: the whole request is refused with `BAD_VALUE` and this `DETAIL`. -/
  | bad (detail : Nat)
deriving DecidableEq, Repr

/-- Judge the list of paths of a payload (R61): the length, then the number of paths, then bits [31:19]. -/
def readPaths (p : List Byte) (emptyAllowed : Bool) : PathList :=
  if p.length % 4 ≠ 0 ∨ (p = [] ∧ emptyAllowed = false) then .bad 0xFFFFFF
  else if 64 < p.length / 4 then .bad 64
  else
    let ws := (records 4 p).map leNat
    match ws.findIdx? (fun w => decide (2 ^ 19 ≤ w)) with
    | some i => .bad i
    | none => .ok ws

/-- One parameter record (R60): number, element index and the 64-bit value as it stands. -/
structure ParamRecord where
  num : Nat
  elem : Nat
  raw : Nat
deriving DecidableEq, Repr

/-- The record that 12 payload bytes spell. -/
def ParamRecord.ofBytes (b : List Byte) : ParamRecord := { num := u16At b 0, elem := u16At b 2, raw := u64At b 4 }

/-- The 12 bytes of a record, the value in two's complement (R60). -/
def recordBytes (num elem : Nat) (v : Int) : List Byte := leBytes 2 num ++ leBytes 2 elem ++ leBytes 8 (natOfInt 64 v)

/-- The key of a parameter element in the running configuration and in the slates: path, number, element. -/
def paramKey (p : Path) (num elem : Nat) : Nat := (p.key * 256 + num) * 65536 + elem

/-- The path of a parameter key. -/
def keyPath (k : Nat) : Path := Path.ofKey (k / 16777216)

/-- The parameter number of a key. -/
def keyNum (k : Nat) : Nat := k / 65536 % 256

/-- The element index of a key. -/
def keyElem (k : Nat) : Nat := k % 65536

end Sys2Proof.Machine
end

