-- ==== Sys2Proof/Machine/ParamTable.lean ====
section
/-!
DEFINITION. The Gound parameters: one row per parameter of the spec's parameter tables (Tables 2.16, 3.8, 4.9,
5.9, 6.6, 7.10, 8.8, 9.9, 10.8, 11.11, 12.7, 13.7, 14.9, 15.3, 16.12 and 17.11), in the order of the tables, which
gives each its parameter number (R60). A row holds the parameter's own range, its default and its commit column.
-/
namespace Sys2Proof.Machine

/-- The Commit column of a parameter table: a category (R13), with the Hit time in microseconds where the column
gives one, or a rule of the owning chapter. -/
inductive CommitCol where
  | hitless
  | hit (us : Nat)
  | restart
  | byRule
deriving DecidableEq, Repr

/-- One row of a parameter table. `unit` is the first Unit that has the parameter and `span` the number of Units in a
row that have it (4 for `ADCn`, 16 for `LNnn`). `signed` says how the 64-bit record value is read (R60). A value is
in range if it equals `extra`, or lies from `lo` to `hi` on the grid `lo + k * step`, is not in
`except`, and has every bit of `zeroMask` zero. -/
structure ParamRow where
  sec : Nat
  unit : Nat
  span : Nat := 1
  num : Nat
  name : String
  signed : Bool := false
  count : Nat := 1
  lo : Int := 0
  hi : Int
  step : Nat := 1
  extra : Option Int := none
  except : List Int := []
  zeroMask : Nat := 0
  dflt : Int := 0
  cat : CommitCol := .hitless
  pairs : List Nat := []
deriving DecidableEq, Repr

namespace Param

def mpcWatchdogMs : ParamRow :=
  { sec := 0, unit := 5, num := 0, name := "MGT.MPC.watchdog_ms", lo := 20, hi := 1000, dflt := 50 }
def mbxDomainTimeoutMs : ParamRow :=
  { sec := 0, unit := 4, num := 0, name := "MGT.MBX.domain_timeout_ms", lo := 10, hi := 200, dflt := 20 }
def regAvsEnable : ParamRow :=
  { sec := 1, unit := 0, num := 0, name := "PWR.REG.avs_enable", hi := 1, dflt := 1 }
def pstGroupClients : ParamRow :=
  { sec := 1, unit := 1, num := 0, name := "PWR.PST.group_clients", count := 3, hi := 18446744073709551615 }
def pstIdleState : ParamRow :=
  { sec := 1, unit := 1, num := 1, name := "PWR.PST.idle_state", count := 4, hi := 4 }
def pstDeepenHoldMs : ParamRow :=
  { sec := 1, unit := 1, num := 2, name := "PWR.PST.deepen_hold_ms", hi := 60000, dflt := 100 }
def thmWarnC : ParamRow :=
  { sec := 1, unit := 2, num := 0, name := "PWR.THM.warn_c", lo := 80, hi := 110, dflt := 105 }
def oscXtalBEnable : ParamRow :=
  { sec := 2, unit := 0, num := 0, name := "CLK.OSC.xtal_b_enable", hi := 1, dflt := 1 }
def cmMgmtFallback : ParamRow :=
  { sec := 2, unit := 3, num := 0, name := "CLK.CMN.mgmt_fallback", hi := 1, dflt := 1 }
def rslPriority : ParamRow :=
  { sec := 3, unit := 0, num := 0, name := "TIM.RSL.priority", count := 8, hi := 15 }
def rslHostLane : ParamRow :=
  { sec := 3, unit := 0, num := 1, name := "TIM.RSL.host_lane", count := 2, hi := 15 } -- default: 0, 1
def rslRefinHz : ParamRow :=
  { sec := 3, unit := 0, num := 2, name := "TIM.RSL.refin_hz", count := 2, lo := 8000, hi := 750000000, dflt := 10000000 }
def rslSoftLimitPpb : ParamRow :=
  { sec := 3, unit := 0, num := 3, name := "TIM.RSL.soft_limit_ppb", lo := 100, hi := 100000, dflt := 4600 }
def rslSoakS : ParamRow :=
  { sec := 3, unit := 0, num := 4, name := "TIM.RSL.soak_s", lo := 1, hi := 600, dflt := 10 }
def rslRevertive : ParamRow :=
  { sec := 3, unit := 0, num := 5, name := "TIM.RSL.revertive", hi := 1 }
def rslWtrS : ParamRow :=
  { sec := 3, unit := 0, num := 6, name := "TIM.RSL.wtr_s", hi := 720, dflt := 300 }
def rslHoldoffMs : ParamRow :=
  { sec := 3, unit := 0, num := 7, name := "TIM.RSL.holdoff_ms", hi := 10000, dflt := 300 }
def rslSelectMode : ParamRow :=
  { sec := 3, unit := 0, num := 8, name := "TIM.RSL.select_mode", hi := 3 }
def rslForcedSlot : ParamRow :=
  { sec := 3, unit := 0, num := 9, name := "TIM.RSL.forced_slot", hi := 7 }
def rslXtalBUse : ParamRow :=
  { sec := 3, unit := 0, num := 10, name := "TIM.RSL.xtal_b_use", hi := 1, dflt := 1 }
def rslXtalBHz : ParamRow :=
  { sec := 3, unit := 0, num := 11, name := "TIM.RSL.xtal_b_hz", lo := 10000000, hi := 50000000, dflt := 10000000 }
def rslXtalBWarmupS : ParamRow :=
  { sec := 3, unit := 0, num := 12, name := "TIM.RSL.xtal_b_warmup_s", hi := 3600, dflt := 300 }
def dplLineFollow : ParamRow :=
  { sec := 3, unit := 1, num := 0, name := "TIM.DPL.line_follow", hi := 1, dflt := 1 }
def dplLineBw : ParamRow :=
  { sec := 3, unit := 1, num := 1, name := "TIM.DPL.line_bw", hi := 8, dflt := 6 }
def dplSyncBw : ParamRow :=
  { sec := 3, unit := 1, num := 2, name := "TIM.DPL.sync_bw", hi := 8, dflt := 3 }
def hldAvgS : ParamRow :=
  { sec := 3, unit := 2, num := 0, name := "TIM.HLD.avg_s", lo := 1, hi := 1024, dflt := 256 }
def hldGuardS : ParamRow :=
  { sec := 3, unit := 2, num := 1, name := "TIM.HLD.guard_s", hi := 60, dflt := 4 }
def hldInitPpb : ParamRow :=
  { sec := 3, unit := 2, num := 2, name := "TIM.HLD.init_ppb", hi := 10000, dflt := 1 }
def hldDriftPpbDay : ParamRow :=
  { sec := 3, unit := 2, num := 3, name := "TIM.HLD.drift_ppb_day", lo := 1, hi := 100000, dflt := 100 }
def hldFreqLimitPpb : ParamRow :=
  { sec := 3, unit := 2, num := 4, name := "TIM.HLD.freq_limit_ppb", lo := 1, hi := 100000, dflt := 50 }
def hldPhaseLimitNs : ParamRow :=
  { sec := 3, unit := 2, num := 5, name := "TIM.HLD.phase_limit_ns", lo := 10, hi := 1000000000, dflt := 1100 }
def hldMaxS : ParamRow :=
  { sec := 3, unit := 2, num := 6, name := "TIM.HLD.max_s", lo := 1, hi := 31536000, extra := some 0, dflt := 86400 }
def hldExpiryAction : ParamRow :=
  { sec := 3, unit := 2, num := 7, name := "TIM.HLD.expiry_action", hi := 1 }
def ppsPpsEnable : ParamRow :=
  { sec := 3, unit := 3, num := 0, name := "TIM.PPS.pps_enable", hi := 1, dflt := 1 }
def ppsPpsOffset250ps : ParamRow :=
  { sec := 3, unit := 3, num := 1, name := "TIM.PPS.pps_offset_250ps", signed := true, lo := -2000000000, hi := 2000000000 }
def ppsPpsWidthUs : ParamRow :=
  { sec := 3, unit := 3, num := 2, name := "TIM.PPS.pps_width_us", lo := 1, hi := 500000, dflt := 100 }
def ppsClkoutEnable : ParamRow :=
  { sec := 3, unit := 3, num := 3, name := "TIM.PPS.clkout_enable", count := 2, hi := 1 }
def ppsClkoutHz : ParamRow :=
  { sec := 3, unit := 3, num := 4, name := "TIM.PPS.clkout_hz", count := 2, lo := 1, hi := 750000000, dflt := 10000000 }
def ppsClkoutMode : ParamRow :=
  { sec := 3, unit := 3, num := 5, name := "TIM.PPS.clkout_mode", count := 2, hi := 1 }
def ppsStepLimitNs : ParamRow :=
  { sec := 3, unit := 3, num := 6, name := "TIM.PPS.step_limit_ns", lo := 100, hi := 1000000000, dflt := 100000 }
def ppsPtpEnable : ParamRow :=
  { sec := 3, unit := 3, num := 7, name := "TIM.PPS.ptp_enable", count := 2, hi := 1 }
def ppsPtpDomain : ParamRow :=
  { sec := 3, unit := 3, num := 8, name := "TIM.PPS.ptp_domain", lo := 24, hi := 43, dflt := 24 }
def ppsPtpLocalPriority : ParamRow :=
  { sec := 3, unit := 3, num := 9, name := "TIM.PPS.ptp_local_priority", count := 2, lo := 1, hi := 255, dflt := 128 }
def ppsPtpPriority2 : ParamRow :=
  { sec := 3, unit := 3, num := 10, name := "TIM.PPS.ptp_priority2", hi := 255, dflt := 128 }
def ppsPtpClockClass : ParamRow :=
  { sec := 3, unit := 3, num := 11, name := "TIM.PPS.ptp_clock_class", lo := 6, hi := 255, dflt := 6 }
def ppsPtpAddress : ParamRow :=
  { sec := 3, unit := 3, num := 12, name := "TIM.PPS.ptp_address", hi := 1 }
def blkScrubIntervalS : ParamRow :=
  { sec := 4, unit := 0, num := 0, name := "MEM.BLK.scrub_interval_s", lo := 1, hi := 3600, dflt := 60 }
def eccCeWarnPerS : ParamRow :=
  { sec := 4, unit := 1, num := 0, name := "MEM.ECC.ce_warn_per_s", lo := 1, hi := 1000000, dflt := 100 }
def spqRegionKib : ParamRow :=
  { sec := 4, unit := 2, num := 0, name := "MEM.SPQ.region_kib", hi := 4, dflt := 2, cat := .hit 20 }
def spqRegionOffsetKib : ParamRow :=
  { sec := 4, unit := 2, num := 1, name := "MEM.SPQ.region_offset_kib", hi := 6080, step := 64, cat := .hit 20 } -- default: 256 × q
def spqHighWaterPct : ParamRow :=
  { sec := 4, unit := 2, num := 2, name := "MEM.SPQ.high_water_pct", lo := 50, hi := 100, dflt := 90 }
def adcInputPolarity : ParamRow :=
  { sec := 5, unit := 0, num := 0, name := "CNV.ADCn.input_polarity", span := 4, hi := 1, cat := .restart }
def dacOutputPolarity : ParamRow :=
  { sec := 5, unit := 4, num := 0, name := "CNV.DACn.output_polarity", span := 4, hi := 1, cat := .restart }
def dacSwingMvppd : ParamRow :=
  { sec := 5, unit := 4, num := 1, name := "CNV.DACn.swing_mvppd", span := 4, lo := 300, hi := 500, step := 10, dflt := 500 }
def obsEnable : ParamRow :=
  { sec := 5, unit := 8, num := 0, name := "CNV.OBS.enable", hi := 1, dflt := 1 }
def calBackgroundEnable : ParamRow :=
  { sec := 5, unit := 9, num := 0, name := "CNV.CAL.background_enable", hi := 1, dflt := 1 }
def calRotationIntervalMs : ParamRow :=
  { sec := 5, unit := 9, num := 1, name := "CNV.CAL.rotation_interval_ms", lo := 1, hi := 1000, dflt := 50 }
def calTempThresholdCX10 : ParamRow :=
  { sec := 5, unit := 9, num := 2, name := "CNV.CAL.temp_threshold_c_x10", lo := 5, hi := 100, dflt := 20 }
def calSliceTimeoutUs : ParamRow :=
  { sec := 5, unit := 9, num := 3, name := "CNV.CAL.slice_timeout_us", lo := 200, hi := 5000, dflt := 1000 }
def calForcedStepEnable : ParamRow :=
  { sec := 5, unit := 9, num := 4, name := "CNV.CAL.forced_step_enable", hi := 1, dflt := 1 }
def agcMode : ParamRow :=
  { sec := 5, unit := 10, num := 0, name := "CNV.AGC.mode", hi := 2 }
def agcLink : ParamRow :=
  { sec := 5, unit := 10, num := 1, name := "CNV.AGC.link", hi := 2, dflt := 1 }
def agcTargetDbfsX2 : ParamRow :=
  { sec := 5, unit := 10, num := 2, name := "CNV.AGC.target_dbfs_x2", signed := true, lo := -40, hi := -16, dflt := -28 }
def agcHysteresisDbX2 : ParamRow :=
  { sec := 5, unit := 10, num := 3, name := "CNV.AGC.hysteresis_db_x2", lo := 2, hi := 12, dflt := 4 }
def agcDwellUs : ParamRow :=
  { sec := 5, unit := 10, num := 4, name := "CNV.AGC.dwell_us", lo := 20, hi := 10000, dflt := 100 }
def agcManualGainDbX2 : ParamRow :=
  { sec := 5, unit := 10, num := 5, name := "CNV.AGC.manual_gain_db_x2", count := 4, hi := 24, dflt := 12 }
def agcChainBase : ParamRow :=
  { sec := 5, unit := 10, num := 6, name := "CNV.AGC.chain_base", hi := 4 }
def cdeCdMode : ParamRow :=
  { sec := 6, unit := 0, num := 0, name := "RXD.CDE.cd_mode", hi := 2, dflt := 2, cat := .byRule }
def cdeDispersionPsNm : ParamRow :=
  { sec := 6, unit := 0, num := 1, name := "RXD.CDE.dispersion_ps_nm", signed := true, lo := -640000, hi := 640000, cat := .byRule }
def cdeSeedWaitMs : ParamRow :=
  { sec := 6, unit := 0, num := 2, name := "RXD.CDE.seed_wait_ms", lo := 1, hi := 1000, dflt := 100 }
def cdeTrackEnable : ParamRow :=
  { sec := 6, unit := 0, num := 3, name := "RXD.CDE.track_enable", hi := 1, dflt := 1 }
def cdeTrackLimitPsNm : ParamRow :=
  { sec := 6, unit := 0, num := 4, name := "RXD.CDE.track_limit_ps_nm", lo := 50, hi := 2000, dflt := 500 }
def cdeSkew50fs : ParamRow :=
  { sec := 6, unit := 0, num := 5, name := "RXD.CDE.skew_50fs", signed := true, count := 4, lo := -1000, hi := 1000, cat := .restart }
def cdeIqCorrect : ParamRow :=
  { sec := 6, unit := 0, num := 6, name := "RXD.CDE.iq_correct", hi := 1, dflt := 1 }
def cdeLosThresholdDbfsX2 : ParamRow :=
  { sec := 6, unit := 0, num := 7, name := "RXD.CDE.los_threshold_dbfs_x2", signed := true, lo := -80, hi := -20, dflt := -50 }
def cdeLosHoldUs : ParamRow :=
  { sec := 6, unit := 0, num := 8, name := "RXD.CDE.los_hold_us", hi := 10000, dflt := 100 }
def cdeWarmTimeoutMs : ParamRow :=
  { sec := 6, unit := 0, num := 9, name := "RXD.CDE.warm_timeout_ms", lo := 2, hi := 100, dflt := 5 }
def pmxTaps : ParamRow :=
  { sec := 6, unit := 1, num := 0, name := "RXD.PMX.taps", lo := 15, hi := 63, step := 8, dflt := 31, cat := .byRule }
def pmxIqMimo : ParamRow :=
  { sec := 6, unit := 1, num := 1, name := "RXD.PMX.iq_mimo", hi := 1, cat := .byRule }
def pmxMuCmaLog2 : ParamRow :=
  { sec := 6, unit := 1, num := 2, name := "RXD.PMX.mu_cma_log2", signed := true, lo := -16, hi := -4, dflt := -10 }
def pmxMuRdeLog2 : ParamRow :=
  { sec := 6, unit := 1, num := 3, name := "RXD.PMX.mu_rde_log2", signed := true, lo := -16, hi := -4, dflt := -11 }
def pmxMuDaLog2 : ParamRow :=
  { sec := 6, unit := 1, num := 4, name := "RXD.PMX.mu_da_log2", signed := true, lo := -16, hi := -4, dflt := -12 }
def pmxDaEnable : ParamRow :=
  { sec := 6, unit := 1, num := 5, name := "RXD.PMX.da_enable", hi := 1, dflt := 1 }
def pmxDaUnreliablePpm : ParamRow :=
  { sec := 6, unit := 1, num := 6, name := "RXD.PMX.da_unreliable_ppm", lo := 100, hi := 100000, dflt := 5000 }
def pmxDaFallbackGroups : ParamRow :=
  { sec := 6, unit := 1, num := 7, name := "RXD.PMX.da_fallback_groups", lo := 1, hi := 64, dflt := 8 }
def pmxDaReturnGroups : ParamRow :=
  { sec := 6, unit := 1, num := 8, name := "RXD.PMX.da_return_groups", lo := 16, hi := 4096, dflt := 256 }
def nleEnable : ParamRow :=
  { sec := 6, unit := 2, num := 0, name := "RXD.NLE.enable", hi := 1 }
def nleTriplets : ParamRow :=
  { sec := 6, unit := 2, num := 1, name := "RXD.NLE.triplets", lo := 16, hi := 256, dflt := 128 }
def nleIndexSpan : ParamRow :=
  { sec := 6, unit := 2, num := 2, name := "RXD.NLE.index_span", lo := 8, hi := 64, dflt := 32 }
def nleMuLog2 : ParamRow :=
  { sec := 6, unit := 2, num := 3, name := "RXD.NLE.mu_log2", signed := true, lo := -20, hi := -8, dflt := -14 }
def nleAdapt : ParamRow :=
  { sec := 6, unit := 2, num := 4, name := "RXD.NLE.adapt", hi := 1, dflt := 1 }
def trcSymbolRateGbdX8 : ParamRow :=
  { sec := 6, unit := 3, num := 0, name := "RXD.TRC.symbol_rate_gbd_x8", lo := 224, hi := 2400, dflt := 2400, cat := .restart, pairs := [2] }
def trcLoopBw : ParamRow :=
  { sec := 6, unit := 3, num := 1, name := "RXD.TRC.loop_bw", hi := 2, dflt := 1 }
def cprPhaseWindow : ParamRow :=
  { sec := 6, unit := 4, num := 0, name := "RXD.CPR.phase_window", lo := 1, hi := 16, dflt := 4 }
def cprFoMode : ParamRow :=
  { sec := 6, unit := 4, num := 1, name := "RXD.CPR.fo_mode", hi := 1, cat := .restart }
def cprLosfHeaders : ParamRow :=
  { sec := 6, unit := 4, num := 2, name := "RXD.CPR.losf_headers", lo := 2, hi := 8, dflt := 3 }
def dmpConstellation : ParamRow :=
  { sec := 6, unit := 5, num := 0, name := "RXD.DMP.constellation", hi := 3, dflt := 3, cat := .restart, pairs := [2] }
def dmpVarianceMode : ParamRow :=
  { sec := 6, unit := 5, num := 1, name := "RXD.DMP.variance_mode", hi := 1 }
def dmpVarianceWindowLog2 : ParamRow :=
  { sec := 6, unit := 5, num := 2, name := "RXD.DMP.variance_window_log2", lo := 10, hi := 20, dflt := 16 }
def shpConstellation : ParamRow :=
  { sec := 7, unit := 0, num := 0, name := "TXD.SHP.constellation", hi := 3, dflt := 3, cat := .restart, pairs := [1] }
def shpEntropyX64 : ParamRow :=
  { sec := 7, unit := 0, num := 1, name := "TXD.SHP.entropy_x64", lo := 96, hi := 448, extra := some 0, cat := .byRule, pairs := [1] }
def shpPartnerRatePolicy : ParamRow :=
  { sec := 7, unit := 0, num := 2, name := "TXD.SHP.partner_rate_policy", hi := 1 }
def shpNegotiateTimeoutMs : ParamRow :=
  { sec := 7, unit := 0, num := 3, name := "TXD.SHP.negotiate_timeout_ms", lo := 10, hi := 1000, dflt := 200 }
def shpRateHoldMs : ParamRow :=
  { sec := 7, unit := 0, num := 4, name := "TXD.SHP.rate_hold_ms", lo := 100, hi := 10000, dflt := 1000 }
def pltPilotSpacing : ParamRow :=
  { sec := 7, unit := 1, num := 0, name := "TXD.PLT.pilot_spacing", hi := 3, dflt := 1, cat := .byRule, pairs := [1] }
def pltAnnounceSuperframes : ParamRow :=
  { sec := 7, unit := 1, num := 1, name := "TXD.PLT.announce_superframes", lo := 64, hi := 65535, dflt := 1024 }
def psfSymbolRateGbdX8 : ParamRow :=
  { sec := 7, unit := 2, num := 0, name := "TXD.PSF.symbol_rate_gbd_x8", lo := 224, hi := 2400, dflt := 2400, cat := .restart, pairs := [1] }
def psfRolloffX100 : ParamRow :=
  { sec := 7, unit := 2, num := 1, name := "TXD.PSF.rolloff_x100", lo := 1, hi := 20, dflt := 5, cat := .byRule }
def psfPreemphTaps : ParamRow :=
  { sec := 7, unit := 2, num := 2, name := "TXD.PSF.preemph_taps", signed := true, count := 132, lo := -32768, hi := 32767, cat := .byRule } -- default: 16,384 at each tap 16, else 0
def dpdEnable : ParamRow :=
  { sec := 7, unit := 3, num := 0, name := "TXD.DPD.enable", hi := 1 }
def dpdOrder : ParamRow :=
  { sec := 7, unit := 3, num := 1, name := "TXD.DPD.order", hi := 1, dflt := 1 }
def dpdMemory : ParamRow :=
  { sec := 7, unit := 3, num := 2, name := "TXD.DPD.memory", hi := 7, dflt := 3 }
def skwSkew50fs : ParamRow :=
  { sec := 7, unit := 4, num := 0, name := "TXD.SKW.skew_50fs", signed := true, count := 4, lo := -500, hi := 500, cat := .byRule }
def beFec : ParamRow :=
  { sec := 8, unit := 0, num := 0, name := "COD.BEN.fec", hi := 5, dflt := 1, cat := .restart, pairs := [1] }
def bdeFec : ParamRow :=
  { sec := 8, unit := 1, num := 0, name := "COD.BDE.fec", hi := 5, dflt := 1, cat := .restart, pairs := [2] }
def bdeIterCap : ParamRow :=
  { sec := 8, unit := 1, num := 1, name := "COD.BDE.iter_cap", lo := 2, hi := 24, dflt := 24 }
def bdeEarlyStop : ParamRow :=
  { sec := 8, unit := 1, num := 2, name := "COD.BDE.early_stop", hi := 1, dflt := 1 }
def bdeSyncPpm : ParamRow :=
  { sec := 8, unit := 1, num := 3, name := "COD.BDE.sync_ppm", lo := 50000, hi := 400000, dflt := 250000 }
def bdeFailBerPpb : ParamRow :=
  { sec := 8, unit := 1, num := 4, name := "COD.BDE.fail_ber_ppb", lo := 1000, hi := 100000000, extra := some 0 }
def bdeFailClearWindows : ParamRow :=
  { sec := 8, unit := 1, num := 5, name := "COD.BDE.fail_clear_windows", lo := 1, hi := 4096, dflt := 64 }
def bdeSdBerPpb : ParamRow :=
  { sec := 8, unit := 1, num := 6, name := "COD.BDE.sd_ber_ppb", lo := 1000, hi := 100000000, extra := some 0 }
def bdeCapWarnPermille : ParamRow :=
  { sec := 8, unit := 1, num := 7, name := "COD.BDE.cap_warn_permille", lo := 1, hi := 1000, dflt := 50 }
def lfrOtucN : ParamRow :=
  { sec := 9, unit := 0, num := 0, name := "FRM.LFR.otuc_n", lo := 2, hi := 32, dflt := 32, cat := .restart, pairs := [1] }
def lfrRxOtucN : ParamRow :=
  { sec := 9, unit := 0, num := 1, name := "FRM.LFR.rx_otuc_n", lo := 2, hi := 32, dflt := 32, cat := .restart, pairs := [2] }
def lfrCapacity25g : ParamRow :=
  { sec := 9, unit := 0, num := 2, name := "FRM.LFR.capacity_25g", lo := 8, hi := 128, dflt := 128, cat := .byRule, pairs := [1] }
def lfrTtiTx : ParamRow :=
  { sec := 9, unit := 0, num := 3, name := "FRM.LFR.tti_tx", count := 64, hi := 255 }
def lfrTtiExpected : ParamRow :=
  { sec := 9, unit := 0, num := 4, name := "FRM.LFR.tti_expected", count := 64, hi := 255 }
def lfrTtiMode : ParamRow :=
  { sec := 9, unit := 0, num := 5, name := "FRM.LFR.tti_mode", hi := 2 }
def lfrTimAction : ParamRow :=
  { sec := 9, unit := 0, num := 6, name := "FRM.LFR.tim_action", hi := 1 }
def lfrBipSdCount : ParamRow :=
  { sec := 9, unit := 0, num := 7, name := "FRM.LFR.bip_sd_count", lo := 1, hi := 1000000000, dflt := 1000 }
def lfrGccEnable : ParamRow :=
  { sec := 9, unit := 0, num := 8, name := "FRM.LFR.gcc_enable", hi := 7 }
def mapClientType : ParamRow :=
  { sec := 9, unit := 1, num := 0, name := "FRM.MAP.client_type", count := 64, hi := 9, cat := .byRule, pairs := [3, 4] }
def mapFirstUnit : ParamRow :=
  { sec := 9, unit := 1, num := 1, name := "FRM.MAP.first_unit", count := 64, hi := 127, cat := .byRule, pairs := [3, 4] }
def mapUnits : ParamRow :=
  { sec := 9, unit := 1, num := 2, name := "FRM.MAP.units", count := 64, lo := 1, hi := 128, dflt := 4, cat := .byRule, pairs := [3] }
def mapHostPort : ParamRow :=
  { sec := 9, unit := 1, num := 3, name := "FRM.MAP.host_port", count := 64, hi := 63, cat := .byRule, pairs := [3] }
def mapRestoreHoldMs : ParamRow :=
  { sec := 9, unit := 1, num := 4, name := "FRM.MAP.restore_hold_ms", hi := 10000, dflt := 100 }
def latClass : ParamRow :=
  { sec := 9, unit := 2, num := 0, name := "FRM.LAT.class", count := 64, hi := 2, dflt := 1, cat := .byRule, pairs := [3] }
def cipClient : ParamRow :=
  { sec := 10, unit := 0, num := 0, name := "SEC.CIP.client", hi := 63, extra := some 255, dflt := 255, cat := .hit 2000, pairs := [4] }
def cipMode : ParamRow :=
  { sec := 10, unit := 0, num := 1, name := "SEC.CIP.mode", hi := 1, cat := .hit 2000 }
def cipSegmentFrames : ParamRow :=
  { sec := 10, unit := 0, num := 2, name := "SEC.CIP.segment_frames", lo := 4, hi := 1024, dflt := 16 }
def cipAadMask : ParamRow :=
  { sec := 10, unit := 0, num := 3, name := "SEC.CIP.aad_mask", hi := 18446744073709551615, zeroMask := 0x3F00300000000000, dflt := 4611697013543665664, cat := .hit 2000 }
def cipAuthPolicy : ParamRow :=
  { sec := 10, unit := 0, num := 4, name := "SEC.CIP.auth_policy", hi := 2 }
def cipAuthFailCount : ParamRow :=
  { sec := 10, unit := 0, num := 5, name := "SEC.CIP.auth_fail_count", lo := 1, hi := 1000, dflt := 3 }
def cipAuthPassCount : ParamRow :=
  { sec := 10, unit := 0, num := 6, name := "SEC.CIP.auth_pass_count", lo := 1, hi := 1000, dflt := 3 }
def cipRole : ParamRow :=
  { sec := 10, unit := 0, num := 7, name := "SEC.CIP.role", hi := 1, cat := .restart }
def cipDummyPermille : ParamRow :=
  { sec := 10, unit := 0, num := 8, name := "SEC.CIP.dummy_permille", hi := 250, dflt := 125 }
def cipShuffle : ParamRow :=
  { sec := 10, unit := 0, num := 9, name := "SEC.CIP.shuffle", hi := 1, dflt := 1 }
def lgMode : ParamRow :=
  { sec := 11, unit := 0, num := 0, name := "LOD.LGN.mode", hi := 3 }
def lgSf : ParamRow :=
  { sec := 11, unit := 0, num := 1, name := "LOD.LGN.sf", lo := 12, hi := 18, dflt := 14 }
def lgLevelDb : ParamRow :=
  { sec := 11, unit := 0, num := 2, name := "LOD.LGN.level_db", signed := true, lo := -36, hi := -24, dflt := -30 }
def lgLinkGroup : ParamRow :=
  { sec := 11, unit := 0, num := 3, name := "LOD.LGN.link_group", hi := 255 }
def ldtSf : ParamRow :=
  { sec := 11, unit := 1, num := 0, name := "LOD.LDT.sf", lo := 12, hi := 18, dflt := 14 }
def ldtLinkGroup : ParamRow :=
  { sec := 11, unit := 1, num := 1, name := "LOD.LDT.link_group", hi := 255 }
def ldtDetectThresholdDbX2 : ParamRow :=
  { sec := 11, unit := 1, num := 2, name := "LOD.LDT.detect_threshold_db_x2", lo := 12, hi := 48, dflt := 24 }
def ldtCancelEnable : ParamRow :=
  { sec := 11, unit := 1, num := 3, name := "LOD.LDT.cancel_enable", hi := 1, dflt := 1 }
def lmsSlotSuperframes : ParamRow :=
  { sec := 11, unit := 2, num := 0, name := "LOD.LMS.slot_superframes", hi := 4, dflt := 2 }
def lmsIdentityIntervalMs : ParamRow :=
  { sec := 11, unit := 2, num := 1, name := "LOD.LMS.identity_interval_ms", lo := 1, hi := 1000, dflt := 10 }
def lmsPartnerTimeoutMs : ParamRow :=
  { sec := 11, unit := 2, num := 2, name := "LOD.LMS.partner_timeout_ms", lo := 10, hi := 10000, dflt := 50 }
def lmsExpectedId : ParamRow :=
  { sec := 11, unit := 2, num := 3, name := "LOD.LMS.expected_id", hi := 18446744073709551615 }
def lmsLocalLabel : ParamRow :=
  { sec := 11, unit := 2, num := 4, name := "LOD.LMS.local_label", count := 16, hi := 255 }
def dchEnable : ParamRow :=
  { sec := 12, unit := 0, num := 0, name := "MON.DCH.enable", hi := 1, dflt := 1 }
def dchTap : ParamRow :=
  { sec := 12, unit := 0, num := 1, name := "MON.DCH.tap", hi := 15 } -- default: c for chains 0–3; c + 4 for chains 4–7
def dchSampleIndex : ParamRow :=
  { sec := 12, unit := 0, num := 2, name := "MON.DCH.sample_index", hi := 255 }
def dchInputMode : ParamRow :=
  { sec := 12, unit := 0, num := 3, name := "MON.DCH.input_mode", hi := 1 } -- default: 1 for chains 0–3; 0 for 4–7
def dchPreset : ParamRow :=
  { sec := 12, unit := 0, num := 4, name := "MON.DCH.preset", hi := 3, dflt := 2 } -- default: 1 for chains 0–3; 2 for 4–7
def dchStream : ParamRow :=
  { sec := 12, unit := 0, num := 5, name := "MON.DCH.stream", hi := 1 }
def pmcSnrTrDbX10 : ParamRow :=
  { sec := 12, unit := 2, num := 0, name := "MON.PMC.snr_tr_db_x10", lo := 100, hi := 400, dflt := 230 }
def pmcDayOffsetQh : ParamRow :=
  { sec := 12, unit := 2, num := 1, name := "MON.PMC.day_offset_qh", hi := 95 }
def capRegionKib : ParamRow :=
  { sec := 12, unit := 3, num := 0, name := "MON.CAP.region_kib", lo := 1024, hi := 16384, step := 1024, dflt := 4096 }
def capSource : ParamRow :=
  { sec := 12, unit := 3, num := 1, name := "MON.CAP.source", hi := 12 }
def capTrigger : ParamRow :=
  { sec := 12, unit := 3, num := 2, name := "MON.CAP.trigger", hi := 3 }
def capTriggerChain : ParamRow :=
  { sec := 12, unit := 3, num := 3, name := "MON.CAP.trigger_chain", hi := 7 }
def capTriggerEvent : ParamRow :=
  { sec := 12, unit := 3, num := 4, name := "MON.CAP.trigger_event", hi := 255 }
def capPretriggerPct : ParamRow :=
  { sec := 12, unit := 3, num := 5, name := "MON.CAP.pretrigger_pct", hi := 100, dflt := 10 }
def capHistLog2Cycles : ParamRow :=
  { sec := 12, unit := 3, num := 6, name := "MON.CAP.hist_log2_cycles", lo := 10, hi := 36, dflt := 24 }
def lnRate : ParamRow :=
  { sec := 13, unit := 0, num := 0, name := "HST.LNnn.rate", span := 16, hi := 4, dflt := 3, cat := .restart }
def lnDiscovery : ParamRow :=
  { sec := 13, unit := 0, num := 1, name := "HST.LNnn.discovery", span := 16, hi := 1, dflt := 1 }
def lnAbsentMs : ParamRow :=
  { sec := 13, unit := 0, num := 2, name := "HST.LNnn.absent_ms", span := 16, lo := 1, hi := 10000, dflt := 100 }
def lnTraining : ParamRow :=
  { sec := 13, unit := 0, num := 3, name := "HST.LNnn.training", span := 16, hi := 1, dflt := 1, cat := .restart }
def lnTxFfeMode : ParamRow :=
  { sec := 13, unit := 0, num := 4, name := "HST.LNnn.tx_ffe_mode", span := 16, hi := 1, cat := .restart }
def lnTxFfe : ParamRow :=
  { sec := 13, unit := 0, num := 5, name := "HST.LNnn.tx_ffe", span := 16, signed := true, count := 6, lo := -64, hi := 64, cat := .hit 100 } -- default: 64 at element 3, else 0
def lnTxInvert : ParamRow :=
  { sec := 13, unit := 0, num := 6, name := "HST.LNnn.tx_invert", span := 16, hi := 1, cat := .restart }
def lnRxPolarity : ParamRow :=
  { sec := 13, unit := 0, num := 7, name := "HST.LNnn.rx_polarity", span := 16, hi := 2, cat := .restart }
def lnRxEqFreeze : ParamRow :=
  { sec := 13, unit := 0, num := 8, name := "HST.LNnn.rx_eq_freeze", span := 16, hi := 1 }
def lnTimingTransparent : ParamRow :=
  { sec := 13, unit := 0, num := 9, name := "HST.LNnn.timing_transparent", span := 16, hi := 1, dflt := 1 }
def lnSscAccept : ParamRow :=
  { sec := 13, unit := 0, num := 10, name := "HST.LNnn.ssc_accept", span := 16, hi := 1 }
def pcsPortType : ParamRow :=
  { sec := 13, unit := 16, num := 0, name := "HST.PCS.port_type", count := 16, hi := 13, cat := .restart, pairs := [3] }
def pcsTlmLanes : ParamRow :=
  { sec := 13, unit := 16, num := 1, name := "HST.PCS.tlm_lanes", count := 16, lo := 1, hi := 16, dflt := 1, cat := .restart, pairs := [3] }
def pcsRxLaneOrder : ParamRow :=
  { sec := 13, unit := 16, num := 2, name := "HST.PCS.rx_lane_order", hi := 2, cat := .restart }
def pcsTxLaneOrder : ParamRow :=
  { sec := 13, unit := 16, num := 3, name := "HST.PCS.tx_lane_order", hi := 2, cat := .restart }
def pcsFlexeGroup : ParamRow :=
  { sec := 13, unit := 16, num := 4, name := "HST.PCS.flexe_group", count := 16, hi := 4, cat := .restart, pairs := [3] }
def pcsFecSdUncorr : ParamRow :=
  { sec := 13, unit := 16, num := 5, name := "HST.PCS.fec_sd_uncorr", lo := 1, hi := 1000000000, dflt := 10 }
def fxeGroupNumber : ParamRow :=
  { sec := 13, unit := 17, num := 0, name := "HST.FXE.group_number", count := 4, lo := 1, hi := 1048574, cat := .restart } -- default: g
def fxePhyNumber : ParamRow :=
  { sec := 13, unit := 17, num := 1, name := "HST.FXE.phy_number", count := 16, lo := 1, hi := 254, cat := .restart } -- default: p + 1
def fxeClientGroup : ParamRow :=
  { sec := 13, unit := 17, num := 2, name := "HST.FXE.client_group", count := 32, hi := 4, pairs := [3] }
def fxeClientId : ParamRow :=
  { sec := 13, unit := 17, num := 3, name := "HST.FXE.client_id", count := 32, lo := 1, hi := 65534, cat := .hit 2000 } -- default: k + 1
def fxeCalendar : ParamRow :=
  { sec := 13, unit := 17, num := 4, name := "HST.FXE.calendar", count := 1280, hi := 31, extra := some 255, dflt := 255, pairs := [3] }
def hkaRef : ParamRow :=
  { sec := 14, unit := 0, num := 0, name := "FEH.HKA.ref", count := 2, hi := 2 }
def hkaAlign : ParamRow :=
  { sec := 14, unit := 0, num := 1, name := "FEH.HKA.align", count := 2, hi := 1 }
def hkaSeqInput : ParamRow :=
  { sec := 14, unit := 0, num := 2, name := "FEH.HKA.seq_input", count := 64, hi := 35 }
def hkaSeqTrigger : ParamRow :=
  { sec := 14, unit := 0, num := 3, name := "FEH.HKA.seq_trigger", count := 2, hi := 3 }
def hkaSeqCompMask : ParamRow :=
  { sec := 14, unit := 0, num := 4, name := "FEH.HKA.seq_comp_mask", count := 2, hi := 255 }
def hkaTimerUs : ParamRow :=
  { sec := 14, unit := 0, num := 5, name := "FEH.HKA.timer_us", count := 2, lo := 1, hi := 10000000, dflt := 1000 }
def hkaBurstPasses : ParamRow :=
  { sec := 14, unit := 0, num := 6, name := "FEH.HKA.burst_passes", count := 2, lo := 1, hi := 65535, dflt := 1 }
def hkaSimultaneous : ParamRow :=
  { sec := 14, unit := 0, num := 7, name := "FEH.HKA.simultaneous", hi := 1 }
def hkaUrgLength : ParamRow :=
  { sec := 14, unit := 0, num := 8, name := "FEH.HKA.urg_length", count := 2, hi := 8 }
def hkaUrgInput : ParamRow :=
  { sec := 14, unit := 0, num := 9, name := "FEH.HKA.urg_input", count := 16, hi := 35 }
def hkaUrgCompMask : ParamRow :=
  { sec := 14, unit := 0, num := 10, name := "FEH.HKA.urg_comp_mask", count := 2, hi := 255 }
def hkaUrgFlint : ParamRow :=
  { sec := 14, unit := 0, num := 11, name := "FEH.HKA.urg_flint", count := 2, hi := 1 }
def hkaCompInput : ParamRow :=
  { sec := 14, unit := 0, num := 12, name := "FEH.HKA.comp_input", count := 8, hi := 23 } -- default: n
def hkaCompLower : ParamRow :=
  { sec := 14, unit := 0, num := 13, name := "FEH.HKA.comp_lower", count := 8, hi := 255 }
def hkaCompUpper : ParamRow :=
  { sec := 14, unit := 0, num := 14, name := "FEH.HKA.comp_upper", count := 8, hi := 255, dflt := 255 }
def hkaCompMode : ParamRow :=
  { sec := 14, unit := 0, num := 15, name := "FEH.HKA.comp_mode", count := 8, hi := 3 }
def hkaDmaKib : ParamRow :=
  { sec := 14, unit := 0, num := 16, name := "FEH.HKA.dma_kib", count := 2, lo := 4, hi := 1024, step := 4, dflt := 64 }
def hkaDmaMode : ParamRow :=
  { sec := 14, unit := 0, num := 17, name := "FEH.HKA.dma_mode", count := 2, hi := 1 }
def hkdCode : ParamRow :=
  { sec := 14, unit := 1, num := 0, name := "FEH.HKD.code", count := 12, hi := 65535 }
def hkdLimitLow : ParamRow :=
  { sec := 14, unit := 1, num := 1, name := "FEH.HKD.limit_low", count := 12, hi := 65535 }
def hkdLimitHigh : ParamRow :=
  { sec := 14, unit := 1, num := 2, name := "FEH.HKD.limit_high", count := 12, hi := 65535, dflt := 65535 }
def hkdSlewCodesPerUs : ParamRow :=
  { sec := 14, unit := 1, num := 3, name := "FEH.HKD.slew_codes_per_us", lo := 1, hi := 65535, dflt := 64 }
def abcEnable : ParamRow :=
  { sec := 14, unit := 2, num := 0, name := "FEH.ABC.enable", hi := 63 }
def abcSlope : ParamRow :=
  { sec := 14, unit := 2, num := 1, name := "FEH.ABC.slope", hi := 63 }
def abcMonitorInput : ParamRow :=
  { sec := 14, unit := 2, num := 2, name := "FEH.ABC.monitor_input", hi := 23 }
def abcConverter : ParamRow :=
  { sec := 14, unit := 2, num := 3, name := "FEH.ABC.converter", hi := 1, dflt := 1 }
def abcDitherHz : ParamRow :=
  { sec := 14, unit := 2, num := 4, name := "FEH.ABC.dither_hz", lo := 1000, hi := 10000, dflt := 2000 }
def abcDitherCodes : ParamRow :=
  { sec := 14, unit := 2, num := 5, name := "FEH.ABC.dither_codes", lo := 1, hi := 2048, dflt := 64 }
def abcDwellPeriods : ParamRow :=
  { sec := 14, unit := 2, num := 6, name := "FEH.ABC.dwell_periods", lo := 16, hi := 4096, dflt := 64 }
def abcGainLog2 : ParamRow :=
  { sec := 14, unit := 2, num := 7, name := "FEH.ABC.gain_log2", signed := true, lo := -16, hi := 0, dflt := -6 }
def abcMaxStepCodes : ParamRow :=
  { sec := 14, unit := 2, num := 8, name := "FEH.ABC.max_step_codes", lo := 1, hi := 1024, dflt := 16 }
def abcLockThreshold : ParamRow :=
  { sec := 14, unit := 2, num := 9, name := "FEH.ABC.lock_threshold", lo := 1, hi := 4096, dflt := 32 }
def itlEnable : ParamRow :=
  { sec := 14, unit := 3, num := 0, name := "FEH.ITL.enable", hi := 1 }
def itlBaud : ParamRow :=
  { sec := 14, unit := 3, num := 1, name := "FEH.ITL.baud", hi := 4 }
def itlRspTimeoutMs : ParamRow :=
  { sec := 14, unit := 3, num := 2, name := "FEH.ITL.rsp_timeout_ms", lo := 10, hi := 1000, dflt := 100 }
def itlFtfSource : ParamRow :=
  { sec := 14, unit := 3, num := 3, name := "FEH.ITL.ftf_source", hi := 2 }
def itlFtfPeriodMs : ParamRow :=
  { sec := 14, unit := 3, num := 4, name := "FEH.ITL.ftf_period_ms", lo := 10, hi := 10000, dflt := 1000 }
def itlFtfGainPct : ParamRow :=
  { sec := 14, unit := 3, num := 5, name := "FEH.ITL.ftf_gain_pct", lo := 1, hi := 100, dflt := 50 }
def itlFtfDeadbandMhz : ParamRow :=
  { sec := 14, unit := 3, num := 6, name := "FEH.ITL.ftf_deadband_mhz", hi := 1000, dflt := 20 }
def itlFtfMaxStepMhz : ParamRow :=
  { sec := 14, unit := 3, num := 7, name := "FEH.ITL.ftf_max_step_mhz", lo := 1, hi := 1000, dflt := 100 }
def itlFtfLimitMhz : ParamRow :=
  { sec := 14, unit := 3, num := 8, name := "FEH.ITL.ftf_limit_mhz", lo := 1, hi := 12000, dflt := 6000 }
def itlFtfSign : ParamRow :=
  { sec := 14, unit := 3, num := 9, name := "FEH.ITL.ftf_sign", hi := 1 }
def tvlEnable : ParamRow :=
  { sec := 15, unit := 0, num := 0, name := "DOM.TVL.enable", hi := 1, dflt := 1 }
def tvlRelay : ParamRow :=
  { sec := 15, unit := 0, num := 1, name := "DOM.TVL.relay", hi := 1, dflt := 1 }
def dauMember : ParamRow :=
  { sec := 15, unit := 1, num := 0, name := "DOM.DAU.member", hi := 1 }
def dauDomainId : ParamRow :=
  { sec := 15, unit := 1, num := 1, name := "DOM.DAU.domain_id", hi := 1023 }
def dauDomainTag : ParamRow :=
  { sec := 15, unit := 1, num := 2, name := "DOM.DAU.domain_tag", hi := 65535 }
def dauEthertype : ParamRow :=
  { sec := 15, unit := 1, num := 3, name := "DOM.DAU.ethertype", lo := 1536, hi := 65535, except := [35063], dflt := 34997 }
def dauBedrock : ParamRow :=
  { sec := 15, unit := 1, num := 4, name := "DOM.DAU.bedrock", count := 7, hi := 1023, extra := some 65535, dflt := 65535 }
def dauRosterTimeoutS : ParamRow :=
  { sec := 15, unit := 1, num := 5, name := "DOM.DAU.roster_timeout_s", lo := 1, hi := 3600, dflt := 60 }
def dauPolicySeat : ParamRow :=
  { sec := 15, unit := 1, num := 6, name := "DOM.DAU.policy_seat", hi := 4, dflt := 4 }
def dauPolicySections : ParamRow :=
  { sec := 15, unit := 1, num := 7, name := "DOM.DAU.policy_sections", hi := 65535 }
def fltPairEnable : ParamRow :=
  { sec := 15, unit := 2, num := 0, name := "DOM.FLT.pair_enable", hi := 1 }
def fltPairRole : ParamRow :=
  { sec := 15, unit := 2, num := 1, name := "DOM.FLT.pair_role", hi := 1 }
def fltPairId : ParamRow :=
  { sec := 15, unit := 2, num := 2, name := "DOM.FLT.pair_id", hi := 15 }
def fltClientMask : ParamRow :=
  { sec := 15, unit := 2, num := 3, name := "DOM.FLT.client_mask", hi := 18446744073709551615 }
def fltRevertive : ParamRow :=
  { sec := 15, unit := 2, num := 4, name := "DOM.FLT.revertive", hi := 1 }
def fltWtrS : ParamRow :=
  { sec := 15, unit := 2, num := 5, name := "DOM.FLT.wtr_s", hi := 720, dflt := 300 }
def fltSdSwitch : ParamRow :=
  { sec := 15, unit := 2, num := 6, name := "DOM.FLT.sd_switch", hi := 1, dflt := 1 }
def fltActiveGpio : ParamRow :=
  { sec := 15, unit := 2, num := 7, name := "DOM.FLT.active_gpio", hi := 15, extra := some 255, dflt := 255 }
def fltNpGroup : ParamRow :=
  { sec := 15, unit := 2, num := 8, name := "DOM.FLT.np_group", hi := 255 }
def fltNpMember : ParamRow :=
  { sec := 15, unit := 2, num := 9, name := "DOM.FLT.np_member", hi := 15 }
def fltNpEnd : ParamRow :=
  { sec := 15, unit := 2, num := 10, name := "DOM.FLT.np_end", hi := 1 }
def fltNpRevertive : ParamRow :=
  { sec := 15, unit := 2, num := 11, name := "DOM.FLT.np_revertive", hi := 1, dflt := 1 }
def fltNpWtrS : ParamRow :=
  { sec := 15, unit := 2, num := 12, name := "DOM.FLT.np_wtr_s", hi := 720, dflt := 300 }

end Param

open Param in
/-- Every parameter, Section by Section in the order of the spec's tables. -/
def paramTable : List ParamRow :=
  [mpcWatchdogMs, mbxDomainTimeoutMs] ++
  [regAvsEnable, pstGroupClients, pstIdleState, pstDeepenHoldMs, thmWarnC] ++
  [oscXtalBEnable, cmMgmtFallback] ++
  [rslPriority, rslHostLane, rslRefinHz, rslSoftLimitPpb, rslSoakS, rslRevertive, rslWtrS, rslHoldoffMs] ++
  [rslSelectMode, rslForcedSlot, rslXtalBUse, rslXtalBHz, rslXtalBWarmupS, dplLineFollow, dplLineBw, dplSyncBw] ++
  [hldAvgS, hldGuardS, hldInitPpb, hldDriftPpbDay, hldFreqLimitPpb, hldPhaseLimitNs, hldMaxS, hldExpiryAction] ++
  [ppsPpsEnable, ppsPpsOffset250ps, ppsPpsWidthUs, ppsClkoutEnable, ppsClkoutHz, ppsClkoutMode, ppsStepLimitNs, ppsPtpEnable] ++
  [ppsPtpDomain, ppsPtpLocalPriority, ppsPtpPriority2, ppsPtpClockClass, ppsPtpAddress] ++
  [blkScrubIntervalS, eccCeWarnPerS, spqRegionKib, spqRegionOffsetKib, spqHighWaterPct] ++
  [adcInputPolarity, dacOutputPolarity, dacSwingMvppd, obsEnable, calBackgroundEnable, calRotationIntervalMs, calTempThresholdCX10, calSliceTimeoutUs] ++
  [calForcedStepEnable, agcMode, agcLink, agcTargetDbfsX2, agcHysteresisDbX2, agcDwellUs, agcManualGainDbX2, agcChainBase] ++
  [cdeCdMode, cdeDispersionPsNm, cdeSeedWaitMs, cdeTrackEnable, cdeTrackLimitPsNm, cdeSkew50fs, cdeIqCorrect, cdeLosThresholdDbfsX2] ++
  [cdeLosHoldUs, cdeWarmTimeoutMs, pmxTaps, pmxIqMimo, pmxMuCmaLog2, pmxMuRdeLog2, pmxMuDaLog2, pmxDaEnable] ++
  [pmxDaUnreliablePpm, pmxDaFallbackGroups, pmxDaReturnGroups, nleEnable, nleTriplets, nleIndexSpan, nleMuLog2, nleAdapt] ++
  [trcSymbolRateGbdX8, trcLoopBw, cprPhaseWindow, cprFoMode, cprLosfHeaders, dmpConstellation, dmpVarianceMode, dmpVarianceWindowLog2] ++
  [shpConstellation, shpEntropyX64, shpPartnerRatePolicy, shpNegotiateTimeoutMs, shpRateHoldMs, pltPilotSpacing, pltAnnounceSuperframes, psfSymbolRateGbdX8] ++
  [psfRolloffX100, psfPreemphTaps, dpdEnable, dpdOrder, dpdMemory, skwSkew50fs] ++
  [beFec, bdeFec, bdeIterCap, bdeEarlyStop, bdeSyncPpm, bdeFailBerPpb, bdeFailClearWindows, bdeSdBerPpb] ++
  [bdeCapWarnPermille] ++
  [lfrOtucN, lfrRxOtucN, lfrCapacity25g, lfrTtiTx, lfrTtiExpected, lfrTtiMode, lfrTimAction, lfrBipSdCount] ++
  [lfrGccEnable, mapClientType, mapFirstUnit, mapUnits, mapHostPort, mapRestoreHoldMs, latClass] ++
  [cipClient, cipMode, cipSegmentFrames, cipAadMask, cipAuthPolicy, cipAuthFailCount, cipAuthPassCount, cipRole] ++
  [cipDummyPermille, cipShuffle] ++
  [lgMode, lgSf, lgLevelDb, lgLinkGroup, ldtSf, ldtLinkGroup, ldtDetectThresholdDbX2, ldtCancelEnable] ++
  [lmsSlotSuperframes, lmsIdentityIntervalMs, lmsPartnerTimeoutMs, lmsExpectedId, lmsLocalLabel] ++
  [dchEnable, dchTap, dchSampleIndex, dchInputMode, dchPreset, dchStream, pmcSnrTrDbX10, pmcDayOffsetQh] ++
  [capRegionKib, capSource, capTrigger, capTriggerChain, capTriggerEvent, capPretriggerPct, capHistLog2Cycles] ++
  [lnRate, lnDiscovery, lnAbsentMs, lnTraining, lnTxFfeMode, lnTxFfe, lnTxInvert, lnRxPolarity] ++
  [lnRxEqFreeze, lnTimingTransparent, lnSscAccept, pcsPortType, pcsTlmLanes, pcsRxLaneOrder, pcsTxLaneOrder, pcsFlexeGroup] ++
  [pcsFecSdUncorr, fxeGroupNumber, fxePhyNumber, fxeClientGroup, fxeClientId, fxeCalendar] ++
  [hkaRef, hkaAlign, hkaSeqInput, hkaSeqTrigger, hkaSeqCompMask, hkaTimerUs, hkaBurstPasses, hkaSimultaneous] ++
  [hkaUrgLength, hkaUrgInput, hkaUrgCompMask, hkaUrgFlint, hkaCompInput, hkaCompLower, hkaCompUpper, hkaCompMode] ++
  [hkaDmaKib, hkaDmaMode, hkdCode, hkdLimitLow, hkdLimitHigh, hkdSlewCodesPerUs, abcEnable, abcSlope] ++
  [abcMonitorInput, abcConverter, abcDitherHz, abcDitherCodes, abcDwellPeriods, abcGainLog2, abcMaxStepCodes, abcLockThreshold] ++
  [itlEnable, itlBaud, itlRspTimeoutMs, itlFtfSource, itlFtfPeriodMs, itlFtfGainPct, itlFtfDeadbandMhz, itlFtfMaxStepMhz] ++
  [itlFtfLimitMhz, itlFtfSign] ++
  [tvlEnable, tvlRelay, dauMember, dauDomainId, dauDomainTag, dauEthertype, dauBedrock, dauRosterTimeoutS] ++
  [dauPolicySeat, dauPolicySections, fltPairEnable, fltPairRole, fltPairId, fltClientMask, fltRevertive, fltWtrS] ++
  [fltSdSwitch, fltActiveGpio, fltNpGroup, fltNpMember, fltNpEnd, fltNpRevertive, fltNpWtrS]

/-- The value is in the parameter's own range: its type and the fixed limits of its Range column (R60). -/
def ParamRow.inRange (p : ParamRow) (v : Int) : Bool :=
  p.extra == some v ||
    (decide (p.lo ≤ v) && decide (v ≤ p.hi) && decide ((v - p.lo) % (p.step : Int) = 0) && !p.except.contains v &&
      decide (v.toNat &&& p.zeroMask = 0))

/-- The row that describes parameter `num` of a Unit, if there is one (R60). -/
def findParam (sec unit num : Nat) : Option ParamRow :=
  paramTable.find? fun p => p.sec == sec && p.num == num && decide (p.unit ≤ unit) && decide (unit < p.unit + p.span)

/-- The default of one element: the Default column, with the columns that depend on the instance or the element
(`TIM.RSL.host_lane`, `MEM.SPQ.region_offset_kib`, `TXD.PSF.preemph_taps`, `MON.DCH` by chain, `HST.LNnn.tx_ffe`, the
FlexE numbers, `FEH.HKA.comp_input`) spelt out. `TXD.PSF.preemph_taps` holds 33 taps a channel, so tap 16 of channel
`c` is element `33 c + 16` (R181). -/
def ParamRow.defaultOf (p : ParamRow) (inst elem : Nat) : Int :=
  match p.sec, p.unit, p.num with
  | 3, 0, 1 => elem
  | 4, 2, 1 => 256 * inst
  | 7, 2, 2 => if elem % 33 = 16 then 16384 else 0
  | 12, 0, 1 => if inst < 4 then inst else inst + 4
  | 12, 0, 3 => if inst < 4 then 1 else 0
  | 12, 0, 4 => if inst < 4 then 1 else 2
  | 13, 0, 5 => if elem = 3 then 64 else 0
  | 13, 17, 0 => elem + 1
  | 13, 17, 1 => elem + 1
  | 13, 17, 3 => elem + 1
  | 14, 0, 12 => elem
  | _, _, _ => p.dflt

end Sys2Proof.Machine
end

