-- ==== Sys2Proof/Machine/Ops.lean ====
section
/-!
DEFINITION. The named operations that the meanings share: seats and their rings, events, ownership, configuration,
responses, and memory with its error correction.
-/
namespace Sys2Proof.Machine

/-! ### Seats -/

/-- The seat map in use: `STRAP3` (R34). -/
def State.mapB (s : State) : Bool := s.mgt.seq.straps.getLsbD 3

/-- A seat's part of the state. -/
def State.seat (s : State) (i : SeatId) : Seat := s.mgt.seats[i]

/-- Change a seat's part of the state. -/
def State.onSeat (s : State) (i : SeatId) (f : Seat → Seat) : State :=
  { s with mgt.seats := vmod s.mgt.seats i f }

/-- The boundary register controls every ball that has a cell (R585). -/
def State.boundaryHeld (s : State) : Bool := tapHolds s.tap

/-- What of an output reaches the outside: nothing of one whose balls the boundary register controls (R585). -/
def State.reaching (s : State) (o : Output) : List Output := if s.boundaryHeld && o.throughCells then [] else [o]

/-- Send something to the outside (DESIGN CHOICE, log entry 94). -/
def State.send (s : State) (o : Output) : State := { s with out := s.out ++ s.reaching o }

/-- Microseconds in a second. -/
abbrev usPerS : Nat := 1000000

/-! ### Configuration (R60, R66) -/

/-- The running value of one element: what the map lists, or the default. -/
def runValue (m : NMap Int) (p : ParamRow) (path : Path) (elem : Nat) : Int :=
  (nmGet m (paramKey path p.num elem)).getD (p.defaultOf path.inst elem)

/-- The running value of a parameter: the Unit is the row's first unless given, instance and element 0 unless given. -/
def State.cfg (s : State) (p : ParamRow) (inst : Nat := 0) (elem : Nat := 0) (unit : Nat := p.unit) : Int :=
  runValue s.mgt.running p ⟨p.sec, unit, inst⟩ elem

/-- The running value as a natural number. -/
def State.cfgN (s : State) (p : ParamRow) (inst : Nat := 0) (elem : Nat := 0) (unit : Nat := p.unit) : Nat :=
  (s.cfg p inst elem unit).toNat

/-- The running value as a truth value. -/
def State.cfgB (s : State) (p : ParamRow) (inst : Nat := 0) (elem : Nat := 0) (unit : Nat := p.unit) : Bool :=
  decide (s.cfg p inst elem unit ≠ 0)

/-- The value in force in one direction: a parameter that acts in both directions may have taken effect in one of
them only (R22). -/
def State.cfgDir (s : State) (d : Dir) (p : ParamRow) (inst : Nat := 0) (elem : Nat := 0) (unit : Nat := p.unit) : Int :=
  let early := match d with
    | .tx => s.mgt.earlyTx
    | .rx => s.mgt.earlyRx
  match nmGet early (paramKey ⟨p.sec, unit, inst⟩ p.num elem) with
  | some v => v
  | none => s.cfg p inst elem unit

/-- The default of a parameter key. -/
def keyDefault (k : Nat) : Int :=
  let p := keyPath k
  match findParam p.sec p.unit (keyNum k) with
  | some row => row.defaultOf p.inst (keyElem k)
  | none => 0

/-- Write one value into a configuration map; a value equal to the default is not listed. -/
def setValue (m : NMap Int) (k : Nat) (v : Int) : NMap Int := nmSet (keyDefault k) m k v

/-- Return the parameters of a target to their defaults (R77, "Unit to defaults"). -/
def defaultsOf (p : Path) (s : State) : State :=
  let keep := fun (m : NMap Int) => m.filter fun e => decide (keyPath e.1 ≠ p)
  { s with mgt.running := keep s.mgt.running, mgt.earlyTx := keep s.mgt.earlyTx, mgt.earlyRx := keep s.mgt.earlyRx }

/-! ### Capture triggers (R344) -/

/-- The bytes that one write of the capture engine adds (Table 10.6). -/
def captureUnit (source : Nat) : Nat := if 4 ≤ source ∧ source ≤ 11 then 4 else if source = 12 then 8192 else 1024

/-- The size of the capture region in bytes. -/
def State.captureBytes (s : State) : Nat := s.cfgN Param.capRegionKib * 1024

/-- The bytes that `CAP` writes after the trigger: (100 - `pretrigger_pct`) % of the region in whole writes; the rule does
not say how a part of a write is rounded (DESIGN CHOICE, log entry 13). For the histograms it is the core cycles that they count. -/
def State.captureTail (s : State) : Nat :=
  let source := s.cfgN Param.capSource
  let unit := captureUnit source
  let exact := s.captureBytes * (100 - s.cfgN Param.capPretriggerPct)
  if source = 12 then 2 ^ s.cfgN Param.capHistLog2Cycles
  else exact / (100 * unit) * unit + if exact % (100 * unit) ≠ 0 ∧ Config.captureRoundsUp exact then unit else 0

/-- A trigger of kind `src` starts the part after the trigger of an armed capture (R344). -/
def fireCapture (src : Nat) (s : State) : State :=
  if s.mon.cap.state = 1 ∧ s.cfgN Param.capTrigger = src then
    { s with mon.cap.state := 2, mon.cap.trigSrc := src, mon.cap.trigPos := s.mon.cap.pos, mon.cap.left := s.captureTail,
             mon.cap.hist := [] }
  else s

/-! ### Events (R553 to R559) -/

/-- The seat receives ring entries and messages: it is attached, absent or quarantined included (R556, R557). -/
def Seat.delivers (q : Seat) : Bool := q.attached

/-- Write an entry into an event ring, or count its loss if the ring is full (R556). -/
def EventBlock.push (b : EventBlock) (e : EventEntry) : EventBlock :=
  if (b.tail - b.head).toNat < 256 then
    { b with ring := b.ring.set (b.tail.toNat % 256) e (Nat.mod_lt _ (by decide)), tail := b.tail + 1 }
  else { b with overflow := true, lost := satInc 16 b.lost }

/-- Bit `n` of a 256-bit event register. -/
def eventBit (m : BitVec 256) (n : Nat) : Bool := m.getLsbD n

/-- The register with bit `n` set. -/
def setEventBit (m : BitVec 256) (n : Nat) : BitVec 256 := m ||| BitVec.ofNat 256 (2 ^ n)

/-- Set the sticky bit of a raised event; its bit is RSV, and stays 0, if the event does not exist (R551, R553). -/
def EventBlock.setSticky (b : EventBlock) (n : Nat) : EventBlock :=
  if (findEvent n).isSome then { b with sticky := setEventBit b.sticky n } else b

/-- Deliver a raise to one seat: sticky bit always; the ring entry if the raise has passed the limit, the ring mask
bit is set and the seat counts as attached (R553, R556, R559) (DEDUCED, log entry 93). -/
def Seat.deliver (q : Seat) (n : Nat) (passed : Bool) (e : EventEntry) : Seat :=
  let b := q.events.setSticky n
  { q with events := if passed && q.delivers && eventBit q.events.ringMask n then b.push e else b }

/-- Whether a raise sends the message of vector `n / 16` to a seat (R557). -/
def Seat.msixWanted (q : Seat) (pcie : Bool) (n : Nat) (passed : Bool) : Bool :=
  passed && pcie && q.delivers && eventBit q.events.msixMask n

/-- Offer a message on a vector: covered by a message on it within 1 µs, pending if the vector is masked, and sent
otherwise (R557, PCIe 4.0) (PRESUMED, log entry 26). -/
def offerMsix (i : SeatId) (v : Nat) (s : State) : State :=
  match h : decide (v < 64) with
  | false => s
  | true =>
    let vf : Fin 64 := ⟨v, of_decide_eq_true h⟩
    let q := s.seat i
    let e := q.msix[vf]
    if e.masked then s.onSeat i fun q => { q with msixPending := q.msixPending ||| BitVec.ofNat 64 (2 ^ v) }
    else if e.lastSent.any fun t => decide (s.now ≤ t + 1) then s
    else (s.onSeat i fun q => { q with msix := vmod q.msix vf fun e => { e with lastSent := some s.now } }).send
      (.msix i v)

/-- The rate limit's judgement of a raise (R559): whether it passes, the suppressed raises it reports, and the table
after it. The last passed raise lies within the last second if less than 1,000,000 µs have gone by (DEDUCED, log entry 93). -/
def judgeLimit (now n member : Nat) (l : RateLimit) (t : List LimitEntry) : Bool × Nat × List LimitEntry :=
  let key := match l with
    | .perMember => member
    | _ => 0
  match l with
  | .off => (true, 0, t)
  | _ =>
    match t.find? fun e => e.event == n && e.member == key with
    | none => (true, 0, { event := n, member := key, passedAt := now } :: t)
    | some e =>
      let rest := t.filter fun e => !(e.event == n && e.member == key)
      if now < e.passedAt + usPerS ∧ e.reopened = false then (false, 0, { e with suppressed := satInc 32 e.suppressed } :: rest)
      else (true, e.suppressed, { event := n, member := key, passedAt := now } :: rest)

/-- Raise event `n` of Unit `unit`, with the instance or the member named by its qualifier (R553 to R559) (DEDUCED, log entry 93). -/
def raiseAt (n unit inst : Nat) (s : State) : State :=
  let row := findEvent n
  let j := judgeLimit s.now n inst ((row.map EventRow.limit).getD .off) s.mgt.limits
  let passed := j.1
  let e : EventEntry := { event := n, severity := severityOf n, sec := n / 16, unit := unit, inst := inst,
                          coalesced := j.2.1, timeS := s.tim.devS, timeNs := s.tim.devNs }
  let wanted := (indices 4).filter fun i => (s.seat i).msixWanted (isPcieSeat s.mapB i) n passed
  let s1 := { s with mgt.seats := vmap s.mgt.seats fun q => q.deliver n passed e, mgt.limits := j.2.2 }
  let s2 := overAll wanted (fun i s => offerMsix i (n / 16) s) s1
  if s2.cfgN Param.capTriggerEvent = n then fireCapture 3 s2 else s2

/-- Raise event `n` of its table Unit, instance 0. -/
def raise (n : Nat) (s : State) : State := raiseAt n (((findEvent n).map EventRow.unit).getD 0) 0 s

/-- Raise event `n` of its table Unit, with an instance or member. -/
def raiseFor (n inst : Nat) (s : State) : State := raiseAt n (((findEvent n).map EventRow.unit).getD 0) inst s

/-! ### Ownership (R62, R64) -/

/-- The owner of a target at cold reset: `SEAT0` owns every target except `MGT.SEAT1` to `SEAT3` (R62). -/
def ownerAtReset (p : Path) : Option SeatId :=
  if h : p.sec = 0 ∧ p.unit < 4 then some ⟨p.unit, h.2⟩ else some 0

/-- The owner of a target. A `MGT.SEATn` belongs to its seat for good (R62). -/
def State.ownerOf (s : State) (p : Path) : Option SeatId :=
  if p.sec = 0 ∧ p.unit < 4 then ownerAtReset p
  else (nmGet s.mgt.owners p.key).getD (some 0)

/-- The seat owns the target. -/
def State.owns (s : State) (i : SeatId) (p : Path) : Bool := decide (s.ownerOf p = some i)

/-- Clear one target's records from a seat's slates (R64). -/
def Seat.clearSlate (q : Seat) (p : Path) : Seat :=
  { q with
    slate := q.slate.filter fun e => decide (keyPath e.1 ≠ p)
    nleSlate := if p = ⟨6, 2, 0⟩ then [] else q.nleSlate
    dpdSlate := if p = ⟨7, 3, 0⟩ then [] else q.dpdSlate }

/-- Give a target an owner, or none. If the owner changes, the previous owner's slate for it is cleared and `EV008`
is raised (R64). -/
def setOwner (p : Path) (o : Option SeatId) (s : State) : State :=
  if s.ownerOf p = o then s
  else
    let s := { s with mgt.owners := nmSet (some 0) s.mgt.owners p.key o }
    let s := { s with mgt.seats := vmap s.mgt.seats fun q => q.clearSlate p }
    raise 8 s

/-! ### Violations and quarantine (R43, R75, R76) -/

/-- The violations of the last second (Table 2.8 `WINDOW`, at most 16). -/
def Seat.window (q : Seat) (now : Nat) : Nat := min 16 (q.violTimes.filter fun t => decide (now < t + usPerS)).length

/-- Log and count a violation, raise `EV005`, and quarantine the seat when the window reaches 16 (R43, R75, R76). -/
def violation (i : SeatId) (kind index : Nat) (s : State) : State :=
  let s := s.onSeat i fun q =>
    { q with
      violTotal := satInc 16 q.violTotal
      violTimes := s.now :: (q.violTimes.filter fun t => decide (s.now < t + usPerS)).take 15
      violLog := q.violLog.set (q.violNext % 16) ⟨kind, index, s.now % 2 ^ 32⟩ (Nat.mod_lt _ (by decide))
      violNext := (q.violNext + 1) % 16 }
  let s := raise 5 s
  if 16 ≤ (s.seat i).window s.now ∧ (s.seat i).quarantined = false then
    raise 3 (s.onSeat i fun q => { q with quarantined := true })
  else s

/-- Refuse a register write or doorbell: `WRITE_REFUSED` sets (Table 2.5). -/
def refuseWrite (i : SeatId) (s : State) : State := s.onSeat i fun q => { q with writeRefused := true }

/-- The Unit of a path is marked reset required (R425): the mark is the Unit's, whatever the instance. -/
def State.resetRequired (s : State) (p : Path) : Bool := s.clk.resetRequired.contains ⟨p.sec, p.unit, 0⟩

/-- A write to the direct registers of a Unit (R40): a quarantined seat's write is discarded (R76), a write to a Unit
marked reset required is discarded (R425), a write by a seat that does not own the target is a violation of type 6, and
any other is carried out. With MGMT stopped the window is not served (R422) (DEDUCED, log entry 40). -/
def unitWrite (i : SeatId) (p : Path) (s : State) (act : State → State) : State :=
  if (s.seat i).quarantined ∨ s.clk.mgmtStopped then s
  else if s.owns i p = false then refuseWrite i (violation i 6 0 s)
  else if s.resetRequired p then s
  else act s

/-- The value that a register read returns to a seat (DESIGN CHOICE, log entry 29). -/
def readReturns (i : SeatId) (v : Nat) (s : State) : State := s.onSeat i fun q => { q with readData := v }

/-- The gate of the block that an instance lies in is closed, or asked to close (R424): that of the instance in a reset, or that of the Unit, which
goes by instance 0. A Unit marked reset required holds nothing: it answers at once (R425). -/
def State.gateClosed (s : State) (p : Path) : Bool :=
  let closing := s.clk.gated ++ s.clk.gateWait
  let unit : Path := ⟨p.sec, p.unit, 0⟩
  !s.resetRequired p && (closing.contains p || (closing.contains unit && !s.mgt.resetting.flatten.contains unit))

/-- Carry out an access of a seat to a block, or hold it until the block's gate opens (R424); a write of a quarantined seat, which changes nothing
(R76), is not held (DEDUCED, log entry 112). -/
def whenOpen (seat : SeatId) (p : Path) (write : Bool) (command : Instr) (s : State) (act : Result) : Result :=
  if s.clk.mgmtStopped = false ∧ s.gateClosed p = true ∧ (write && (s.seat seat).quarantined) = false then
    .next { s with clk.held := s.clk.held ++ [⟨command, seat, p, write⟩] }
  else act

/-! ### Responses (R48 to R51, R54, R58, R74) -/

/-- The bytes of a response: header, payload, CRC, and zeros to the end of its last entry (R48, R50, R51). -/
def Posting.bytes (p : Posting) : List Byte :=
  let len := p.reply.payload.length
  let n := entriesFor len
  let h := fieldAt p.opcode 0 16 + fieldAt p.cls 16 2 + fieldAt (bit p.quiet) 18 1 + fieldAt (n - 1) 24 3 +
    fieldAt len 32 16 + fieldAt p.tag 48 16 + fieldAt p.seq 64 32 + fieldAt p.reply.status 96 8 +
    fieldAt p.reply.detail 104 24
  let body := leBytes 16 h ++ p.reply.payload
  body ++ leBytes 4 (crc32c body) ++ List.replicate (128 * n - (body.length + 4)) 0

/-- Free entries of a seat's response ring. -/
def Seat.rspFree (q : Seat) : Nat := 64 - (q.rspTail - q.rspHead).toNat

/-- The response ring is full. -/
def Seat.rspFull (q : Seat) : Bool := decide (q.rspFree = 0)

/-- The byte offset of a ring index in a ring of 64 entries of 128 bytes. -/
def ringOffset (i : BitVec 7) : Nat := i.toNat % 64 * 128

/-- Write entries into a ring from an index upwards, wrapping from entry 63 to entry 0. -/
def writeRing (m : List Host.Cell) (i : BitVec 7) (bs : List Byte) : List Host.Cell :=
  (List.range ((bs.length + 127) / 128)).foldl
    (fun m k => writeBytes m (ringOffset (i + BitVec.ofNat 7 k)) ((bs.drop (128 * k)).take 128)) m

/-- Read entries from a ring from an index upwards, wrapping. -/
def readRing (m : List Host.Cell) (i : BitVec 7) (n : Nat) : List Byte :=
  (List.range n).flatMap fun k => readBytes m (ringOffset (i + BitVec.ofNat 7 k)) 128

/-- Write a response into the ring, advance `MBX_RSP_TAIL` and signal vector 16 (R557, R58). -/
def postInto (i : SeatId) (p : Posting) (s : State) : State :=
  let s := s.onSeat i fun q =>
    let t := q.rspTail + BitVec.ofNat 7 (entriesFor p.reply.payload.length)
    { q with
      rspRing := writeRing q.rspRing q.rspTail p.bytes
      rspTail := t
      rspFullSince := if (t - q.rspHead).toNat = 64 then some s.now else none }
  if isPcieSeat s.mapB i && (s.seat i).attached then offerMsix i 16 s else s

/-- Post a response, or keep it until the ring has room (R74: a request is accepted against a credit for its
response). -/
def post (i : SeatId) (p : Posting) (s : State) : State :=
  if (s.seat i).rspWait = [] ∧ entriesFor p.reply.payload.length ≤ (s.seat i).rspFree then postInto i p s
  else s.onSeat i fun q => { q with rspWait := q.rspWait ++ [p] }

/-- `STATUS` codes (Table 2.10). -/
def stOk : Nat := 0x00
def stDeferred : Nat := 0x01
def stDiscarded : Nat := 0x08
def stBadCrc : Nat := 0x10
def stBadSequence : Nat := 0x11
def stBadHeader : Nat := 0x12
def stRingOverrun : Nat := 0x13
def stUnknownOpcode : Nat := 0x14
def stBadTarget : Nat := 0x15
def stBadValue : Nat := 0x16
def stNotUrgent : Nat := 0x17
def stUrgentLimit : Nat := 0x18
def stNotOwner : Nat := 0x20
def stOwned : Nat := 0x21
def stRetryTooSoon : Nat := 0x22
def stNotPermitted : Nat := 0x23
def stPairMismatch : Nat := 0x30
def stCategoryMismatch : Nat := 0x31
def stSlateEmpty : Nat := 0x32
def stDomainTimeout : Nat := 0x40
def stResetRequired : Nat := 0x41
def stNotSupported : Nat := 0x42
def stInternal : Nat := 0x7F

/-- The answer `OK` with a payload. -/
def okWith (p : List Byte) : Reply := { status := stOk, payload := p }

/-- The answer `OK`. -/
def okReply : Reply := { status := stOk }

/-- A refusal. -/
def refusal (st : Nat) (detail : Nat := 0) : Reply := { status := st, detail := detail }

/-- Answer a request: it is no longer outstanding, and `QUIET` suppresses an `OK` (Table 2.9, R57). -/
def respond (r : Request) (rep : Reply) (s : State) : State :=
  let s := if r.cls = .urgent then s.onSeat r.seat fun q => { q with urgentOut := q.urgentOut - 1 } else s
  if r.quiet = true ∧ rep.status = stOk then s
  else post r.seat { opcode := r.opcode, cls := r.cls.code, quiet := r.quiet, tag := r.tag, seq := r.seq, reply := rep } s

/-- A response of a seat's failed claim waits for room in the response ring (R63). -/
def Seat.claimWaits (q : Seat) : Bool := q.failedClaim.any fun f => q.rspWait.any fun p => p.opcode == 1 && p.seq == f.seq

/-- Post every waiting response that has room, in order (R74). -/
def flushWaiting (i : SeatId) (s : State) : State :=
  (List.range (s.seat i).rspWait.length).foldl
    (fun s _ =>
      match (s.seat i).rspWait with
      | [] => s
      | p :: rest =>
        if entriesFor p.reply.payload.length ≤ (s.seat i).rspFree then
          postInto i p (s.onSeat i fun q => { q with rspWait := rest })
        else s) s

/-- The same, with the time at which a failed claim's response is posted (R63). -/
def flushPosts (i : SeatId) (s : State) : State :=
  let t := flushWaiting i s
  if (s.seat i).claimWaits && !(t.seat i).claimWaits then
    t.onSeat i fun q => { q with failedClaim := q.failedClaim.map fun f => { f with postedAt := some s.now } }
  else t

/-! ### Serving a request (R55, R56, R79) -/

/-- A request may be taken now: no earlier request of its seat and class waits (R55), and between Normal and Bulk
cores 1 and 2 keep the order of R56. -/
def eligible (s : State) (r : Request) : Bool :=
  let earlier := s.mgt.channel.takeWhile (fun q => decide (q ≠ r))
  let first := !(earlier.any fun q => decide (q.seat = r.seat ∧ q.cls = r.cls))
  let waits := fun (c : CmdClass) => s.mgt.channel.any fun q => decide (q.cls = c)
  match r.cls with
  | .urgent => first
  | .normal => first && !(waits .bulk && decide (8 ≤ s.mgt.normalRun))
  | .bulk => first && (!(waits .normal) || decide (8 ≤ s.mgt.normalRun))

/-- Take a request out of its channel (R54, R56: the count of Normal requests served while a Bulk request waits). -/
def takeRequest (r : Request) (s : State) : State :=
  let ch := s.mgt.channel.erase r
  let bulk := ch.any fun q => decide (q.cls = .bulk)
  let run := match r.cls with
    | .urgent => s.mgt.normalRun
    | .normal => if bulk then s.mgt.normalRun + 1 else 0
    | .bulk => 0
  { s with mgt.channel := ch, mgt.normalRun := run }

/-- A core that serves a class runs: core 0 the Urgent channel, cores 1 and 2 the others (R56, R80). -/
def State.coreServes (s : State) (c : CmdClass) : Bool :=
  match c with
  | .urgent => s.mgt.coreStopped[0].isNone
  | _ => s.mgt.coreStopped[1].isNone || s.mgt.coreStopped[2].isNone

/-- Serve a request: with `FW_READY` = 0 (R79), or while no core of its class runs (R80), it waits in its channel; a request whose turn has
not come stays there (R55, R56); otherwise it is taken and carried out. A stopped MGMT domain serves nothing (R422). -/
def serve (r : Request) (s : State) (act : State → State) : State :=
  if s.clk.mgmtStopped then s
  else if s.mgt.fwReady = false ∨ s.coreServes r.cls = false then
    if r ∈ s.mgt.channel then s else { s with mgt.channel := s.mgt.channel ++ [r] }
  else if r ∈ s.mgt.channel ∧ eligible s r = false then s
  else act (takeRequest r s)

/-- The seat number as an owner detail; 0xFF if unowned (Table 2.10, R72). -/
def ownerDetail (o : Option SeatId) : Nat := (o.map Fin.val).getD 0xFF

/-- The checks that every request to one target shares: the target exists, is not marked reset required (R425), and
is owned by the seat where the opcode needs it (Table 2.11). `none` if they pass. -/
def targetCheck (s : State) (r : Request) (needOwner : Bool) : Option Reply :=
  if r.target.isTarget = false then some (refusal stBadTarget)
  else if s.resetRequired r.target then some (refusal stResetRequired)
  else if needOwner && !s.owns r.seat r.target then some (refusal stNotOwner (ownerDetail (s.ownerOf r.target)))
  else none

/-- Serve a request whose target must be one of the given Units: another target is answered `BAD_TARGET`; then the
shared checks. -/
def serveTarget (r : Request) (s : State) (units : List (Nat × Nat)) (needOwner : Bool) (act : State → State) : State :=
  serve r s fun s =>
    if units.contains (r.target.sec, r.target.unit) = false then respond r (refusal stBadTarget) s
    else match targetCheck s r needOwner with
      | some rep => respond r rep s
      | none => act s

/-! ### Free values -/

/-- Draw a fresh index for a free value (DESIGN CHOICE, log entry 7). -/
def State.draw (s : State) : State := { s with free := s.free + 1 }

/-! ### Time -/

/-- Let the device microsecond count reach a time that a timer names; it never goes back. The device time runs on by as
much, unless TIME is stopped (DESIGN CHOICE, log entry 4). -/
def State.reach (s : State) (t : Nat) : State :=
  let ns := s.tim.devNs + if s.clk.timeStopped then 0 else (t - s.now) * 1000
  { s with now := max s.now t, tim.devS := s.tim.devS + ns / 1000000000, tim.devNs := ns % 1000000000 }

end Sys2Proof.Machine
end

