-- ==== Sys2Proof/Machine/PowerOps.lean ====
section
/-!
DEFINITION. Traffic groups and power states, as the other Sections see them (R536, R537).
-/
namespace Sys2Proof.Machine

/-- The client is used: it has a client type (Table 7.3). -/
def State.clientUsed (s : State) (c : Nat) : Bool := decide (s.cfg Param.mapClientType 0 c ≠ 0)

/-- The used clients in ascending number. -/
def State.usedClients (s : State) : List Nat := (List.range 64).filter s.clientUsed

/-- The traffic group of a client (R536). -/
def State.groupOf (s : State) (c : Nat) : Fin 4 :=
  let has := fun (e : Nat) => bits (s.cfgN Param.pstGroupClients 0 e) c 1 = 1
  if has 0 then 1 else if has 1 then 2 else if has 2 then 3 else 0

/-- The group holds at least one used client. -/
def State.groupUsed (s : State) (g : Fin 4) : Bool := s.usedClients.any fun c => decide (s.groupOf c = g)

/-- The shallowest of the given values over the groups that hold a used client, or group 0's value if no group does
(R537). -/
def State.overGroups (s : State) (f : Group → Nat) : Nat :=
  match (indices 4).filter s.groupUsed with
  | [] => f s.pwr.groups[(0 : Fin 4)]
  | g :: gs => gs.foldl (fun m g => min m (f s.pwr.groups[g])) (f s.pwr.groups[g])

/-- The device state, 0 P0 to 4 P4, which the line side follows (R537) (DEDUCED, log entry 41). -/
def State.deviceState (s : State) : Nat := s.overGroups Group.state

/-- The power state of a client's group. -/
def State.clientPower (s : State) (c : Nat) : Nat := s.pwr.groups[s.groupOf c].state

/-- CORE is stopped: in P4, or by a clock failure (R22, Table 13.6). -/
def State.coreOff (s : State) : Bool := decide (s.deviceState = 4) || s.clk.coreStopped

/-! ### Tolerances and targets (R539 to R541) -/

/-- The group holds a client that Flint protects (R539). -/
def State.flintGroup (s : State) (g : Fin 4) : Bool :=
  (List.range 64).any fun c => decide (bits (s.cfgN Param.fltClientMask) c 1 = 1) && decide (s.groupOf c = g)

/-- The tolerances given for a group: of each attached seat, and of `DOM.FLT` (R539). -/
def State.tolerancesFor (s : State) (g : Fin 4) : List Nat :=
  ((indices 4).filter fun i => (s.seat i).attached).filterMap (fun i => s.pwr.tolerances[i][g]) ++
    (if s.flintGroup g then s.pwr.flintTol.toList else [])

/-- The effective tolerance of a group: the smallest given, if one is. -/
def State.effectiveTol (s : State) (g : Fin 4) : Option Nat := (s.tolerancesFor g).min?

/-- The deepest state whose exit latency a tolerance in microseconds allows (R540). -/
def stateFor (tol : Nat) : Nat :=
  if tol < 10 then 0 else if tol < 2000 then 1 else if tol < 20000 then 2 else if tol < 400000 then 3 else 4

/-- The target of a group (R539, R540). -/
def State.groupTarget (s : State) (g : Fin 4) : Nat :=
  match s.effectiveTol g with
  | some t => stateFor t
  | none => s.cfgN Param.pstIdleState 0 g.val

/-- The bound of an exit in microseconds (Table 17.6). -/
def exitBound (left : Nat) : Nat :=
  match left with
  | 0 | 1 => 10 | 2 => 2000 | 3 => 20000 | _ => 400000

/-- Apply a target to a group (R540, R541): an exit starts at once, or abandons an entry in progress; a deeper target waits,
and a shallower one during the wait restarts it; an exit in progress completes. -/
def Group.aim (k : Group) (target now : Nat) : Group :=
  let old := k.target
  let k := { k with target := target }
  match k.move with
  | none =>
    if target < k.state then { k with holdSince := none, move := some ⟨k.state, target, false, now⟩ }
    else if k.state < target then
      { k with holdSince := if old < target ∨ old = target then some (k.holdSince.getD now) else some now }
    else { k with holdSince := none }
  | some m =>
    if m.deeper ∧ target < m.target then { k with holdSince := none, move := some ⟨m.target, target, false, now⟩ }
    else if m.deeper = false ∧ target < m.target then { k with move := some { m with target := target } }
    else k

/-- Re-evaluate every group (R540). -/
def judgeGroups (s : State) : State :=
  { s with pwr.groups := vgen 4 fun g => s.pwr.groups[g].aim (s.groupTarget g) s.now }

/-! ### Clock gates (R424 to R426) -/

/-- `GAT` asks a block for quiescence; a gate that is closed, or asked already, is left (R424, R426). -/
def closeGate (p : Path) (s : State) : State :=
  if s.clk.gated.contains p ∨ s.clk.gateWait.contains p then s else { s with clk.gateWait := s.clk.gateWait ++ [p] }

/-- The gate of a block opens. -/
def openGate (p : Path) (s : State) : State :=
  { s with clk.gated := s.clk.gated.erase p, clk.gateWait := s.clk.gateWait.erase p }

/-- The blocks whose gate is to be closed: the instances in reset, and by their instance 0 the Units that stand still: a switched-off `NLE` (R147), the encoder and
decoder of Basalt in an interoperable mode (R226), from P2 on the main DSP with its framing and cipher, from P3 the
converters, and in P4 what Table 17.6 does not keep running (DEDUCED, log entry 41). -/
def State.gatesWanted (s : State) : List Path :=
  let d := s.deviceState
  let whole := fun (sec : Nat) => ((List.range 18).filter fun u => decide (0 < unitInstances sec u)).map fun u => (⟨sec, u, 0⟩ : Path)
  let zr := fun (p : ParamRow) => decide (4 ≤ s.cfg p)
  s.mgt.resetting.flatten ++
    (if s.rxd.nleGated then [⟨6, 2, 0⟩] else []) ++ (if zr Param.beFec then [⟨8, 0, 0⟩] else []) ++
    (if zr Param.bdeFec then [⟨8, 1, 0⟩] else []) ++ (if 2 ≤ d then [6, 7, 8, 9, 10].flatMap whole else []) ++
    (if 3 ≤ d then whole 5 else []) ++ (if d = 4 then [11, 13, 14].flatMap whole else [])

/-- Close the gates that are wanted closed, and open the others (R424). -/
def judgeGates (s : State) : State :=
  let w := s.gatesWanted
  let s := overAll ((s.clk.gated ++ s.clk.gateWait).filter fun p => !w.contains p) openGate s
  overAll w closeGate s

/-! ### A start-up that fails (R535) -/

/-- A start-up step has failed: the sequencer stops, `EV015` (R535). -/
def failStartup (cause : Nat) (s : State) : State :=
  if s.mgt.seq.fault then s
  else raise 15 { s with mgt.seq.fault := true, mgt.seq.cause := cause, mgt.seq.verifying := false }

/-- A self-test of the data plane has failed at step 9: the sequencer reports it, and firmware serves the seats (R230, R285, R535). -/
def reportSelftest (s : State) : State := if s.mgt.seq.step = 8 then failStartup 3 s else s

end Sys2Proof.Machine
end

