-- ==== Sys2Proof/Machine/FrameOps.lean ====
section
/-!
DEFINITION. The client map in operation: what each row is, what replaces its receive signal, and what the replacement
counts (R243, R245, R250, R252, R257).
-/
namespace Sys2Proof.Machine

/-- The receive direction uses an interoperable mode (R225). -/
def State.rxInterop (s : State) : Bool := decide (4 ≤ s.cfg Param.bdeFec)

/-- The transmit direction uses an interoperable mode (R225). -/
def State.txInterop (s : State) : Bool := decide (4 ≤ s.cfg Param.beFec)

/-- C of an interoperable mode (R252). -/
def zrCapacity (fec : Int) : Nat := if fec = 4 then 16 else 32

/-- The received C in force (R243, R252). -/
def State.rxC (s : State) : Nat := if s.rxInterop then zrCapacity (s.cfg Param.bdeFec) else s.frm.rxCapacity

/-- The transmit C in force (R252). -/
def State.txC (s : State) : Nat := if s.txInterop then zrCapacity (s.cfg Param.beFec) else s.frm.txCapacity

/-- Codeword sync or, in an interoperable mode, frame lock is held. -/
def State.decoderLocked (s : State) : Bool := if s.rxInterop then s.cod.frameLock else s.cod.sync

/-- The fail and the degrade indication of the decoder in use (R222, R223, R226). -/
def State.lineFail (s : State) : Bool := if s.rxInterop then s.cod.ifdFail else s.cod.fail
def State.lineDegrade (s : State) : Bool := if s.rxInterop then s.cod.ifdDegrade else s.cod.degrade

/-- One row of the client map in operation. -/
def State.client (s : State) (c : Nat) : Client := s.frm.clients[c]?.getD {}

/-- Change one row of the client map. -/
def State.onClient (s : State) (c : Nat) (f : Client → Client) : State :=
  match h : decide (c < 64) with
  | true => { s with frm.clients := vmod s.frm.clients ⟨c, of_decide_eq_true h⟩ f }
  | false => s

/-- The type, first unit, units, host port and class of a row. -/
def State.clientType (s : State) (c : Nat) : Nat := s.cfgN Param.mapClientType 0 c
def State.firstUnit (s : State) (c : Nat) : Nat := s.cfgN Param.mapFirstUnit 0 c
def State.unitsOf (s : State) (c : Nat) : Nat := s.cfgN Param.mapUnits 0 c
def State.hostPort (s : State) (c : Nat) : Nat := s.cfgN Param.mapHostPort 0 c
def State.classOf (s : State) (c : Nat) : Nat := s.cfgN Param.latClass 0 c

/-- The rate of the signal that `MAP` hands to HST for a client, in kb/s (R257) (DEDUCED, log entry 65). -/
def State.clientKbps (s : State) (c : Nat) : Nat :=
  match s.clientType c with
  | 1 => 103125000
  | 2 => 206250000
  | 3 => 412500000
  | 4 => 825000000
  | 5 => 1650000000
  | 6 => s.unitsOf c * 25781250
  | 7 => 104794446
  | 8 => s.unitsOf c * 26204000
  | 9 => s.unitsOf c / 5 * 105258138
  | _ => 0

/-- A cause of Table 7.7 that replaces every client; an interoperable mode has no line frame overhead (R252). In P2 and deeper the line
frame is gated and the clients are replaced (Table 7.9). -/
def State.lineCause (s : State) : Bool :=
  s.rxd.los || s.rxd.losf || !s.decoderLocked || (s.frm.lof && !s.rxInterop) || (s.frm.maint && !s.rxInterop) ||
    (!s.rxInterop && ((s.frm.tim && s.cfgB Param.lfrTimAction) || s.frm.ptBad || decide (4 * s.cfgN Param.lfrRxOtucN < s.rxC))) || decide (2 ≤ s.deviceState)

/-- A channel replaces its client (R273, R274, R275, R287): it does not decrypt, its segments carry no key, the partner
does not match, or policy 2 acts. -/
def Channel.replaces (k : Channel) (encrypted : Bool) : Bool :=
  k.encMismatch || k.roleConflict ||
    (encrypted && (!k.rxSync || !k.rxUsing || k.rxNoKey || k.rxStray || k.rxSilent || k.policyReplaces))

/-- The client is replaced by the cipher: the channel that carries it on receive does so. -/
def State.cipherReplaces (s : State) (c : Nat) : Bool :=
  (indices 64).any fun i =>
    decide (s.cfgDir .rx Param.cipClient i.val = c) &&
      s.sec.channels[i].replaces (decide (s.cfgDir .rx Param.cipMode i.val ≠ 0))

/-- The receiver of a channel must find its segments anew (R274). -/
def Channel.resync (k : Channel) : Channel :=
  { k with rxSync := false, rxRead := false, rxRuns := false, rxHeld := [], due := none }

/-- Codeword sync loss and LOF make every channel find its segments anew, and the gating of P2 those of the group (R274, R537, Table 8.7). -/
def resyncChannels (s : State) : State :=
  let all := !s.decoderLocked || (s.frm.lof && !s.rxInterop)
  { s with sec.channels := vgen 64 fun c =>
      let k := s.sec.channels[c]
      if all || decide (2 ≤ s.clientPower (s.cfgDir .rx Param.cipClient c.val).toNat) then k.resync else k }

/-- The client's units reach the received C or beyond (R250); C is judged once it has been received. -/
def State.rxOutside (s : State) (c : Nat) : Bool :=
  decide (s.rxC ≠ 0 ∧ s.rxC < s.firstUnit c + s.unitsOf c)

/-- A type 8 client's rate exceeds its units (R246). -/
def State.rateExceeded (s : State) (c : Nat) : Bool :=
  decide (s.clientType c = 8 ∧ s.unitsOf c * 26204000 < (s.client c).hostKbps)

/-- A cause that replaces one client: its own of Table 7.7, the cipher's, or its group in P2 or deeper (R537) (DEDUCED, log entry 69). -/
def State.clientCause (s : State) (c : Nat) : Bool :=
  let k := s.client c
  s.lineCause || (!s.rxInterop && (k.msiBad || k.jcAlarm)) || s.rxOutside c || s.rateExceeded c || s.cipherReplaces c ||
    decide (2 ≤ s.clientPower c)

/-- The signal that replaces a client's receive signal, by its type (Table 7.7). -/
def replacementOf (type : Nat) : Replacement :=
  if type ≤ 5 then .localFault else if type = 6 then .flexeLocalFault else if type ≤ 8 then .oduAis else .oducAis

/-- Bring the count of replaced client words up to the present (R257) (DEDUCED, log entry 69). -/
def settleReplaced (s : State) : State :=
  let dt := s.now - s.frm.replacedAt
  let kbps := (s.usedClients.map fun c => if (s.client c).replacing then s.clientKbps c else 0).sum
  let acc := s.frm.replacedRest + kbps * dt
  { s with frm.replaced := (s.frm.replaced + acc / 128000) % 2 ^ 64, frm.replacedRest := acc % 128000,
           frm.replacedAt := s.now }

/-- Judge one used client (R250, R257): `EV153` when it becomes transmit-only, `EV151` when replacement begins, and the
start of the restore hold when its last cause has cleared (DEDUCED, log entry 69). -/
def judgeClient (c : Nat) (s : State) : State :=
  let k := s.client c
  let out := s.rxOutside c
  let s := s.onClient c fun k => { k with outside := out }
  let s := if out && !k.outside then raiseFor 153 c s else s
  if s.clientCause c then
    let s := s.onClient c fun k => { k with replacing := true, clearSince := none }
    if k.replacing then s else raiseFor 151 c (s.send (.clientSignal c (some (replacementOf (s.clientType c)))))
  else if k.replacing && k.clearSince.isNone then s.onClient c fun k => { k with clearSince := some s.now }
  else s

/-- A client that stays replaced while its row changes its type gets the replacement signal of the new one (Table 7.7). -/
def resignal (old : State) (s : State) : State :=
  overAll (s.usedClients.filter fun c => (s.client c).replacing && (old.client c).replacing && decide (old.clientType c ≠ s.clientType c))
    (fun c s => s.send (.clientSignal c (some (replacementOf (s.clientType c))))) s

/-- Judge every used client after a change of a cause. -/
def refreshClients (s : State) : State := overAll s.usedClients judgeClient (resyncChannels (settleReplaced s))

/-- Set or clear bits [5:0] of `LFR_STATUS` as a function of the old state; a bit that sets is remembered in
`LFR_DEFECTS` (Table 7.13). -/
def lfrBits (s : State) : BitVec 6 :=
  BitVec.ofNat 6 (bit s.frm.oof + 2 * bit s.frm.lof + 4 * bit s.frm.bdi + 8 * bit s.frm.tim + 16 * bit s.frm.maint +
    32 * bit s.frm.msiMismatch)

/-- Remember the status bits that have set since the state `old` (Table 7.13). -/
def noteDefects (old s : State) : State :=
  { s with frm.sticky := s.frm.sticky ||| (lfrBits s &&& ~~~ (lfrBits old)) }

end Sys2Proof.Machine
end

