-- ==== Sys2Proof/Machine/CodingOps.lean ====
section
/-!
DEFINITION. Operations of the decoder that the receive chain shares: thresholds, the effective cap, the fail indication
and loss of sync (R213, R216, R222, R223, R226).
-/
namespace Sys2Proof.Machine

/-- The fail threshold in force, in parts per 10^9 (R222, R226). -/
def State.failThreshold (s : State) : Nat :=
  if s.cfg Param.bdeFailBerPpb = 0 then fecThreshold (s.cfgN Param.bdeFec) else s.cfgN Param.bdeFailBerPpb

/-- The degrade threshold in force (R223, R226). -/
def State.degradeThreshold (s : State) : Nat :=
  if s.cfg Param.bdeSdBerPpb = 0 then fecThreshold (s.cfgN Param.bdeFec) / 2 else s.cfgN Param.bdeSdBerPpb

/-- The number of degraded clusters. -/
def Cod.clustersDegraded (c : Cod) : Nat := ((List.range 16).filter fun i => c.degraded.getLsbD i).length

/-- The cap that the degraded clusters leave (R213). -/
def Cod.clusterCap (c : Cod) : Nat := 24 * (16 - c.clustersDegraded) / 16

/-- The effective cap without the limit of P1. -/
def State.capOutsideP1 (s : State) : Nat := min (s.cfgN Param.bdeIterCap) s.cod.clusterCap

/-- The effective cap (R213). -/
def State.effectiveCap (s : State) : Nat := if s.deviceState = 1 then min 4 s.capOutsideP1 else s.capOutsideP1

/-- Set the fail indication of the decoder in use (R222, R227): `EV130` when it sets. -/
def setFail (s : State) : State :=
  if s.rxInterop then
    if s.cod.ifdFail then s else raiseAt 130 3 0 { s with cod.ifdFail := true, cod.cleanWindows := 0 }
  else
    if s.cod.fail then s else raiseAt 130 1 0 { s with cod.fail := true, cod.cleanWindows := 0 }

/-- Loss of codeword sync, or of frame lock in an interoperable mode (R216, R226): counted and reported if it was held,
the fail indication sets, and the search starts again. -/
def decoderLoses (s : State) : State :=
  if s.rxInterop then
    let s1 := { s with cod.frameLock := false, cod.hits := 0, cod.misses := 0 }
    if s.cod.frameLock then
      refreshClients (setFail (raiseAt 129 3 0 { s1 with cod.frameLosses := satInc 16 s.cod.frameLosses }))
    else s1
  else
    let s1 := { s with cod.sync := false, cod.candidate := 0, cod.goodBlocks := 0, cod.badBlocks := 0 }
    if s.cod.sync then
      refreshClients (setFail (raiseAt 129 1 0 { s1 with cod.syncLosses := satInc 16 s.cod.syncLosses }))
    else s1

/-- Judge the effective cap after a change (R213): `EV135` when it falls below `iter_cap` for a reason other than P1; below
2 the decoder halts with `EV137` and loses sync. In an interoperable mode, where `BDE` is gated, nothing is judged (R226). -/
def judgeCap (s : State) : State :=
  if s.rxInterop then { s with cod.halted := false }
  else
    let low := decide (s.capOutsideP1 < s.cfgN Param.bdeIterCap)
    let s1 := { s with cod.capLow := low }
    let s1 := if low && !s.cod.capLow then raise 135 s1 else s1
    if s1.effectiveCap < 2 then
      if s1.cod.halted then s1 else raise 137 (decoderLoses { s1 with cod.halted := true })
    else { s1 with cod.halted := false }

/-- A cluster is degraded: `EV133` at every increase of n (R213). -/
def degradeCluster (i : Fin 16) (s : State) : State :=
  if s.cod.degraded.getLsbD i.val then s
  else judgeCap (raise 133 { s with cod.degraded := s.cod.degraded ||| BitVec.ofNat 16 (2 ^ i.val) })

/-- The decoders run: COD is released and ungated (R230, Table 6.5). -/
def State.decoding (s : State) : Bool := s.cod.released && decide (s.deviceState ≤ 1)

/-- The bits that the running injection of `BEN` has inverted since it was last settled, while the encoder runs (R229, Table 6.5)
(DESIGN CHOICE, log entry 12). -/
def State.inverting (s : State) (running : Bool) : Nat :=
  match s.cod.benInject with
  | none => 0
  | some i => if running then Config.injectedBits i.since i.ratePpb (s.now - i.since) else 0

/-- The encoder sends payload labels: COD is released and ungated, in a Basalt profile (R226, R230, Table 6.5). -/
def State.encoding (s : State) : Bool := s.cod.released && decide (s.deviceState ≤ 1) && !s.txInterop

/-- `BEN_INJECTED`: the bits inverted up to now, saturating (R229, R234). -/
def State.injectedCount (s : State) : Nat := satInc 32 s.cod.benInjected (s.inverting s.encoding)

/-- Count what the running injection of `BEN` has inverted, the encoder having run or not until now, and count on from now
(DESIGN CHOICE, log entry 12). -/
def settleInjectionAs (running : Bool) (s : State) : State :=
  { s with cod.benInjected := satInc 32 s.cod.benInjected (s.inverting running)
           cod.benInject := s.cod.benInject.map fun (i : Injection) => { i with since := s.now } }

/-- The same in the present state of the encoder. -/
def settleInjection (s : State) : State := settleInjectionAs s.encoding s

/-- Whole blocks of the transmit chain, and the payload symbol periods of the open one, at the start of the present superframe (R205). -/
def State.chainPeriods (s : State) : Nat × Nat :=
  let n := (s.txd.sf - s.cod.chainSf) * payloadSymbols s.txd.pilots
  (n / 1024 - s.cod.chainBlock, n % 1024)

/-! ### The mode of Lodestone (R298) -/

/-- TXD transmits the main signal: it has been released and the device is in P0 or P1 (R298, Table 5.8). -/
def State.mainSignal (s : State) : Bool := s.txd.released && decide (s.deviceState ≤ 1)

/-- The mode in force (R298): 0 off, 1 beacon, 2 in service (DEDUCED, log entry 76). -/
def State.lodMode (s : State) : Nat :=
  match s.cfgN Param.lgMode with
  | 0 => if s.txInterop then 0 else if s.mainSignal then 2 else if s.txd.counting then 1 else 0
  | 1 => 1
  | 2 => 2
  | _ => 0

/-- TXD sends the main signal at the balls: with a forced beacon nothing else is transmitted (R297). -/
def State.sendsMain (s : State) : Bool := s.mainSignal && decide (s.lodMode ≠ 1)

/-- Judge the mode in force after a change: `EV187`. -/
def judgeLodMode (s : State) : State :=
  if s.lod.mode = s.lodMode then s else raise 187 { s with lod.mode := s.lodMode }

/-- TXD is first released when the initial calibration has ended and COD, which encodes its signal, has been released (R298)
(DEDUCED, log entry 76). -/
def releaseTxd (s : State) : State :=
  if s.txd.counting && s.cod.released && !s.txd.released then judgeLodMode { s with txd.released := true } else s

end Sys2Proof.Machine
end

