-- ==== Sys2Proof/Machine/Converters.lean ====
section
/-!
DEFINITION. CNV: the line converters and their calibration (chapter 3). `AGC_DECISION` stands with the monitoring chains
that it reads.
-/
namespace Sys2Proof.Machine

/-! ### Rates (R32, R85) -/

/-- The transmit symbol rate in use, in kBd: the parameter on its grid of 0.125 GBd, or the rate of the
interoperable mode (R225) (DESIGN CHOICE, log entry 10). -/
def symbolKBd (fec : Int) (gbdX8 : Nat) : Nat :=
  if fec = 4 then 59843750
  else if fec = 5 then 75000000 + Config.rate800ZrAbove75
  else gbdX8 * 125000

/-- The symbol rate in use, in kBd (R32, R225). -/
def State.symbolRate (s : State) : Nat := symbolKBd (s.cfg Param.beFec) (s.cfgN Param.psfSymbolRateGbdX8)

/-- The receive symbol rate in use, in kBd (R136, R225). -/
def State.rxSymbolRate (s : State) : Nat := symbolKBd (s.cfg Param.bdeFec) (s.cfgN Param.trcSymbolRateGbdX8)

/-- The sample rate for a symbol rate, in kS/s (R32). -/
def sampleRateOf (kBd : Nat) : Nat := if 75000000 ≤ kBd then kBd * 6 / 5 else 90000000

/-- The full configuration: a sample rate above 180 GS/s (R85). -/
def fullAt (kSps : Nat) : Bool := decide (180000000 < kSps)

/-- The configuration that the converters run in (R85). -/
def State.fullConfig (s : State) : Bool := fullAt (sampleRateOf s.symbolRate)

/-- How long 4,096 samples of a slice last, in µs (R91 step 3): the slice rate is the sample rate over the active slices (Table 3.2). -/
def State.windowUs (s : State) : Nat :=
  let kSps := sampleRateOf s.symbolRate
  (4096 * (if fullAt kSps then 144 else 72) * 1000 + kSps - 1) / kSps

/-! ### Slice groups (R91 to R98) -/

/-- The slices in service in a group: 12 in the full configuration and 6 in the compact one (Table 3.2). -/
def activeCount (full : Bool) : Nat := if full then 12 else 6

/-- Lay a group out for a configuration: the lowest-numbered slices that are neither retired nor blocked take the
active places, the next one rests, and the others are powered down (R97, R98). In the full configuration a blocked
slice serves too (DEDUCED, log entry 28). Where a compact group has no healthy unused slice left, nothing rests, or fewer than six serve
(DESIGN CHOICE, log entry 28). -/
def SliceGroup.layOut (g : SliceGroup) (full : Bool) : SliceGroup :=
  let healthy := (List.range 13).filter fun i => decide (g.retired ≠ some i) && (full || !g.blocked.contains i)
  let n := activeCount full
  { g with active := healthy.take n, resting := healthy[n]?, next := 0, phase := .idle, passLeft := 0, steps := 0,
           blocked := if full then [] else g.blocked }

/-- A healthy slice of the group that neither serves nor rests (compact configuration, R97, R98). -/
def SliceGroup.unused (g : SliceGroup) : Option Nat :=
  (List.range 13).find? fun i => !g.active.contains i && decide (g.resting ≠ some i) && decide (g.retired ≠ some i) &&
    !g.blocked.contains i

/-- The trims of slice `i` of a group replaced. -/
def SliceGroup.onSlice (g : SliceGroup) (i : Nat) (f : Slice → Slice) : SliceGroup :=
  match h : decide (i < 13) with
  | true => { g with slices := vmod g.slices ⟨i, of_decide_eq_true h⟩ f }
  | false => g

/-- Slice `i` of a group. -/
def SliceGroup.slice (g : SliceGroup) (i : Nat) : Slice := g.slices[i]?.getD {}

/-- `SPARES_IN_USE`: groups with a retired slice (R96). -/
def Adc.sparesInUse (a : Adc) : Nat := (a.groups.toList.filter fun g => g.retired.isSome).length

/-- `NO_SPARE_GROUPS`: groups with no spare left in the current configuration (R97). -/
def Adc.noSpare (a : Adc) : Nat := if a.full then a.sparesInUse else 0

/-- Change one ADC channel. -/
def State.onAdc (s : State) (ch : Fin 4) (f : Adc → Adc) : State := { s with cnv.adcs := vmod s.cnv.adcs ch f }

/-- Change one DAC channel. -/
def State.onDac (s : State) (ch : Fin 4) (f : Dac → Dac) : State := { s with cnv.dacs := vmod s.cnv.dacs ch f }

/-- Change one slice group. -/
def State.onGroup (s : State) (ch : Fin 4) (g : Fin 12) (f : SliceGroup → SliceGroup) : State :=
  s.onAdc ch fun a => { a with groups := vmod a.groups g f }

/-- One slice group. -/
def State.group (s : State) (ch : Fin 4) (g : Fin 12) : SliceGroup := s.cnv.adcs[ch].groups[g]

/-- Judge `NO_SPARE_GROUPS` of a channel: `EV082` whenever it has increased (R97). -/
def judgeNoSpare (ch : Fin 4) (s : State) : State :=
  let a := s.cnv.adcs[ch]
  let s1 := s.onAdc ch fun a => { a with noSpareSeen := a.noSpare }
  if a.noSpareSeen < a.noSpare then raiseAt 82 ch.val 0 s1 else s1

/-- One failed attempt of a slice (R94, R96, R98): counted, reported, and at the third in a row the slice is retired or
the retirement is blocked (DEDUCED, log entry 54). -/
def sliceFailed (ch : Fin 4) (grp : Fin 12) (i : Nat) (s : State) : State :=
  let s := s.onAdc ch fun a => { a with fails := satInc 32 a.fails }
  let s := s.onGroup ch grp fun g => g.onSlice i fun x => { x with fails := x.fails + 1 }
  let s := raiseAt 80 ch.val 0 s
  let g := s.group ch grp
  if (g.slice i).fails ≠ 3 then s
  else if g.retired = none then
    let s := s.onGroup ch grp fun g =>
      let g := { g with retired := some i }
      if g.resting = some i then { g with resting := g.unused } else g
    judgeNoSpare ch (raiseAt 81 ch.val 0 s)
  else
    let s := s.onGroup ch grp fun g =>
      if s.cnv.adcs[ch].full then g
      else
        let g := { g with blocked := g.blocked ++ [i] }
        if g.resting = some i then { g with resting := g.unused } else g
    raiseAt 83 ch.val 0 s

/-- A rotation step of a group has ended, with success or not: a forced pass owes one step fewer, a background pass has
one step more; a group whose spare is gone owes none (R101) (DEDUCED, log entry 54). -/
def stepEnded (ch : Fin 4) (grp : Fin 12) (s : State) : State :=
  let s := s.onGroup ch grp fun g =>
    { g with
      phase := .idle
      passLeft := if g.resting = none then 0 else g.passLeft - 1
      steps := if g.passLeft = 0 then g.steps + 1 else g.steps }
  let a := s.cnv.adcs[ch]
  if a.groups.toList.all fun g => decide (g.resting = none ∨ 13 ≤ g.steps) then
    if a.groups.toList.any fun g => decide (13 ≤ g.steps) then
      s.onAdc ch fun a => { a with passes := satInc 32 a.passes, groups := vmap a.groups fun g => { g with steps := 0 } }
    else s
  else s

/-- The plausibility checks of Table 3.6 on new trims against the current ones; the bandwidth check is for slices
only, since a sub-DAC has no such trim. -/
def plausible (old new : Trims) (withBandwidth : Bool) : Bool :=
  let near := fun (a b d : Nat) => decide (a ≤ b + d ∧ b ≤ a + d)
  let inside := fun (a top : Nat) => decide (0 < a ∧ a < top)
  inside new.offset 255 && inside new.gain 255 && inside new.skew 1023 && near new.offset old.offset 16 &&
    near new.gain old.gain 16 && near new.skew old.skew 64 &&
    (!withBandwidth || (inside new.bandwidth 63 && near new.bandwidth old.bandwidth 4))

/-- The parallel-window comparison of Table 3.6; the differences are magnitudes in 0.01 LSB (DEDUCED, log entry 54). -/
def windowPasses (meanDiff rmsDiff : Nat) : Bool := decide (meanDiff ≤ 25 ∧ rmsDiff ≤ 50)

/-- When a parallel window that began at `since` has its 4,096 samples: a gain step on the channel restarts it (R106). -/
def State.windowEnd (s : State) (ch : Fin 4) (since : Nat) : Nat := max since s.cnv.gainAt[ch] + s.windowUs

/-- The gains become `want`, one step of 0.5 dB after another: the steps are counted, and a channel that has stepped has fresh windows
and is no longer at its limit (R106, R115 to R117). -/
def setGains (want : Vector Nat 4) (s : State) : State :=
  let steps := ((indices 4).map fun c => (want[c] - s.cnv.gains[c]) + (s.cnv.gains[c] - want[c])).sum
  { s with
    cnv.gains := want
    cnv.agcSteps := satInc 32 s.cnv.agcSteps steps
    cnv.atLimit := s.cnv.atLimit &&& BitVec.ofNat 4 ((indices 4).map fun c => if want[c] = s.cnv.gains[c] then 2 ^ c.val else 0).sum
    cnv.gainAt := vgen 4 fun c => if want[c] = s.cnv.gains[c] then s.cnv.gainAt[c] else s.now }

/-- Calibration may run: the channels are released, or a pass runs, and the device is in P0 or P1 (Table 3.7). -/
def State.calibrating (s : State) : Bool := !s.cnv.initCal && decide (s.deviceState ≤ 1)

/-- `ROTATION_STEP` (R91 step 1): calibration of the resting slice starts from its current trims. In the background it
starts one rotation interval after the last one; in a forced pass at once (R101). -/
def execRotationStep (ch : Fin 4) (grp : Fin 12) (s : State) : Result :=
  let g := s.group ch grp
  let start := fun (s : State) => s.onGroup ch grp fun g => { g with phase := .calibrating, stepAt := s.now }
  if s.calibrating = false ∨ g.phase ≠ .idle ∨ g.resting = none ∨ s.cnv.adcs[ch].running = false then .next s
  else if 0 < g.passLeft then .next (start s)
  else if s.cfgB Param.calBackgroundEnable ∧ s.cnv.forcedPass = false then
    .next (start (s.reach (g.stepAt + s.cfgN Param.calRotationIntervalMs * 1000)))
  else .next s

/-- The slice that a group is calibrating: the resting one, or in a forced step the one out of service (R102). -/
def State.underCal (s : State) (ch : Fin 4) (grp : Fin 12) : Option Nat :=
  match s.cnv.forcedAt with
  | some (c, g, k) => if c = ch ∧ g = grp then (s.group ch grp).active[k]? else (s.group ch grp).resting
  | none => (s.group ch grp).resting

/-- The group is in its forced step (R102). -/
def State.inForcedStep (s : State) (ch : Fin 4) (grp : Fin 12) : Bool :=
  match s.cnv.forcedAt with
  | some (c, g, _) => decide (c = ch ∧ g = grp)
  | none => false

/-- A slice of a forced step returns to service: the next one goes out, or the step ends (R102) (DEDUCED, log entry 54). -/
def forcedNext (ch : Fin 4) (grp : Fin 12) (s : State) : State :=
  match s.cnv.forcedAt with
  | none => s
  | some (_, _, k) =>
    if k + 1 < (s.group ch grp).active.length then
      let s := s.onGroup ch grp fun g => { g with phase := .calibrating, stepAt := s.now }
      { s with cnv.forcedAt := some (ch, grp, k + 1) }
    else
      let s := s.onGroup ch grp fun g => { g with phase := .idle }
      let s := s.onAdc ch fun a => { a with forcedStep := false }
      { s with cnv.forcedAt := none, cnv.forcedDone := s.cnv.forcedDone ++ [(ch, grp)] }

/-- A calibration attempt of a group has failed: the slice keeps its trims (R94), and the step ends. -/
def attemptFailed (ch : Fin 4) (grp : Fin 12) (i : Nat) (s : State) : State :=
  let s := sliceFailed ch grp i s
  if s.inForcedStep ch grp then forcedNext ch grp s else stepEnded ch grp s

/-- `SLICE_CAL_DONE` (R92, R93): the result is judged. In the compact configuration the loop has converged; in the full
one 320 µs have gone by and Table 3.6 decides. In a forced step the comparison is made against the interpolated
samples over its window (R106), and the slice returns to service at once (R102); otherwise the new trims are loaded and the parallel window
begins (R91 step 3). -/
def execSliceCalDone (ch : Fin 4) (grp : Fin 12) (r : CalResult) (meanDiff rmsDiff : Nat) (s : State) : Result :=
  match s.underCal ch grp with
  | none => .next s
  | some i =>
    if (s.group ch grp).phase ≠ .calibrating then .next s
    else
      let full := s.cnv.adcs[ch].full
      let forced := s.inForcedStep ch grp
      let ends := (s.group ch grp).stepAt + 320
      let s := if full then s.reach (if forced then s.windowEnd ch ends else ends) else s
      let old := ((s.group ch grp).slice i).trims
      let good := if full then plausible old r.trims true && (!forced || windowPasses meanDiff rmsDiff) else r.converged
      if good = false then .next (attemptFailed ch grp i s)
      else if forced then
        .next (forcedNext ch grp (s.onGroup ch grp fun g => g.onSlice i fun _ => { trims := r.trims, fails := 0 }))
      else
        .next (s.onGroup ch grp fun g =>
          { (g.onSlice i fun x => { x with trims := r.trims }) with phase := .parallel old, windowAt := s.now })

/-- `SLICE_CAL_TIMEOUT` (R92): a convergence loop that has not ended within `slice_timeout_us` fails. -/
def execSliceCalTimeout (ch : Fin 4) (grp : Fin 12) (s : State) : Result :=
  match s.underCal ch grp with
  | none => .next s
  | some i =>
    if (s.group ch grp).phase ≠ .calibrating ∨ s.cnv.adcs[ch].full then .next s
    else
      .next (attemptFailed ch grp i (s.reach ((s.group ch grp).stepAt + s.cfgN Param.calSliceTimeoutUs)))

/-- `SLICE_SWAP` (R91 step 4, R93, R106): after the parallel window the multiplexer switches, unless in the full
configuration the comparison fails, when the slice takes back its previous trims (R94). -/
def execSliceSwap (ch : Fin 4) (grp : Fin 12) (meanDiff rmsDiff : Nat) (s : State) : Result :=
  let g := s.group ch grp
  match g.phase, g.resting with
  | .parallel old, some i =>
    let s := s.reach (s.windowEnd ch g.windowAt)
    if s.cnv.adcs[ch].full && !windowPasses meanDiff rmsDiff then
      .next (attemptFailed ch grp i (s.onGroup ch grp fun g => g.onSlice i fun x => { x with trims := old }))
    else
      .next (stepEnded ch grp (s.onGroup ch grp fun g =>
        let g := g.onSlice i fun x => { x with fails := 0 }
        { g with
          resting := g.active[g.next]?
          active := g.active.set g.next i
          next := if g.active.length ≤ g.next + 1 then 0 else g.next + 1 }))
  | _, _ => .next s

/-! ### The observation receiver (R108 to R111) -/

/-- `MUTED`: the channel is held at mid-scale by `MUTE`, by initial calibration, by a safe-state force (R107, R111), or
while TXD restarts after a reset (R197). -/
def State.dacMuted (s : State) (ch : Fin 4) : Bool :=
  s.cnv.dacs[ch].muteCommand || s.cnv.dacs[ch].initCal || s.clk.safeState || s.txd.restartMute

/-- The DAC channel of sub-DAC `k` of the 16. -/
def dacOf (k : Nat) : Fin 4 := ⟨k / 4 % 4, Nat.mod_lt _ (by decide)⟩

/-- The first of the 16 sub-DACs from `k` on, in the order of the turn, whose channel is not muted; `none` if no such is left in the pass
(R108, R111) (DEDUCED, log entry 55). -/
def State.unmutedFrom (s : State) (k : Nat) : Option Nat :=
  (List.range 16).find? fun n => decide (k ≤ n) && !s.dacMuted (dacOf n)

/-- `CNV.OBS` is enabled and has no fault (R110). -/
def State.obsServes (s : State) : Bool := s.cfgB Param.obsEnable && !s.cnv.obsFault

/-- A calibration of a sub-DAC is in progress: one whose channel is muted has stopped (R111). -/
def State.obsRunning (s : State) : Bool := s.cnv.obsActive && !s.dacMuted (dacOf s.cnv.obsSub)

/-- A forced pass still owes sub-DAC calibrations; muted channels owe none (R108, R111). -/
def State.dacOwed (s : State) : Bool := s.obsServes && (s.unmutedFrom (16 - s.cnv.dacPassLeft)).isSome

/-- `PASSES` of the DAC channels of a completed pass: of those that are not muted (DEDUCED, log entry 55). -/
def countDacPass (s : State) : State :=
  { s with cnv.dacs := vgen 4 fun c =>
      let d := s.cnv.dacs[c]
      if d.running && s.obsServes && !s.dacMuted c then { d with passes := satInc 32 d.passes } else d }

/-- A background pass over the sub-DACs is complete (R108). -/
def endDacPass (s : State) : State := countDacPass { s with cnv.obsNext := 0, cnv.obsBegun := false }

/-- `CNV.OBS` starts on sub-DAC `n`. At the start of a pass it measures its reference: outside its limits, DAC calibration stops and the
DACs keep their trims (R110). -/
def observe (n : Nat) (forced first refOk : Bool) (s : State) : State :=
  if first && !refOk then raise 88 { s with cnv.obsFault := true, cnv.obsActive := false, cnv.dacPassLeft := 0 }
  else { s with
    cnv.obsSub := n
    cnv.obsForced := forced
    cnv.obsChannel := n / 4
    cnv.obsActive := true
    cnv.obsStepAt := s.now
    cnv.dacPassLeft := if forced then 16 - n else s.cnv.dacPassLeft
    cnv.dacPassBegun := forced || s.cnv.dacPassBegun
    cnv.obsNext := if forced then s.cnv.obsNext else n
    cnv.obsBegun := !forced || s.cnv.obsBegun }

/-! ### Forced passes (R100 to R104) -/

/-- Start a forced pass over all eight channels (R100, R101): a new reference temperature, `EV084`, thirteen steps for
every group with a spare, and the sixteen sub-DACs. A rotation step in flight is the first of the thirteen (DESIGN CHOICE, log entry 98).
A pass that starts without `CNV.OBS` has no DAC part, whatever is committed before it ends (DESIGN CHOICE, log entry 55). -/
def startPass (s : State) : State :=
  let dacs := s.cfgB Param.obsEnable && !s.cnv.obsFault
  raise 84 { s with
    cnv.forcedPass := true
    cnv.refTemp := s.cnv.reading
    cnv.skipRaised := false
    cnv.forcedDone := []
    cnv.dacPassLeft := if dacs then 16 else 0
    cnv.dacPassBegun := false
    cnv.adcs := vmap s.cnv.adcs fun a =>
      { a with groups := vmap a.groups fun g => { g with passLeft := if a.running && g.resting.isSome then 13 else 0 } } }

/-- A request for a forced pass: it starts, is queued behind the pass that runs, or is held until the exit from P2 or P3
(Table 3.7). During initial calibration it is held until the calibration ends (DEDUCED, log entry 55). -/
def requestPass (s : State) : State :=
  if s.deviceState = 4 then s
  else if s.calibrating = false then { s with cnv.passPendingExit := true }
  else if s.cnv.forcedPass then { s with cnv.passQueued := true }
  else startPass s

/-- The exit from P2, P3 or initial calibration starts a pass that was held (Table 3.7) (DEDUCED, log entry 55). -/
def startHeldPass (s : State) : State :=
  if s.cnv.passPendingExit && s.calibrating then
    let s := { s with cnv.passPendingExit := false }
    if s.cnv.forcedPass then { s with cnv.passQueued := true } else startPass s
  else s

/-- `TEMP_READ` (R100): once per millisecond the reading of the converter-area sensor is compared with the reference
temperature. Temperatures are in 0.125 °C. -/
def execTempRead (s : State) : Result :=
  let t := s.pwr.temps[(0 : Fin 8)]
  let s := { s with cnv.reading := t }
  if s.cnv.initCal = false ∧ (s.cfgN Param.calTempThresholdCX10 : Int) * 8 < 10 * ((t - s.cnv.refTemp).natAbs : Int) then
    .next (requestPass s)
  else .next s

/-- `FORCE_PASS` (R100): a write of 1 to `CAL_FORCE` has the effect of a crossing. -/
def execForcePass (seat : SeatId) (s : State) : Result :=
  whenOpen seat ⟨5, 9, 0⟩ true (.forcePass seat) s <|
  .next (unitWrite seat ⟨5, 9, 0⟩ s requestPass)

/-- Every group of the pass with a spare has ended its rotation (R102). -/
def State.rotationsEnded (s : State) : Bool :=
  s.cnv.adcs.toList.all fun a => a.groups.toList.all fun g => decide (g.passLeft = 0 ∧ g.phase = .idle)

/-- The groups with no spare left that the pass has not yet recalibrated, in the order channel, group (R102). -/
def State.exhausted (s : State) : List (Fin 4 × Fin 12) :=
  (indices 4).flatMap fun c =>
    if s.cnv.adcs[c].running && s.cnv.adcs[c].full then
      ((indices 12).filter fun g => (s.group c g).retired.isSome && !s.cnv.forcedDone.contains (c, g)).map fun g => (c, g)
    else []

/-- A pass with `forced_step_enable` = 0 skips the groups with no spare left and says so once (R104). -/
def skipExhausted (s : State) : State :=
  let todo := s.exhausted
  if todo = [] then s
  else
    let s1 := { s with cnv.forcedDone := s.cnv.forcedDone ++ todo, cnv.skipRaised := true }
    if s.cnv.skipRaised then s1 else raise 86 s1

/-- `FORCED_STEP_START` (R102): once the other rotations have ended, the next group with no spare left starts its
forced step, or is skipped. -/
def execForcedStepStart (s : State) : Result :=
  if s.cnv.forcedPass = false ∨ s.calibrating = false ∨ s.rotationsEnded = false ∨ s.cnv.forcedAt ≠ none then .next s
  else if s.cfgB Param.calForcedStepEnable = false then .next (skipExhausted s)
  else match s.exhausted with
    | [] => .next s
    | (c, g) :: _ =>
      let s := s.onGroup c g fun x => { x with phase := .calibrating, stepAt := s.now }
      let s := s.onAdc c fun a => { a with forcedStep := true }
      .next (raiseAt 85 c.val 0 { s with cnv.forcedAt := some (c, g, 0) })

/-- Complete a forced pass (R100): the pass counters increase, those of the DACs if the pass has had a DAC part, and a queued pass starts. A
calibration of the pass on a muted sub-DAC ends with it (R111). -/
def endPass (s : State) : State :=
  let s := { s with
    cnv.forcedPass := false
    cnv.obsActive := s.cnv.obsActive && !s.cnv.obsForced
    cnv.dacPassLeft := 0
    cnv.adcs := vmap s.cnv.adcs fun a => if a.running then { a with passes := satInc 32 a.passes } else a }
  let s := if s.cnv.dacPassBegun then countDacPass s else s
  if s.cnv.passQueued then startPass { s with cnv.passQueued := false } else s

/-- `FORCED_PASS_END` (R100): every rotation, every forced step and the DAC part of the pass have ended. -/
def execForcedPassEnd (s : State) : Result :=
  if s.cnv.forcedPass = false ∨ s.rotationsEnded = false ∨ s.cnv.forcedAt ≠ none ∨ s.dacOwed then .next s
  else
    let s := if s.cfgB Param.calForcedStepEnable then s else skipExhausted s
    if s.exhausted = [] then .next (endPass s) else .next s

/-! ### Initial calibration (R107) -/

/-- Cut every running calibration short; the attempt does not count (R95). -/
def stopCalibration (s : State) : State :=
  { s with
    cnv.obsActive := false
    cnv.forcedAt := none
    cnv.adcs := vmap s.cnv.adcs fun a =>
      { a with
        forcedStep := false
        groups := vmap a.groups fun g =>
          match g.phase, g.resting with
          | .parallel old, some i => { (g.onSlice i fun x => { x with trims := old }) with phase := .idle }
          | _, _ => { g with phase := .idle } } }

/-- Cancel a pending or queued forced pass (Table 3.7). -/
def cancelPasses (s : State) : State :=
  { s with
    cnv.forcedPass := false
    cnv.passQueued := false
    cnv.passPendingExit := false
    cnv.dacPassLeft := 0
    cnv.adcs := vmap s.cnv.adcs fun a => { a with groups := vmap a.groups fun g => { g with passLeft := 0 } } }

/-- A forced pass that runs is cut short and held: it runs again when calibration may, and a queued pass stays queued behind it (Table 3.7)
(DEDUCED, log entry 55). -/
def holdPasses (s : State) : State :=
  if s.cnv.forcedPass then
    { cancelPasses s with cnv.passPendingExit := true, cnv.passQueued := s.cnv.passQueued }
  else s

/-- Start an initial calibration of all slices and sub-DACs in the configuration in use (R107) (DEDUCED, log entry 28). The reading at its
start becomes the reference temperature. -/
def startInitCal (s : State) : State :=
  let full := s.fullConfig
  let s := holdPasses (stopCalibration s)
  let s := { s with
    cnv.initCal := true
    cnv.reading := s.pwr.temps[(0 : Fin 8)]
    cnv.refTemp := s.pwr.temps[(0 : Fin 8)]
    cnv.adcs := vmap s.cnv.adcs fun a =>
      { a with running := false, initCal := true, full := full, groups := vmap a.groups fun g => g.layOut full }
    cnv.dacs := vmap s.cnv.dacs fun d => { d with running := false, initCal := true, full := full } }
  overAll (indices 4) judgeNoSpare s

/-- Trims of an ADC channel back to neutral (Table 3.7) (DEDUCED, log entry 28). -/
def Adc.neutral (a : Adc) : Adc :=
  { a with groups := vmap a.groups fun g => { g with slices := vmap g.slices fun _ => {} } }

/-- Trims of a DAC channel back to neutral (Table 3.7) (DEDUCED, log entry 28). -/
def Dac.neutral (d : Dac) : Dac := { d with subs := vmap d.subs fun _ => {} }

/-- One slice's outcome of the initial calibration: a retired slice has none; its failed attempts count one by one; a slice that fails three times
in a group that has retired one stays on neutral codes (R107). Failures before the initial calibration do not add to its three attempts
(DESIGN CHOICE, log entry 28). -/
def initCalSlice (x : InitCalItem) (s : State) : State :=
  let grp : Fin 12 := ⟨x.member / 13 % 12, Nat.mod_lt _ (by decide)⟩
  let i := x.member % 13
  if (s.group x.channel grp).retired = some i then s else
  let s := (List.range (min 3 x.failed)).foldl (fun s _ => sliceFailed x.channel grp i s)
    (s.onGroup x.channel grp fun g => g.onSlice i fun y => { y with fails := 0 })
  s.onGroup x.channel grp fun g => g.onSlice i fun _ =>
    if 3 ≤ x.failed then { trims := {}, fails := 3 } else { trims := x.trims, fails := 0 }

/-- One sub-DAC's outcome of the initial calibration (R107, R109). -/
def initCalDac (x : InitCalItem) (s : State) : State :=
  let k : Fin 4 := ⟨x.member % 4, Nat.mod_lt _ (by decide)⟩
  let n := min 3 x.failed
  let s := (List.range n).foldl (fun s _ => raiseAt 80 (4 + x.channel.val) 0 s) s
  let s := s.onDac x.channel fun d =>
    { d with
      fails := satInc 32 d.fails n
      subs := vmod d.subs k fun y =>
        if n = 3 then { y with fails := 3, oldTrim := true } else { trims := x.trims, fails := 0, oldTrim := false } }
  if n = 3 then raiseAt 87 (4 + x.channel.val) 0 s else s

/-- The end of initial calibration inside CNV (R107): the outcomes, `EV093`, and the release of the channels. -/
def endInitCal (adcs dacs : List InitCalItem) (s : State) : State :=
  let s := adcs.foldl (fun s x => initCalSlice x s) s
  let s := dacs.foldl (fun s x => initCalDac x s) s
  let full := s.fullConfig
  let s := { s with
    cnv.initCal := false
    cnv.obsNext := 0
    cnv.obsBegun := false
    cnv.obsStepAt := s.now
    cnv.adcs := vmap s.cnv.adcs fun a =>
      { a with running := true, initCal := false, groups := vmap a.groups fun g => { g.layOut full with stepAt := s.now } }
    cnv.dacs := vmap s.cnv.dacs fun d => { d with running := true, initCal := false } }
  startHeldPass (raise 93 s)

/-! ### DAC calibration (R108 to R111) -/

/-- `DAC_CAL_STEP` (R108): `CNV.OBS` starts on the next sub-DAC. At the start of each pass it measures its internal
reference; outside its limits DAC calibration stops for good (R110). In the background a turn that finds only muted channels ahead of it ends
the pass and begins the next. -/
def execDacCalStep (refOk : Bool) (s : State) : Result :=
  let forced := decide (0 < s.cnv.dacPassLeft)
  if s.calibrating = false ∨ s.obsServes = false ∨ s.obsRunning then .next s
  else if forced then
    match s.unmutedFrom (16 - s.cnv.dacPassLeft) with
    | none => .next { s with cnv.dacPassLeft := 0 }
    | some n => .next (observe n true (!s.cnv.dacPassBegun) refOk s)
  else if s.cfgB Param.calBackgroundEnable = false then .next s
  else
    let s := s.reach (s.cnv.obsStepAt + s.cfgN Param.calRotationIntervalMs * 1000)
    let s := if s.cnv.obsBegun && (s.unmutedFrom s.cnv.obsNext).isNone then endDacPass s else s
    match s.unmutedFrom s.cnv.obsNext with
    | none => .next s
    | some n => .next (observe n false (!s.cnv.obsBegun) refOk s)

/-- `DAC_CAL_DONE` (R108, R109): the trims are loaded, or kept and counted, and the turn passes on. Calibration of a channel that is muted
now has stopped (R111). -/
def execDacCalDone (r : CalResult) (s : State) : Result :=
  if s.obsRunning = false then .next s
  else
    let ch := dacOf s.cnv.obsSub
    let k : Fin 4 := ⟨s.cnv.obsSub % 4, Nat.mod_lt _ (by decide)⟩
    let d := s.cnv.dacs[ch]
    let sub := d.subs[k]
    let good := if d.full then plausible sub.trims r.trims false else r.converged
    let s := if good then s.onDac ch fun d => { d with subs := vmod d.subs k fun _ => { trims := r.trims } }
      else
        let s := s.onDac ch fun d =>
          { d with
            fails := satInc 32 d.fails
            subs := vmod d.subs k fun x => { x with fails := x.fails + 1, oldTrim := true } }
        let s := raiseAt 80 (4 + ch.val) 0 s
        if sub.fails + 1 = 3 then raiseAt 87 (4 + ch.val) 0 s else s
    let s := { s with cnv.obsActive := false }
    if s.cnv.obsForced then .next { s with cnv.dacPassLeft := if s.cnv.dacPassLeft = 0 then 0 else 15 - s.cnv.obsSub }
    else if (s.unmutedFrom (s.cnv.obsSub + 1)).isNone then .next (endDacPass s)
    else .next { s with cnv.obsNext := s.cnv.obsSub + 1 }

/-- Mute or unmute a DAC channel (R111): calibration of a muted channel stops and resumes after unmute. -/
def muteDac (ch : Fin 4) (on : Bool) (s : State) : State := s.onDac ch fun d => { d with muteCommand := on }

/-! ### Clipping (R120, R121) -/

/-- `ADC_CLIP_CHECK` (R121): the samples clipped in a window of 1 ms are counted; more than 1 in 10,000 raises
`EV091`. -/
def execAdcClipCheck (ch : Fin 4) (clipped total : Nat) (s : State) : Result :=
  let s := s.onAdc ch fun a => { a with clips := satInc 32 a.clips clipped }
  .next (if total < 10000 * clipped then raiseAt 91 ch.val 0 s else s)

/-- `ADC_CLIP_COUNT_READ` (R11, R120): the read returns the count and clears it. -/
def execAdcClipCountRead (seat : SeatId) (ch : Fin 4) (s : State) : Result :=
  whenOpen seat ⟨5, ch.val, 0⟩ false (.adcClipCountRead seat ch) s <|
  if s.clk.mgmtStopped then .next s
  else if s.resetRequired ⟨5, ch.val, 0⟩ then .next (readReturns seat 0 s)
  else
    let s1 := readReturns seat s.cnv.adcs[ch].clips s
    .next (s1.onAdc ch fun a => { a with clips := 0 })

/-! ### Resets and power states (Table 3.7) -/

/-- `CNV.OBS` is reset and measures its reference: a passing check clears `FAULT`, a failing one sets it (R110). -/
def resetObs (checkOk : Bool) (s : State) : State :=
  let s := { s with cnv.obsFault := !checkOk, cnv.obsChannel := 0 }
  if checkOk then s else raise 88 s

/-- A Unit reset inside CNV (R107, Table 3.7). `checkOk` is the outcome of the reference check of `CNV.OBS` (DEDUCED, log entry 55). A reset
of `AGC` also clears `HELD`, `AT_LIMIT` and `STEPS`, and one of a channel keeps its `PASSES` and `CLIPS` (DESIGN CHOICE, log entry 98). -/
def resetCnvUnit (unit : Nat) (checkOk : Bool) (s : State) : State :=
  match h : decide (unit < 4) with
  | true =>
    let ch : Fin 4 := ⟨unit, of_decide_eq_true h⟩
    startInitCal (s.onAdc ch fun a => { a.neutral with fails := 0 })
  | false =>
    if unit < 8 then
      startInitCal (s.onDac ⟨unit % 4, Nat.mod_lt _ (by decide)⟩ fun d =>
        { d.neutral with fails := 0, muteCommand := false })
    else if unit = 8 then startInitCal (resetObs checkOk s)
    else if unit = 9 then
      cancelPasses (stopCalibration { s with cnv.refTemp := s.cnv.reading })
    else { setGains (Vector.replicate 4 12) s with cnv.held := 0, cnv.atLimit := 0, cnv.agcSteps := 0 }

/-- A Section reset of CNV (Table 3.7). -/
def resetCnv (checkOk : Bool) (s : State) : State :=
  let s := { setGains (Vector.replicate 4 12) s with
    cnv.adcs := vmap s.cnv.adcs fun a => { a.neutral with fails := 0 }
    cnv.dacs := vmap s.cnv.dacs fun d => { d.neutral with fails := 0, muteCommand := false }
    cnv.held := 0
    cnv.atLimit := 0
    cnv.agcSteps := 0 }
  startInitCal (cancelPasses (stopCalibration (resetObs checkOk s)))

/-- CNV on entry into a power state: background calibration stops in P2 and deeper, and P4 cancels the passes (R95,
Table 3.7). -/
def cnvEnter (device : Nat) (s : State) : State :=
  if device ≤ 1 then s
  else
    let s := stopCalibration s
    if device = 4 then cancelPasses s
    else holdPasses s

/-- CNV on exit from a power state: initial calibration after P4, and a held pass at once after P2 and P3. -/
def cnvExit (left : Nat) (s : State) : State := if left = 4 then startInitCal s else startHeldPass s

/-- CNV after a commit: a new sample rate brings an initial calibration, a new configuration `EV092` on each ADC channel
(R86, R87); manual gains step towards their values (R117). -/
def cnvCommitted (oldKBd : Nat) (s : State) : State :=
  let s :=
    if sampleRateOf oldKBd = sampleRateOf s.symbolRate then s
    else
      let changed := decide (fullAt (sampleRateOf oldKBd) ≠ s.fullConfig)
      let s := startInitCal s
      if changed then overAll (indices 4) (fun c s => raiseAt 92 c.val 0 s) s else s
  if s.cfg Param.agcMode = 2 then
    setGains (vgen 4 fun c => s.cfgN Param.agcManualGainDbX2 0 c.val) s
  else s

end Sys2Proof.Machine
end

