-- ==== Sys2Proof/Machine/TimingOps.lean ====
section
/-!
DEFINITION. The shared operations of TIM: slots, qualification, selection, holdover and device time (R385 to R405).
-/
namespace Sys2Proof.Machine

/-- A slot number, and the two kinds that a slot may carry (R385). -/
abbrev SlotId := Fin 8
inductive Kind where
  | freq
  | phase
deriving DecidableEq, Repr

/-- A slot, and a change of it. -/
def State.tslot (s : State) (n : SlotId) : Slot := s.tim.slots[n]
def State.onTslot (s : State) (n : SlotId) (f : Slot → Slot) : State := { s with tim.slots := vmod s.tim.slots n f }

/-- The hold-off of a kind, and whether one runs (R391). -/
def Slot.hold (q : Slot) : Kind → Option Nat
  | .freq => q.holdF
  | .phase => q.holdP
def Slot.held (q : Slot) : Bool := q.holdF.isSome || q.holdP.isSome

/-- Whether the step to the next whole number is taken, for a quantity whose rounding the rules do not state (DESIGN CHOICE, log entry 17). -/
def roundFree (num den : Nat) : Nat := num / den + if num % den ≠ 0 ∧ Config.roundsUp num den then 1 else 0

/-- The nearest whole number to `num`/`den`; which of two equally near ones is free (DESIGN CHOICE, log entry 18). -/
def roundNearest (num : Int) (den : Nat) : Int :=
  let d : Int := den
  let up := (2 * num + d) / (2 * d)
  if (2 * num + d) % (2 * d) = 0 ∧ Config.tieUp num den = false then up - 1 else up

/-- PTP is enabled on the port of slot 6 or 7 (R385). -/
def State.ptpOn (s : State) (i : Fin 2) : Bool := s.cfgB Param.ppsPtpEnable 0 i.val

/-- The slot carries the kind (Table 12.2). -/
def State.carries (s : State) (n : SlotId) : Kind → Bool
  | .freq => decide (n.val ≠ 5)
  | .phase => decide (n.val = 5) || (decide (n.val = 6) && s.ptpOn 0) || (decide (n.val = 7) && s.ptpOn 1)

/-- The slot has activity of the kind. -/
def Slot.active (q : Slot) : Kind → Bool
  | .freq => q.actF
  | .phase => q.actP

/-- The slot has activity: of any kind that it carries (R388). -/
def State.slotActive (s : State) (n : SlotId) : Bool :=
  (s.carries n .freq && (s.tslot n).actF) || (s.carries n .phase && (s.tslot n).actP)

/-- The soft limit in parts per 10^12. -/
def State.softLimit (s : State) : Nat := s.cfgN Param.rslSoftLimitPpb * 1000

/-- The hard offset lies within ±50 ppm (R388). -/
def Slot.hardOk (q : Slot) : Bool := q.measured && decide (q.hard.natAbs ≤ 50000000)

/-- The soft offset has not reached the soft limit (R388; the worked example of chapter 12 counts the limit itself as
crossed) (DEDUCED, log entry 46). -/
def State.softOk (s : State) (n : SlotId) : Bool :=
  (s.tslot n).measured && decide ((s.tslot n).soft.natAbs < s.softLimit)

/-- The priority of a slot. -/
def State.slotPriority (s : State) (n : SlotId) : Nat := s.cfgN Param.rslPriority 0 n.val

/-- The slot is available (R389) (DEDUCED, log entry 46). -/
def State.available (s : State) (n : SlotId) : Bool :=
  let q := s.tslot n
  q.qualified && q.wtrAt.isNone && decide (s.slotPriority n ≠ 0)

/-- The slot is available for a selection of the kind: it carries the kind, and has its activity or is in hold-off for it. -/
def State.availableFor (s : State) (k : Kind) (n : SlotId) : Bool :=
  s.available n && s.carries n k && ((s.tslot n).active k || ((s.tslot n).hold k).isSome)

/-! ### Selection (R390, R392) -/

/-- The best of the available slots: lowest priority number, then lowest slot number. -/
def bestSlot (prio : SlotId → Nat) : List SlotId → Option SlotId
  | [] => none
  | n :: ns =>
    match bestSlot prio ns with
    | none => some n
    | some m => if prio m < prio n then some m else some n

/-- One selection of R390: `avail` in ascending number. -/
def choose (mode : Nat) (forced : Nat) (revertive : Bool) (prio : SlotId → Nat) (cur : Option SlotId)
    (avail : List SlotId) : Option SlotId :=
  if mode = 1 then avail.find? fun n => decide (n.val = forced)
  else if 2 ≤ mode then none
  else
    match cur.filter fun c => avail.contains c && (!revertive || !(avail.any fun n => decide (prio n < prio c))) with
    | some c => some c
    | none => bestSlot prio avail

/-- The selection of a kind. A selected slot stays selected during its hold-off for the kind (R391, R392). -/
def State.selected (s : State) (k : Kind) (cur : Option SlotId) : Option SlotId :=
  match cur.filter fun c => ((s.tslot c).hold k).isSome with
  | some c => some c
  | none =>
    choose (s.cfgN Param.rslSelectMode) (s.cfgN Param.rslForcedSlot) (s.cfgB Param.rslRevertive) s.slotPriority cur
      ((indices 8).filter (s.availableFor k))

/-! ### Base and disagreement (R386, R393, R404) -/

/-- `XTAL_B` is qualified (R386). -/
def State.xtalBQualified (s : State) : Bool :=
  s.cfgB Param.rslXtalBUse && s.clk.ready.getLsbD 3 && decide (s.tim.xtalBPpt.natAbs ≤ 100000000) &&
    s.tim.xtalBAt.any fun t => decide (t + s.cfgN Param.rslXtalBWarmupS * usPerS ≤ s.now)

/-- `PPS_OUT` and `CLKOUT_A/B` are driven where enabled: they are low until step 8 of start-up, and while squelched (R403, R532)
(DEDUCED, log entry 32). -/
def State.syncOut (s : State) : Bool := decide (8 ≤ s.mgt.seq.step) && !s.tim.squelched

/-- `PPS_OUT` goes low, if it is high. -/
def ppsLow (s : State) : State := if s.tim.ppsHigh then ({ s with tim.ppsHigh := false }).send (.pps false) else s

/-- The outputs of the sync class are squelched if the expiry action says so: they are held low (R403). -/
def squelch (s : State) : State :=
  if s.cfg Param.hldExpiryAction = 1 then ppsLow { s with tim.squelched := true } else s

/-- The limit of R403 is reached (DEDUCED, log entry 46). -/
def reachLimit (s : State) : State :=
  if s.tim.holdover = false ∨ s.tim.limit = true then s else squelch (raise 54 { s with tim.limit := true })

/-- Judge the measurement base (R386): a change restarts running soaks; the loss of `XTAL_B` in holdover reaches the
limit (R404). -/
def judgeBase (s : State) : State :=
  let q := s.xtalBQualified
  if q = s.tim.baseB then s
  else
    let s := raise 57 { s with tim.baseB := q, tim.slots := vmap s.tim.slots fun x => { x with soakAt := x.soakAt.map fun _ => s.now } }
    if q then s else reachLimit s

/-- The soft offsets of two slots differ by more than a limit. -/
def State.apart (s : State) (a b : SlotId) (limit : Nat) : Bool :=
  decide (limit < ((s.tslot a).soft - (s.tslot b).soft).natAbs)

/-- The pair is available at equal priority. -/
def State.peers (s : State) (a b : SlotId) : Bool :=
  s.available a && s.available b && decide (s.slotPriority a = s.slotPriority b)

/-- Which slot of a pair deviates (R393): 1 the first, 2 the second, 3 unresolved. -/
def State.deviant (s : State) (a b : SlotId) : Nat :=
  let x := (s.tslot a).soft.natAbs
  let y := (s.tslot b).soft.natAbs
  if s.tim.baseB = false then 3 else if y < x then 1 else if x < y then 2 else 3

/-- Evaluate the disagreement of peers (R393): a pair stays until the difference falls to 0.8 of the limit. -/
def judgePeers (s : State) : State :=
  let keep := s.tim.disagree.filter fun d =>
    let a : SlotId := ⟨d.a % 8, Nat.mod_lt _ (by decide)⟩
    let b : SlotId := ⟨d.b % 8, Nat.mod_lt _ (by decide)⟩
    s.peers a b && s.apart a b (s.softLimit * 4 / 5)
  match keep with
  | some d =>
    { s with tim.disagree := some { d with deviant := s.deviant ⟨d.a % 8, Nat.mod_lt _ (by decide)⟩ ⟨d.b % 8, Nat.mod_lt _ (by decide)⟩ } }
  | none =>
    let pairs := (indices 8).flatMap fun a => ((indices 8).filter fun b => decide (a < b)).map fun b => (a, b)
    match pairs.find? fun p => s.peers p.1 p.2 && s.apart p.1 p.2 s.softLimit with
    | some p => raise 56 { s with tim.disagree := some ⟨p.1.val, p.2.val, s.deviant p.1 p.2⟩ }
    | none => { s with tim.disagree := none }

/-! ### What a selection does (R396, R399, R400, R402) -/

/-- The mean of the last `avg_s` history entries, in parts per 10^12 (R402). -/
def State.historyMean (s : State) : Int :=
  let es := (s.tim.history.take (s.cfgN Param.hldAvgS)).map Prod.snd
  let sum := es.foldl (· + ·) 0
  let n := es.length
  if n = 0 then 0 else sum / (n : Int) + (if sum % (n : Int) ≠ 0 ∧ Config.meanRoundsUp sum n then 1 else 0)

/-- The sync class enters free run (R402) (DEDUCED, log entry 49). -/
def syncFreeRun (s : State) : State :=
  if s.tim.syncState = 0 then s
  else raiseAt 53 2 0 { s with tim.syncState := 0, tim.syncFreq := 0, tim.holdover := false, tim.limit := false, tim.squelched := false }

/-- The sync class enters holdover (R402). -/
def enterHoldover (s : State) : State :=
  if s.tim.holdover then s
  else
    let m := s.historyMean
    raise 51 { s with tim.syncState := 3, tim.holdover := true, tim.holdAt := s.now, tim.limit := false, tim.mean := m, tim.syncFreq := m }

/-- What the sync class does with an empty frequency selection: forced free run, holdover with at least 16 entries, or
free run (R402). -/
def syncWithout (s : State) : State :=
  if s.cfg Param.rslSelectMode = 3 then syncFreeRun s
  else if s.tim.holdover then s
  else if 16 ≤ s.tim.history.length then enterHoldover s
  else syncFreeRun s

/-- Holdover or free run ends: a slot is selected (R402). -/
def syncWith (s : State) : State :=
  let was := s.tim.syncState
  let s := { s with tim.syncState := 1, tim.holdover := false, tim.limit := false, tim.squelched := false,
                    tim.entryAt := some (s.tim.entryAt.getD s.now) }
  if was = 0 ∨ was = 3 then raise 52 s else s

/-- `DPL_LINE_FREQ`: in free run the correction ramps to zero at 0.1 ppm per ms (R396). -/
def State.lineFreqNow (s : State) : Int :=
  match s.tim.rampAt with
  | none => s.tim.lineFreq
  | some t =>
    let left := (s.tim.lineFreq.natAbs - (s.now - t) * 100 : Nat)
    if s.tim.lineFreq < 0 then -(left : Int) else left

/-- The line channel follows the frequency selection, or runs free (R396). In P4 the line channel is off (Table 12.6). -/
def lineFollows (moved : Bool) (s : State) : State :=
  if s.tim.selF.isSome ∧ s.cfgB Param.dplLineFollow = true ∧ s.deviceState ≠ 4 then
    if s.tim.lineState = 0 ∨ moved then { s with tim.lineState := 1, tim.lineFreq := s.lineFreqNow, tim.rampAt := none }
    else s
  else if s.tim.lineState = 0 then s
  else raiseAt 53 1 0 { s with tim.lineState := 0, tim.rampAt := some s.now }

/-- Phase hold: the phase selection is empty while the frequency selection is not (R399) (DEDUCED, log entry 49). -/
def judgePhaseHold (s : State) : State :=
  let h := s.tim.selP.isNone && s.tim.selF.isSome
  let s1 := { s with tim.phaseHold := h }
  if h && !s.tim.phaseHold then raise 58 s1 else s1

/-- Run the selector (R390): both selections over the final state, then what follows from them. -/
def selectorRun (s : State) : State :=
  let f := s.selected .freq s.tim.selF
  let p := s.selected .phase s.tim.selP
  let movedF := decide (f ≠ s.tim.selF)
  let movedP := decide (p ≠ s.tim.selP)
  let s := { s with tim.selF := f, tim.selP := p, tim.phaseLocked := s.tim.phaseLocked && !movedP }
  let s := if movedF then raise 50 s else s
  let s := if movedP then raise 50 s else s
  let s := lineFollows movedF s
  let s := if f.isSome then (if movedF ∨ s.tim.syncState = 0 ∨ s.tim.syncState = 3 then syncWith s else s)
           else syncWithout { s with tim.entryAt := none }
  judgePeers (judgePhaseHold s)

/-! ### Qualification (R388, R389, R400) -/

/-- Discard history as the selected frequency slot is disqualified (R400). -/
def discardHistory (soft : Bool) (s : State) : State :=
  let cut := s.now - s.cfgN Param.hldGuardS * usPerS
  let gone := if soft then (s.tim.history.filter fun e => decide (cut < e.1)).length else 0
  let part := (s.tim.entryAt.map fun t => s.now - t).getD 0
  raise 55 { s with
    tim.history := s.tim.history.drop gone
    tim.entryAt := none
    tim.discardedTenths := min 65535 ((part + gone * usPerS) / 100000)
    tim.discards := satInc 16 s.tim.discards }

/-- The soak of a slot starts when its conditions hold, and stops when they do not (R388). -/
def judgeSoak (n : SlotId) (s : State) : State :=
  let q := s.tslot n
  let ok := s.slotActive n && q.hardOk && s.softOk n
  if q.qualified then s
  else s.onTslot n fun q => { q with soakAt := if ok then some (q.soakAt.getD s.now) else none }

/-- Disqualify a slot (R388): a qualified slot is counted and reported, and the selected frequency slot discards history; any slot soaks again
(DEDUCED, log entry 46). The selector runs after it (`reselect`). -/
def disqualify (n : SlotId) (soft : Bool) (s : State) : State :=
  if (s.tslot n).qualified = false then judgeSoak n (s.onTslot n fun q => { q with soakAt := none })
  else
    let s := raise 49 (s.onTslot n fun q =>
      { q with qualified := false, everDisq := true, wtrAt := none, holdF := none, holdP := none, soakAt := none
               disquals := satInc 32 q.disquals })
    let s := if s.tim.selF = some n then discardHistory soft s else s
    judgeSoak n s

/-- A slot becomes qualified (R388), and available at once unless it has been disqualified before (R389). -/
def qualify (n : SlotId) (s : State) : State :=
  raise 48 (s.onTslot n fun q =>
    { q with qualified := true, soakAt := none
             wtrAt := if q.everDisq ∧ s.cfg Param.rslWtrS ≠ 0 then some s.now else none })

/-- Between two states a slot's qualification has changed, or a hold-off has ended. -/
def State.requalified (old s : State) : Bool :=
  (indices 8).any fun n =>
    let a := old.tslot n
    let b := s.tslot n
    a.qualified != b.qualified || (a.holdF.isSome && b.holdF.isNone) || (a.holdP.isSome && b.holdP.isNone)

/-- One run of the selector over the final state, if a qualification changed or a hold-off ended (R390, R392, R405). -/
def reselect (old s : State) : State := if old.requalified s then selectorRun s else s

/-! ### Activity (R385, R391, R405) -/

/-- The slot is selected for frequency or for phase. -/
def State.isSelected (s : State) (n : SlotId) : Bool := decide (s.tim.selF = some n) || decide (s.tim.selP = some n)

/-- A slot's activity of one kind is lost (R388, R391): a selected slot starts its hold-off, another one is
disqualified; `now` leaves the hold-off out (domain holdover, Table 12.4). -/
def loseActivity (n : SlotId) (k : Kind) (now : Bool) (s : State) : State :=
  if (s.tslot n).active k = false then (if now ∧ ((s.tslot n).hold k).isSome then disqualify n false s else s)
  else
    let s := s.onTslot n fun q =>
      match k with
      | .freq => { q with actF := false, measured := q.actP && q.measured }
      | .phase => { q with actP := false, measured := q.actF && q.measured }
    if (s.tslot n).qualified = false then judgeSoak n s
    else if now = false ∧ s.isSelected n = true ∧ 0 < s.cfg Param.rslHoldoffMs then
      s.onTslot n fun q =>
        match k with
        | .freq => { q with holdF := some s.now }
        | .phase => { q with holdP := some s.now }
    else disqualify n false s

/-- A slot's activity of one kind returns: its hold-off ends without a switch (R391). -/
def gainActivity (n : SlotId) (k : Kind) (s : State) : State :=
  if (s.tslot n).active k then s
  else
    let held := ((s.tslot n).hold k).isSome
    let s := s.onTslot n fun q =>
      match k with
      | .freq => { q with actF := true, measured := q.measured || held, holdF := none }
      | .phase => { q with actP := true, measured := q.measured || held, holdP := none }
    if held then raise 62 s else judgeSoak n s

/-- The host lane that slot 1 or 2 takes its clock from. -/
def State.slotLane (s : State) (e : Nat) : Fin 16 := ⟨s.cfgN Param.rslHostLane 0 e % 16, Nat.mod_lt _ (by decide)⟩

/-- The lane offers its clock (R358, R385). -/
def State.laneClock (s : State) (e : Nat) : Bool :=
  let l := s.slotLane e
  s.hst.lanes[l].cdr && s.cfgB Param.lnTimingTransparent 0 0 l.val

/-- Bring the frequency activity of a slot into line with its source (DESIGN CHOICE, log entry 47). -/
def followInput (n : SlotId) (on now : Bool) (s : State) : State :=
  if on then gainActivity n .freq s else loseActivity n .freq now s

/-- The sources inside the device: `TRC` (slot 0, lost in P2 to P4), host lanes (slots 1 and 2) and the Tvedry ports
(slots 6 and 7; in domain holdover the phase is lost too); one selector run over the final state (R405). -/
def followInputs (s : State) : State :=
  let old := s
  let s := followInput 0 (s.rxd.trcLocked && decide (s.deviceState < 2)) false s
  let s := followInput 1 (s.laneClock 0) false s
  let s := followInput 2 (s.laneClock 1) false s
  let s := followInput 6 (s.dom.ports[(0 : Fin 2)].link && !s.dom.holdover) s.dom.holdover s
  let s := followInput 7 (s.dom.ports[(1 : Fin 2)].link && !s.dom.holdover) s.dom.holdover s
  reselect old (if s.dom.holdover then loseActivity 7 .phase true (loseActivity 6 .phase true s) else s)

/-! ### Device time (R397, R338) -/

/-- The device time in nanoseconds. -/
def State.deviceNs (s : State) : Nat := s.tim.devS * 1000000000 + s.tim.devNs

/-- Set the device time. -/
def setDeviceNs (t : Nat) (s : State) : State :=
  { s with tim.devS := t / 1000000000 % 2 ^ 48, tim.devNs := t % 1000000000 }

/-- A step or setting of the device time (R397): counted, reported, and marked in the interval in progress (R338). -/
def timeStepped (s : State) : State :=
  let s := raise 59 { s with tim.steps := satInc 32 s.tim.steps, tim.ppsSecond := none }
  raise 197 { s with mon.stepped := true, mon.flagStep := true }

/-- The bandwidth in mHz of a code of Table 12.3 (R394). -/
def bandwidthMhz (code : Nat) : Nat := [1, 10, 100, 1000, 3000, 10000, 100000, 1000000, 4000000].getD code 0

/-- The device time is compared with the selected phase reference (R397): `diffPs` is device time minus reference. A difference up to
`step_limit_ns` passes through the sync channel at its response (R394, R395), a larger one steps once (DEDUCED, log entry 48). While firmware is not
ready the phase loop holds (Table 12.4). -/
def steerTime (diffPs : Int) (s : State) : State :=
  if s.mgt.fwReady = false then s
  else
    let since := s.tim.phaseAt.getD s.now
    let s := { s with tim.phaseErr := clampInt (-(2 ^ 31)) (2 ^ 31 - 1) diffPs, tim.phaseAt := some s.now, tim.phaseLocked := true }
    let moved (ps : Int) := setDeviceNs ((s.deviceNs : Int) + ps / 1000).toNat
    if diffPs.natAbs ≤ s.cfgN Param.ppsStepLimitNs * 1000 then
      let r := Config.loop (bandwidthMhz (s.cfgN Param.dplSyncBw)) (s.now - since) (-diffPs) 0 s.tim.phaseMem
      moved r.1 { s with tim.phaseMem := r.2 }
    else timeStepped (moved (-diffPs) { s with tim.phaseErr := 0 })

/-! ### What the registers show (Table 12.10) -/

/-- Whole seconds left of a time that began at `at_`. -/
def State.secondsLeft (s : State) (at_ : Option Nat) (seconds : Nat) : Nat :=
  (at_.map fun t => roundFree (t + seconds * usPerS - s.now) usPerS).getD 0

/-- `RSL_SLOT_STATUS` of a slot. -/
def State.slotStatus (s : State) (n : SlotId) : Nat :=
  let q := s.tslot n
  fieldAt (bit (s.slotActive n)) 0 1 + fieldAt (bit q.hardOk) 1 1 + fieldAt (bit (s.softOk n)) 2 1 +
    fieldAt (bit q.qualified) 3 1 + fieldAt (bit q.wtrAt.isSome) 4 1 + fieldAt (bit (s.tim.selF = some n)) 5 1 +
    fieldAt (bit (s.tim.selP = some n)) 6 1 + fieldAt (s.secondsLeft q.soakAt (s.cfgN Param.rslSoakS)) 8 10 +
    fieldAt (s.secondsLeft q.wtrAt (s.cfgN Param.rslWtrS)) 18 10 + fieldAt (s.slotPriority n) 28 4

/-- Microseconds in holdover. -/
def State.heldUs (s : State) : Nat := if s.tim.holdover then s.now - s.tim.holdAt else 0

/-- e_f in parts per 10^12 (R403). -/
def State.estFreq (s : State) : Nat :=
  if s.tim.holdover then
    s.cfgN Param.hldInitPpb * 1000 + roundFree (s.cfgN Param.hldDriftPpbDay * s.heldUs) 86400000
  else 0

/-- `HLD_EST_FREQ` as its 32 bits show it (DESIGN CHOICE, log entry 46). -/
def State.estFreqShown (s : State) : Nat := if s.estFreq < 2 ^ 32 then s.estFreq else Config.estFreqOver s.estFreq % 2 ^ 32

/-- The estimated phase error times 2 × 86,400 × 10^12, after a time in microseconds (R403). -/
def phaseScaled (init drift us : Nat) : Nat := init * us * 172800000000 + drift * us * us
def phaseScale : Nat := 172800000000000000

/-- `HLD_EST_PHASE` in nanoseconds, saturating (R403). -/
def State.estPhase (s : State) : Nat :=
  if s.tim.holdover then
    min (2 ^ 32 - 1) (roundFree (phaseScaled (s.cfgN Param.hldInitPpb) (s.cfgN Param.hldDriftPpbDay) s.heldUs) phaseScale)
  else 0

/-- The least value from `lo` upwards, below `lo` + 2^fuel, at which a rising condition holds. -/
def leastFrom (p : Nat → Bool) : Nat → Nat → Nat
  | 0, lo => lo
  | n + 1, lo => if p (lo + 2 ^ n - 1) then leastFrom p n lo else leastFrom p n (lo + 2 ^ n)

/-- The time in microseconds from the start of holdover after which the limit of R403 is reached. -/
def limitAfter (init drift freqLimit phaseLimit maxS : Nat) : Nat :=
  let f := ((freqLimit - init) * 86400000000 + drift - 1) / drift
  let p := leastFrom (fun t => decide (phaseLimit * phaseScale ≤ phaseScaled init drift t)) 48 0
  let m := min f p
  if maxS = 0 then m else min m (maxS * usPerS)

end Sys2Proof.Machine
end

