-- ==== Sys2Proof/Machine/Receive.lean ====
section
/-!
DEFINITION. RXD: the receive chain (chapter 4). `SUPERFRAME_HEADER` and `RX_FORMAT_CHANGE`, at which received superframes
land, stand with the commits.
-/
namespace Sys2Proof.Machine

/-! ### Stages and losses -/

/-- Put `PMX` into a stage, and `NLE` with it: its coefficients adapt only in the decoder-aided stage with `adapt` = 1, are held where they
have got to otherwise, and `EV107` is raised when they freeze because `PMX` has left that stage (R139, R146) (DESIGN CHOICE, log entry 11). -/
def setStage (st : PmxStage) (s : State) : State :=
  let adapting := s.rxd.nle && decide (st = .da) && s.cfgB Param.nleAdapt
  let held := s.rxd.nleAdapting && !adapting
  let s1 := { s with
    rxd.stage := st
    rxd.nleAdapting := adapting
    rxd.nleFrozen := s.rxd.nle && !adapting
    rxd.nleCoefs := if held then
        some ((List.range s.rxd.nleActive).map (Config.nleCoef s.rxd.draws) ++ (s.rxd.nleCoefs.getD []).drop s.rxd.nleActive)
      else s.rxd.nleCoefs
    rxd.draws := if held then s.rxd.draws + 1 else s.rxd.draws }
  if s.rxd.nleAdapting && decide (st ≠ .da) then raise 107 s1 else s1

/-- Filters of `n` taps whose values adaptation has made what they are, which no rule states (R139, R141) (DESIGN CHOICE, log entry 99). -/
def freeTaps (draw n : Nat) : Vector (List (Int × Int)) 8 := vgen 8 fun f => (List.range n).map (Config.pmxTap draw f.val)

/-- The taps have adapted (R139, R141) (DESIGN CHOICE, log entry 99). -/
def adaptTaps (s : State) : State :=
  { s with rxd.pmxTaps := freeTaps s.rxd.draws s.rxd.taps, rxd.draws := s.rxd.draws + 1 }

/-- The filters as `PMX` applies them: those of the conjugated inputs only in 4×4 real mode (R138) (DEDUCED, log entry 99). -/
def Rxd.filters (r : Rxd) : List (List (Int × Int)) := if r.iqMimo then r.pmxTaps.toList else r.pmxTaps.toList.take 4

/-- Filters of another length: more taps are zeros, added symmetrically about the centre; what the taps of a shorter filter are, no rule
states (R138). -/
def resizeTaps (n : Nat) (s : State) : State :=
  let old := s.rxd.taps
  if n = old then s
  else if old < n then
    let pad := List.replicate ((n - old) / 2) ((0, 0) : Int × Int)
    { s with rxd.taps := n, rxd.pmxTaps := vmap s.rxd.pmxTaps fun f => pad ++ f ++ pad }
  else { s with rxd.taps := n, rxd.pmxTaps := freeTaps s.rxd.draws n, rxd.draws := s.rxd.draws + 1 }

/-- The time-reversed conjugate of a filter, negated or not. -/
def reversedConjugate (negate : Bool) (f : List (Int × Int)) : List (Int × Int) :=
  f.reverse.map fun c => if negate then (-c.1, c.2) else (c.1, -c.2)

/-- The Y taps become the time-reversed conjugate of the X taps, orthogonal to them: with X formed by (a, b), Y is formed by (-b*, a*), each
reversed in time (R140) (DEDUCED, log entry 99). -/
def reseedY (s : State) : State :=
  let f := s.rxd.pmxTaps
  { s with rxd.pmxTaps := vgen 8 fun k =>
      match k.val with
      | 2 => reversedConjugate true f[(1 : Fin 8)]
      | 3 => reversedConjugate false f[(0 : Fin 8)]
      | 6 => reversedConjugate true f[(5 : Fin 8)]
      | 7 => reversedConjugate false f[(4 : Fin 8)]
      | _ => f[k] }

/-- `TRC` is no longer locked: slot 0 follows at once (R137). -/
def loseTiming (s : State) : State := if s.rxd.trcLocked then followInputs { s with rxd.trcLocked := false } else s

/-- All adaptation stops and the chain leaves its state: a chain that has been locked goes to hold, one that is still
acquiring to idle; the decoder loses sync and the clients are judged (R159, R216) (DEDUCED, log entry 56). -/
def lineLoss (s : State) : State :=
  let s1 := setStage .frozen s
  let s1 := { s1 with
    rxd.rxState := if s.rxd.stored then .hold else .idle
    rxd.warmRun := false
    rxd.resumed := false }
  refreshClients (decoderLoses s1)

/-- Start a full acquisition from step 1 in a mode (R155). -/
def startAcquisition (mode : Nat) (s : State) : State :=
  { loseTiming s with
    rxd.rxState := .freq
    rxd.acqMode := mode
    rxd.acqStart := s.now
    rxd.stepAt := s.now
    rxd.scanRepeated := false
    rxd.stored := false
    rxd.holdExpired := false
    rxd.exitP2 := false
    rxd.warmRun := false
    rxd.resumed := false
    rxd.freqLock := false
    rxd.phaseLock := false
    rxd.sfLock := false
    rxd.adopted := false
    rxd.dmpEntropy := none, rxd.shaped := false
    rxd.headers := 0
    rxd.missing := 0
    rxd.trackAtLimit := false }

/-- The chain waits in idle for the reference time of Table 4.7, with nothing stored. -/
def awaitReference (s : State) : State :=
  let s1 := loseTiming (decoderLoses (setStage .frozen s))
  refreshClients { s1 with
    rxd.rxState := .idle, rxd.stored := false, rxd.warmRun := false, rxd.resumed := false,
    rxd.freqLock := false, rxd.phaseLock := false, rxd.sfLock := false, rxd.adopted := false, rxd.dmpEntropy := none, rxd.shaped := false,
    rxd.headers := 0, rxd.missing := 0, rxd.announced := none }

/-- All four ADC channels are released and input power is above the LOS threshold, outside a beacon (R155, R310). -/
def State.signalPresent (s : State) : Bool :=
  s.cnv.adcs.toList.all Adc.running && s.rxd.powerAt.isSome && !s.rxd.los && !s.lod.rxBeacon && decide (s.deviceState ≤ 1)

/-- `RX_STATE` as it reads (Table 4.12) (DEDUCED, log entry 56). -/
def Rxd.stateCode (r : Rxd) : Nat := if r.warmRun then RxState.warm.code else r.rxState.code

/-! ### Correction and acquisition (R125 to R132, R155, R156) -/

/-- `IQ_CORRECT_UPDATE` (R125): with `iq_correct` = 1 the estimates, in 0.001° and 0.001 dB, become the correction,
clipped to ±10° and ±3 dB. -/
def execIqCorrectUpdate (angleX gainX angleY gainY : Int) (s : State) : Result :=
  if s.cfgB Param.cdeIqCorrect then
    .next { s with
      rxd.iqAngle := (s.rxd.iqAngle.set 0 (clampInt (-10000) 10000 angleX)).set 1 (clampInt (-10000) 10000 angleY)
      rxd.iqGain := (s.rxd.iqGain.set 0 (clampInt (-3000) 3000 gainX)).set 1 (clampInt (-3000) 3000 gainY) }
  else .next s

/-- `ACQUISITION_START` (R127, R155): at the reference time the chain begins step `FREQ` in the mode of `cd_mode`; in
seeded mode that time needs a seed. -/
def execAcquisitionStart (s : State) : Result :=
  let mode := s.cfgN Param.cdeCdMode
  if s.rxd.rxState ≠ .idle ∨ s.signalPresent = false ∨ (mode = 2 ∧ s.rxd.seedValid = false) then .next s
  else .next (startAcquisition mode s)

/-- A frequency in MHz as FFT bins of the sample rate over 65,536, rounded to the nearest (R148); the side of a tie is free
(DESIGN CHOICE, log entry 18). -/
def binsOf (mhz : Int) (kSps : Nat) : Int := roundNearest (mhz * 1000 * 65536) kSps

/-- The coarse shift in kHz, which need not be whole; its rounding is free (R148) (DESIGN CHOICE, log entry 17). -/
def State.coarseKHz (s : State) : Int :=
  let n := s.rxd.coarseBins * (sampleRateOf s.symbolRate : Int)
  if 0 ≤ n then (roundFree n.natAbs 65536 : Int) else -(roundFree n.natAbs 65536 : Int)

/-! ### The dispersion scan (R129, R131) -/

/-- The spacing s_c of the coarse hypotheses in ps/nm, as a fraction, for a symbol rate in kBd (R129). -/
def scanSpacing (kBd : Nat) : Nat × Nat := if 75000000 ≤ kBd then (4500000 * 1000000 ^ 2, kBd * kBd) else (800, 1)

/-- How many values 50 ps/nm apart lie within s_c on each side of the best coarse hypothesis (R129 step 2). -/
def refineSteps (kBd : Nat) : Nat := (scanSpacing kBd).1 / (50 * (scanSpacing kBd).2)

/-- Step 2 of the blind scan is needed: s_c exceeds 50 ps/nm (R129). -/
def refines (kBd : Nat) : Bool := decide (50 * (scanSpacing kBd).2 < (scanSpacing kBd).1)

/-- The best metric of a scan: the index of the first greatest one (DEDUCED, log entry 100). -/
def bestOf (ms : List Nat) : Nat := (ms.zipIdx.foldl (fun (b : Nat × Nat) x => if b.2 < x.1 then (x.2, x.1) else b) (0, 0)).1

/-- A metric in its place among metrics in ascending order. -/
def insertMetric (m : Nat) : List Nat → List Nat
  | [] => [m]
  | x :: xs => if m ≤ x then m :: x :: xs else x :: insertMetric m xs

/-- The median of metrics: the middle one in ascending order (DEDUCED, log entry 100). -/
def medianOf (ms : List Nat) : Nat := (ms.foldr insertMetric []).getD (ms.length / 2) 0

/-- A metric exceeds another by at least `k`/8 dB, as powers (DEDUCED, log entry 100). -/
def exceedsBy (k peak median : Nat) : Bool := decide (0 < peak ∧ median ^ 80 * 10 ^ k ≤ peak ^ 80)

/-- `PEAK_DB_X8`: the peak over the median in 0.125 dB, saturating (Table 4.12); how it is rounded is free (log entry 14). -/
def peakDbX8 (peak median : Nat) : Nat :=
  let k := ((List.range 256).filter fun k => exceedsBy k peak median).length - 1
  if k < 255 ∧ 0 < peak ∧ median ^ 80 * 10 ^ k ≠ peak ^ 80 ∧ Config.levelRoundsUp peak median then k + 1 else k

/-- The metrics of hypothesis `i` and its two neighbours. -/
def nearMetrics (ms : List Nat) (i : Nat) : List Nat := if i = 0 then [] else (ms.drop (i - 1)).take 3

/-- The fitted dispersion (R129 step 3): the peak of the parabola through three metrics 50 ps/nm apart, the middle one at `num`/`den` ps/nm,
to the nearest whole value. -/
def fitDispersion (num : Int) (den : Nat) (near : List Nat) : Int :=
  match near with
  | [a, b, c] =>
    let curve := 2 * (b : Int) - a - c
    if 0 < curve then roundNearest (2 * num * curve + 50 * (c - a : Int) * den) (2 * den * curve.toNat) else Config.cdFit near
  | _ => Config.cdFit near

/-- The dispersion of coarse hypothesis `i`, and of the refinement `j` steps of 50 ps/nm above or below it, as a fraction (R129). -/
def hypothesis (kBd i : Nat) (j : Int) : Int × Nat :=
  let c := scanSpacing kBd
  (((i : Int) - 800) * c.1 + 50 * j * c.2, c.2)

/-- Load a dispersion value and go to the timing step. -/
def loadDispersion (v : Int) (s : State) : State :=
  { s with rxd.cdValue := v, rxd.cdAcquired := v, rxd.rxState := .timing, rxd.trackAtLimit := false }

/-- `COARSE_SHIFT_SET` (R148, R155 step 1): the shift comes from the Lodestone seed, or from the blind spectral estimate,
which covers ±8 GHz. Value mode loads its filter in this step. -/
def execCoarseShiftSet (blindMHz : Int) (s : State) : Result :=
  if s.rxd.rxState ≠ .freq then .next s
  else
    let seeded := s.rxd.seedValid && decide (s.cfg Param.cprFoMode = 0)
    let mhz := if seeded then s.rxd.seedFo else clampInt (-8000) 8000 blindMHz
    let s := { s with rxd.coarseBins := binsOf mhz (sampleRateOf s.symbolRate), rxd.foSeeded := seeded }
    match s.rxd.acqMode with
    | 0 => .next (loadDispersion (s.cfg Param.cdeDispersionPsNm) s)
    | 1 => .next { s with rxd.rxState := .cdScan }
    | _ => .next { s with rxd.rxState := .cdRefine }

/-- `CD_SCAN_DONE` (R129, R155, R156): the metrics of a part of the blind scan. Those of the coarse hypotheses, from -D_max on, succeed if
the peak exceeds the median by 3 dB, and `CD_REFINE` follows; the scan is repeated once; the second failure raises `EV100`, counts, and
returns the chain to step 1. In `CD_REFINE` the metrics 50 ps/nm apart about the best hypothesis give the fit; where s_c is 50 ps/nm those of
the coarse scan do (DESIGN CHOICE, log entry 5). -/
def execCdScanDone (metrics : List Nat) (s : State) : Result :=
  let rs := s.rxSymbolRate
  if s.rxd.rxState = .cdRefine ∧ s.rxd.acqMode = 1 then
    let i := bestOf metrics
    let h := if refines rs then hypothesis rs s.rxd.scanBest ((i : Int) - refineSteps rs) else hypothesis rs s.rxd.scanBest 0
    .next (loadDispersion (fitDispersion h.1 h.2 (if refines rs then nearMetrics metrics i else s.rxd.scanNear)) s)
  else if s.rxd.rxState ≠ .cdScan then .next s
  else
    let i := bestOf metrics
    let peak := metrics.getD i 0
    let s := { s with rxd.peakDbX8 := peakDbX8 peak (medianOf metrics) }
    if exceedsBy 24 peak (medianOf metrics) then
      .next { s with rxd.rxState := .cdRefine, rxd.scanBest := i, rxd.scanNear := nearMetrics metrics i }
    else if s.rxd.scanRepeated = false then .next { s with rxd.scanRepeated := true, rxd.stepAt := s.now }
    else
      .next (raise 100 { s with rxd.acqFails := satInc 16 s.rxd.acqFails, rxd.rxState := .freq, rxd.scanRepeated := false,
                                rxd.stepAt := s.now })

/-- `CD_SEED_REFINE_DONE` (R131): the metrics of the 17 hypotheses from the seed - 400 to the seed + 400 ps/nm give a fit; with the peak at
either end, or less than 3 dB above the median, the chain falls back to the blind scan with `EV101`. -/
def execCdSeedRefineDone (metrics : List Nat) (s : State) : Result :=
  if s.rxd.rxState ≠ .cdRefine ∨ s.rxd.acqMode ≠ 2 then .next s
  else
    let i := bestOf metrics
    let peak := metrics.getD i 0
    let s := { s with rxd.peakDbX8 := peakDbX8 peak (medianOf metrics) }
    if exceedsBy 24 peak (medianOf metrics) ∧ 0 < i ∧ i < 16 then
      .next (loadDispersion (fitDispersion (s.rxd.seed - 400 + 50 * i) 1 (nearMetrics metrics i)) s)
    else .next (raise 101 { s with rxd.acqMode := 1, rxd.rxState := .cdScan, rxd.scanRepeated := false,
                                   rxd.stepAt := s.now })

/-- `SEED_WAIT_TIMEOUT` (R132): with no seed within `seed_wait_ms` of input power, the acquisition runs blind, with
`EV101`. -/
def execSeedWaitTimeout (s : State) : Result :=
  match s.rxd.powerAt with
  | none => .next s
  | some t =>
    if s.rxd.rxState ≠ .idle ∨ s.signalPresent = false ∨ s.cfg Param.cdeCdMode ≠ 2 ∨ s.rxd.seedValid then .next s
    else .next (raise 101 (startAcquisition 1 (s.reach (t + s.cfgN Param.cdeSeedWaitMs * 1000))))

/-- A new Lodestone seed (R132, R309): it is copied; where `SEED_VALID` becomes 1 by it, a seeded acquisition that has fallen back abandons
its blind scan for the refinement, whose reference time is now (R155) (DEDUCED, log entry 100). -/
def takeSeed (cd fo : Int) (s : State) : State :=
  let s1 := { s with rxd.seed := cd, rxd.seedFo := fo, rxd.seedValid := true }
  let scanning := decide (s.rxd.rxState = .cdScan ∨ s.rxd.rxState = .cdRefine)
  if s.cfg Param.cdeCdMode = 2 ∧ s.rxd.seedValid = false ∧ scanning ∧ s.rxd.acqMode = 1 then
    { s1 with rxd.acqMode := 2, rxd.rxState := .cdRefine, rxd.stepAt := s.now, rxd.acqStart := s.now }
  else s1

/-- The end of each step from the moment its bounds run, in µs (Table 4.7); in value mode steps 2 and 3 fall away. -/
def stepBound (mode : Nat) (seededShift : Bool) : RxState → Nat
  | .freq => if mode = 2 ∨ (mode = 0 ∧ seededShift) then 100 else 500
  | .cdScan => 224640
  | .cdRefine => if mode = 2 then 2480 else 229260
  | st =>
    let after := match st with
      | .timing => 500 | .polBlind => 1500 | .carrier => 2300 | .polRd => 2800 | _ => 3800
    after + (if mode = 2 then 2480 else if mode = 1 then 229260 else if seededShift then 100 else 500)

/-- The chain is in a step of a full acquisition. -/
def Rxd.acquiring (r : Rxd) : Bool :=
  !r.warmRun && !r.resumed &&
    match r.rxState with
    | .freq | .cdScan | .cdRefine | .timing | .polBlind | .carrier | .polRd | .decode => true
    | _ => false

/-- `ACQ_STEP_TIMEOUT` (R156): a step that exceeds its time returns the chain to step 1 with the same mode, and counts. The mode of a seeded
acquisition that has fallen back is blind from then on (DEDUCED, log entry 100). -/
def execAcqStepTimeout (s : State) : Result :=
  if s.rxd.acquiring = false ∨ s.rxd.stored then .next s
  else
    let s := s.reach (s.rxd.stepAt + stepBound s.rxd.acqMode s.rxd.foSeeded s.rxd.rxState)
    let s := loseTiming (setStage .frozen { s with rxd.acqFails := satInc 16 s.rxd.acqFails })
    .next { s with rxd.rxState := .freq, rxd.stepAt := s.now, rxd.scanRepeated := false, rxd.freqLock := false, rxd.phaseLock := false,
                   rxd.sfLock := false, rxd.adopted := false, rxd.dmpEntropy := none, rxd.shaped := false, rxd.headers := 0, rxd.missing := 0 }

/-! ### Locking (R135, R139, R140, R150, R155) -/

/-- `TIMING_LOCK` (R135): `TRC` locks at an offset, in 0.01 ppm; the chain goes on to the polarisation step, or in a warm
reacquisition to the carrier step (R160). -/
def execTimingLock (offset : Int) (s : State) : Result :=
  if s.rxd.rxState ≠ .timing ∨ 20000 < offset.natAbs then .next s
  else
    let s := followInputs { s with rxd.trcLocked := true, rxd.trcOffset := offset }
    if s.rxd.warmRun then .next { s with rxd.rxState := .carrier }
    else .next (adaptTaps (setStage .cma { s with rxd.rxState := .polBlind }))

/-- `POL_BLIND_CONVERGED` (R139): the chain goes on to carrier recovery; `PMX` stays in the constant-modulus stage. -/
def execPolBlindConverged (s : State) : Result :=
  if s.rxd.rxState = .polBlind then .next (adaptTaps { s with rxd.rxState := .carrier }) else .next s

/-- `PMX_SINGULARITY_CHECK` (R140): a normalised cross-correlation, in 0.001, above 0.9 re-seeds the Y taps, counts and
raises `EV104`. -/
def execPmxSingularityCheck (xcorr : Nat) (s : State) : Result :=
  if s.rxd.stage = .cma ∧ 900 < xcorr then
    .next (raise 104 (reseedY { s with rxd.singularities := satInc 32 s.rxd.singularities }))
  else .next s

/-- `SUPERFRAME_LOCK` (R150): after four consecutive headers, with carrier lock, the chain holds superframe lock and `PMX`
enters the radius-directed stage. -/
def execSuperframeLock (s : State) : Result :=
  if s.rxd.headers < 4 ∨ s.rxd.sfLock ∨ s.rxd.los then .next s
  else
    let s := { s with rxd.sfLock := true, rxd.losf := false, rxd.missing := 0 }
    if s.rxd.rxState = .carrier then
      .next (refreshClients (setStage .rde { s with rxd.freqLock := true, rxd.phaseLock := true, rxd.rxState := .polRd }))
    else .next (refreshClients s)

/-- `POL_RD_CONVERGED` (R155): the chain enters `DECODE` and the decoder starts its search (R215). -/
def execPolRdConverged (s : State) : Result :=
  if s.rxd.rxState = .polRd then
    .next (adaptTaps { s with rxd.rxState := .decode, cod.candidate := 0, cod.goodBlocks := 0, cod.hits := 0, cod.misses := 0 })
  else .next s

/-- The chain reaches `LOCKED` at codeword sync or frame lock (R155 step 9, R215): `EV096`. -/
def reachLocked (s : State) : State :=
  if s.rxd.rxState = .decode then
    raise 96 { s with rxd.rxState := .locked, rxd.acqUs := (s.now - s.rxd.acqStart) % 2 ^ 32, rxd.stored := true,
                      rxd.holdExpired := false, rxd.warmRun := false, rxd.resumed := false }
  else s

/-! ### Soft decisions (R151, R152) -/

/-- A soft decision as it is delivered: the steps of 0.5, limited to ±31, in 6-bit two's complement; the code -32 does not occur (R152). -/
def llrCode (steps : Int) : BitVec 6 := BitVec.ofInt 6 (clampInt (-31) 31 steps)

/-- The prior weights of the amplitude levels, or of the XOR of QPSK, that `DMP` adds (R152): for shaped transmission the counts of the matcher's
composition at the entropy in use, else all the same. -/
def State.priors (s : State) : List Nat :=
  match s.rxd.shaped, s.rxd.dmpEntropy with
  | true, some e => matcherComposition s.rxd.constellation e
  | _, _ => List.replicate (2 ^ max 1 s.rxd.constellation) 1

/-- The log2(M) LLRs of one payload symbol of one polarisation, in the order of its label bits; positive ones favour bit 0. They are 0 until a
valid entropy has been taken since superframe lock (R151, R152). Positions that are no payload are not demapped
(DESIGN CHOICE, log entry 101). -/
def State.softDecisions (s : State) (kind : SymbolKind) (received : Complex) : List (BitVec 6) :=
  if kind ≠ .payload then []
  else (List.range (2 * (s.rxd.constellation + 1))).map fun b =>
    if s.rxd.dmpEntropy.isNone && !s.rxInterop then 0
    else llrCode (Config.llr received s.rxd.ringVar s.priors b)

/-! ### Decoder-aided adaptation and tracking (R133, R138, R142, R146, R148) -/

/-- Leave the decoder-aided stage for the radius-directed one: counted, `EV105` (R142). -/
def daFallback (s : State) : State :=
  raise 105 (setStage .rde { s with rxd.daFallbacks := satInc 32 s.rxd.daFallbacks })

/-- The product of two complex values. -/
def mulComplex (a b : Complex) : Complex := (a.1 * b.1 - a.2 * b.2, a.1 * b.2 + a.2 * b.1)

/-- The hard decisions that a group carries: those after iteration 4, or after the last one of a block that ended before it (R141, R217). -/
def decidedLabels (d : Decision) : List Bool := d.iterations.getD (min 3 (d.iterations.length - 1)) []

/-- What a group carries for a symbol period (R141, R217): the known points at a pilot or header position and in a termination block, else
those whose labels are the hard decisions. -/
def groupPoints (constellation : Nat) (kind : SymbolKind) (d : Decision) : Complex × Complex :=
  if kind = .payload ∧ d.termination = false then pointsOf constellation (decidedLabels d) else d.known

/-- The error of a decoder-aided update, in units of 2^-14: the decision, rotated by the carrier phase, less the output that the taps have given
for the symbol (R141, Table 4.5). -/
def groupError (decided output phase : Complex) : Complex :=
  let r := mulComplex decided phase
  (r.1 - 16384 * output.1, r.2 - 16384 * output.2)

/-- The errors of a symbol period of a group, formed against what `PMX` has kept of it, with the input vector behind it (R141). -/
def symbolErrors (constellation pilots : Nat) (k : PmxSymbol) (d : Decision) : Complex × Complex × List Complex :=
  let p := groupPoints constellation (symbolKind pilots k.position) d
  (groupError p.1 k.x k.phase, groupError p.2 k.y k.phase, k.inputs)

/-- Update the present taps (R139, R141) (DESIGN CHOICE, log entry 99). -/
def updateTaps (stage : Nat) (mu : ParamRow) (es : List (Complex × Complex × List Complex)) (s : State) : State :=
  { s with rxd.pmxTaps := vgen 8 fun f =>
      s.rxd.pmxTaps[f].zipIdx.map fun w => Config.pmxUpdate stage (s.cfg mu) f.val w.2 w.1 es }

/-- The symbol periods of a group: those that left `PMX` 2,048 core cycles before it comes, which are 64 groups (R141). -/
def Rxd.groupKept (r : Rxd) : List PmxSymbol := r.pmxKept.getD 64 []

/-- The errors of a group, symbol period by symbol period. -/
def State.groupErrors (s : State) (g : CodewordGroup) : List (Complex × Complex × List Complex) :=
  List.zipWith (symbolErrors s.rxd.constellation s.rxd.pilots) s.rxd.groupKept g.decisions

/-- The symbol periods that leave `PMX` now are kept for 2,048 cycles, and `DMP` delivers their soft decisions, X before Y in each
(R141, R152). -/
def keepLeaving (out : List PmxSymbol) (s : State) : State :=
  let received := fun (k : PmxSymbol) (v : Complex) => mulComplex v (k.phase.1, -k.phase.2)
  { s with
    rxd.pmxKept := (out :: s.rxd.pmxKept).take 65
    rxd.llrs := out.flatMap fun k =>
      let kind := symbolKind s.rxd.pilots k.position
      s.softDecisions kind (received k k.x) ++ s.softDecisions kind (received k k.y) }

/-- The group spans a format change: one of its symbols, from received superframe `first` to `last`, lies in a superframe in which one took
effect (R143). -/
def State.spansChange (s : State) (first last : Nat) : Bool := s.rxd.changeSfs.any fun n => decide (first ≤ n ∧ n ≤ last)

/-- `CODEWORD_GROUP` (R141, R142, R218): a group is scored, used, or causes a change of stage. `first` and `last` are the received
superframes of its first and last symbol. A group carries `sync` = 1 only while codeword sync is held and the chain is not frozen, and its
decisions have met no memory error (R220); a halted decoder sends 0. `unsat` of the `checks` that involve its payload are unsatisfied
(R217). No group is returned in an interoperable mode (R144), or in P2 or deeper. In the radius-directed stage the taps adapt on every
symbol as it leaves, in the decoder-aided stage on groups that are used, by the errors against what was kept of their symbols. -/
def execCodewordGroup (group : CodewordGroup) (first last unsat checks : Nat) (s : State) : Result :=
  let r := s.rxd
  let unsatPpm := if checks = 0 then 0 else roundFree (1000000 * unsat) checks
  let sync := group.sync && !s.cod.returnBad
  let s := { s with cod.returnBad := false }
  let threshold := s.cfgN Param.pmxDaUnreliablePpm
  if s.rxInterop ∨ 2 ≤ s.deviceState then .next s
  else
    let s := keepLeaving group.leaving s
    let s := if r.stage = .rde then updateTaps 1 Param.pmxMuRdeLog2 (group.leaving.map fun k => (k.x, k.y, k.inputs)) s else s
    if sync = false ∨ s.cod.halted ∨ s.cod.sync = false ∨ r.stage = .frozen then
      let s1 := { s with rxd.bad := 0, rxd.good := 0 }
      .next (if r.stage = .da then daFallback s1 else s1)
    else if s.spansChange first last then .next s
    else if threshold < unsatPpm then
      let s1 := { s with rxd.bad := r.bad + 1, rxd.good := 0, rxd.daSkipped := satInc 32 r.daSkipped }
      if r.stage = .da ∧ s.cfgN Param.pmxDaFallbackGroups ≤ r.bad + 1 then
        .next (daFallback { s1 with rxd.bad := 0 })
      else .next s1
    else
      let good := if 2 * unsatPpm ≤ threshold then r.good + 1 else 0
      let s1 := { s with rxd.bad := 0, rxd.good := good }
      if r.stage = .da then .next (updateTaps 2 Param.pmxMuDaLog2 (s1.groupErrors group) s1)
      else if r.stage = .rde ∧ s.cfgB Param.pmxDaEnable ∧ r.rxState = .locked ∧ s.cfgN Param.pmxDaReturnGroups ≤ good then
        .next (raise 106 (setStage .da { s1 with rxd.good := 0 }))
      else .next s1

/-- `CD_TRACK` (R133): with the chain locked, a residual of at least 1 ps/nm moves the applied value by 1 ps/nm, never
further than `track_limit_ps_nm` from the acquired value. -/
def execCdTrack (residual : Int) (s : State) : Result :=
  let r := s.rxd
  if s.cfgB Param.cdeTrackEnable = false ∨ r.rxState ≠ .locked ∨ residual = 0 then .next s
  else
    let v := if 0 < residual then r.cdValue + 1 else r.cdValue - 1
    let limit := s.cfgN Param.cdeTrackLimitPsNm
    let moved := decide ((v - r.cdAcquired).natAbs ≤ limit ∨ (v - r.cdAcquired).natAbs < (r.cdValue - r.cdAcquired).natAbs)
    let w := if moved then v else r.cdValue
    let atLimit := decide (limit ≤ (w - r.cdAcquired).natAbs)
    let s1 := { s with rxd.cdValue := w, rxd.trackAtLimit := atLimit }
    .next (if atLimit && !r.trackAtLimit then raise 102 s1 else s1)

/-- `NLE_RAMP_DONE` (R147): the ramp ends; when disabling, the Tiles are gated. -/
def execNleRampDone (s : State) : Result :=
  .next (judgeGates { s with rxd.nleRamping := false, rxd.nleGated := !s.rxd.nle })

/-- `TIMING_UNLOCK` (R135, R159): `TRC` loses lock; an offset beyond ±200 ppm, in 0.01 ppm, raises `EV103`. -/
def execTimingUnlock (offset : Int) (s : State) : Result :=
  if s.rxd.trcLocked = false then .next s
  else
    let s := loseTiming { s with rxd.trcUnlocks := satInc 32 s.rxd.trcUnlocks, rxd.holdExpired := true }
    let s := if 20000 < offset.natAbs then raise 103 s else s
    .next (lineLoss s)

/-- `CPR` declares loss of lock, if it held it: `EV108` (R148, R159). -/
def carrierLost (s : State) : State :=
  if s.rxd.freqLock = false ∧ s.rxd.phaseLock = false then s
  else lineLoss (raise 108 { s with rxd.freqLock := false, rxd.phaseLock := false, rxd.holdExpired := true })

/-- `CARRIER_UNLOCK` (R148, R159): `CPR` loses frequency or phase lock. -/
def execCarrierUnlock (s : State) : Result := .next (carrierLost s)

/-- `FO_NEAR_LIMIT` (R148): the fine offset in kHz updates `CPR_FO`; on leaving ±7 GHz `EV109` is raised once, and beyond ±8 GHz `CPR` loses
lock. -/
def execFoNearLimit (fineKHz : Int) (s : State) : Result :=
  let near := decide (7000000 < fineKHz.natAbs)
  let s1 := { s with rxd.foKHz := s.coarseKHz + fineKHz, rxd.foNear := near }
  let s1 := if near && !s.rxd.foNear then raise 109 s1 else s1
  .next (if 8000000 < fineKHz.natAbs then carrierLost s1 else s1)

/-- A DGD estimate, in 0.1 ps, is reported; beyond 0.8 × (N - 1)/2 symbol periods it raises `EV111` (R138). -/
def takeDgd (dgdPsX10 : Nat) (s : State) : State :=
  let s1 := { s with rxd.dgd := min 65535 dgdPsX10 }
  if 4000000000 * (s.rxd.taps - 1) < dgdPsX10 * s.rxSymbolRate then raise 111 s1 else s1

/-- `DGD_LIMIT` (R138). -/
def execDgdLimit (dgdPsX10 : Nat) (s : State) : Result := .next (takeDgd dgdPsX10 s)

/-! ### LOS and reacquisition (R158 to R160, R310) -/

/-- `LOS_WINDOW` (R158, R159): the mean power in 0.01 dBFS against the threshold. LOS freezes the chain; a LOS that clears within
`los_hold_us`, with `TRC` and `CPR` in lock, lets it resume in `DECODE`; `ACQ_US` then counts from the clearance (DESIGN CHOICE, log entry
100). No LOS is declared during a beacon (R310) (DEDUCED, log entry 56). -/
def execLosWindow (power : Int) (s : State) : Result :=
  let low := decide (power < 50 * s.cfg Param.cdeLosThresholdDbfsX2)
  let r := s.rxd
  if low then
    if r.los ∨ s.lod.rxBeacon ∨ 2 ≤ s.deviceState then .next { s with rxd.powerAt := none }
    else
      let s1 := { s with rxd.los := true, rxd.losAt := s.now, rxd.powerAt := none }
      let s1 := if r.rxState = .hold then s1 else { s1 with rxd.holdExpired := false }
      .next (raise 97 (lineLoss s1))
  else
    let s1 := { s with rxd.los := false, rxd.powerAt := some (r.powerAt.getD s.now) }
    if r.los = false then .next s1
    else if r.rxState = .hold ∧ r.holdExpired = false ∧ r.trcLocked ∧ r.freqLock ∧ r.phaseLock ∧
        s.now ≤ r.losAt + s.cfgN Param.cdeLosHoldUs then
      let s1 := setStage .rde { s1 with rxd.rxState := .decode, rxd.resumed := true, rxd.stepAt := s.now, rxd.acqStart := s.now,
                                        cod.candidate := 0, cod.goodBlocks := 0, cod.hits := 0, cod.misses := 0 }
      .next (refreshClients s1)
    else .next (refreshClients { s1 with rxd.holdExpired := true })

/-- `LOS_HOLD_EXPIRE` (R159): LOS has not cleared within `los_hold_us`; the chain waits for power. -/
def execLosHoldExpire (s : State) : Result :=
  if s.rxd.los ∧ s.rxd.rxState = .hold ∧ s.rxd.holdExpired = false then
    let s := s.reach (s.rxd.losAt + s.cfgN Param.cdeLosHoldUs)
    .next { s with rxd.holdExpired := true }
  else .next s

/-- Start a warm reacquisition: steps 4, 6, 7 and 8 from the stored state (R160). -/
def startWarm (s : State) : State :=
  { loseTiming s with
    rxd.rxState := .timing, rxd.warmRun := true, rxd.resumed := false, rxd.acqStart := s.now, rxd.stepAt := s.now,
    rxd.holdExpired := false, rxd.freqLock := false, rxd.phaseLock := false, rxd.sfLock := false, rxd.adopted := false,
    rxd.dmpEntropy := none, rxd.shaped := false, rxd.headers := 0, rxd.missing := 0 }

/-- After P2, the seed lies too far from the stored state (Table 4.8): 600 ps/nm or 1 GHz. -/
def State.seedMoved (s : State) : Bool :=
  s.rxd.seedValid &&
    (decide (600 < (s.rxd.seed - s.rxd.cdValue).natAbs) ||
      decide (1000000 * 65536 < (s.rxd.seedFo * 1000 * 65536 - s.rxd.coarseBins * (sampleRateOf s.symbolRate : Int)).natAbs))

/-- `WARM_REACQUIRE` (R159, R160): once power is present, a chain whose hold is over runs from its stored state; after P2
with a seed that has moved it runs a seeded acquisition instead (Table 4.8). -/
def execWarmReacquire (s : State) : Result :=
  if s.rxd.rxState ≠ .hold ∨ s.rxd.holdExpired = false ∨ s.signalPresent = false then .next s
  else if s.rxd.exitP2 && s.seedMoved then .next (startAcquisition 2 s)
  else .next (setStage .rde (startWarm { s with rxd.exitP2 := false }))

/-- `WARM_TIMEOUT` (R159, R160): a warm reacquisition or a resumption that has not locked within `warm_timeout_ms` gives
way to a full acquisition, with `EV099`. -/
def execWarmTimeout (s : State) : Result :=
  if s.rxd.warmRun ∨ s.rxd.resumed then
    .next (raise 99 (awaitReference (s.reach (s.rxd.stepAt + s.cfgN Param.cdeWarmTimeoutMs * 1000))))
  else .next s

/-- `RX_REACQUIRE` (R163): byte 0 is 0 for a warm reacquisition, 1 for a full one. With no stored state a warm one has
nothing to start from, and the full one runs. -/
def execRxReacquire (req : Request) (s : State) : Result :=
  .next (serveTarget req s [(6, 0)] true fun s =>
    if req.payload.length ≠ 1 ∨ 1 < byteAt req.payload 0 then respond req (refusal stBadValue) s
    else
      let warm := decide (byteAt req.payload 0 = 0) && s.rxd.stored
      let s1 := if warm then
          let s1 := refreshClients (decoderLoses (setStage .frozen s))
          { s1 with rxd.rxState := .hold, rxd.holdExpired := true, rxd.warmRun := false, rxd.resumed := false }
        else awaitReference s
      let s1 := if warm && s1.signalPresent then setStage .rde (startWarm s1)
        else if !warm && s1.signalPresent && (decide (s1.cfg Param.cdeCdMode ≠ 2) || s1.rxd.seedValid) then
          startAcquisition (s1.cfgN Param.cdeCdMode) s1
        else s1
      respond req okReply s1)

/-! ### Nonlinear equaliser (R145 to R147, R163) -/

/-- A signed 16-bit payload field. -/
def i16At (p : List Byte) (i : Nat) : Int := intOfNat 16 (u16At p i)

/-- A signed 32-bit payload field. -/
def i32At (p : List Byte) (i : Nat) : Int := intOfNat 32 (u32At p i)

/-- One record of `NLE_COEF_LOAD` (Table 4.10). -/
def NleTriplet.ofBytes (b : List Byte) : NleTriplet := { m := i16At b 0, n := i16At b 2, re := i32At b 4, im := i32At b 8 }

/-- The 12 bytes of a triplet. -/
def NleTriplet.bytes (t : NleTriplet) : List Byte :=
  leBytes 2 (natOfInt 16 t.m) ++ leBytes 2 (natOfInt 16 t.n) ++ leBytes 4 (natOfInt 32 t.re) ++ leBytes 4 (natOfInt 32 t.im)

/-- The order of device-chosen pairs: ascending |m|·|n|, then |m| + |n|, then m, then n (R145). -/
def pairBefore (a b : Int × Int) : Bool :=
  let p := fun (x : Int × Int) => x.1.natAbs * x.2.natAbs
  let q := fun (x : Int × Int) => x.1.natAbs + x.2.natAbs
  if p a ≠ p b then decide (p a < p b)
  else if q a ≠ q b then decide (q a < q b)
  else if a.1 ≠ b.1 then decide (a.1 < b.1)
  else decide (a.2 ≤ b.2)

/-- All pairs with |m| and |n| up to a span. -/
def allPairs (span : Nat) : List (Int × Int) :=
  let r := (List.range (2 * span + 1)).map fun (i : Nat) => (i : Int) - (span : Int)
  r.flatMap fun m => r.map fun n => (m, n)

/-- The device-chosen triplets, with coefficients zero (R145, R147) (DEDUCED, log entry 57). -/
def deviceTriplets (count span : Nat) : List NleTriplet :=
  (((allPairs span).mergeSort pairBefore).take count).map fun p => { m := p.1, n := p.2, re := 0, im := 0 }

/-- The triplets in use of `count`: the first ones of a seat's list, as far as it has them, or the device's choice (R145)
(DESIGN CHOICE, log entry 57). -/
def State.tripletsOf (s : State) (count span : Nat) : List NleTriplet :=
  if s.rxd.nleSeatList then s.rxd.nleList.take count else deviceTriplets count span

/-- The running triplets as read (R146, R163): coefficients that adapt have a value that the spec does not state, and one that is held once
they are frozen (DESIGN CHOICE, log entry 11). -/
def State.readTriplets (s : State) : List NleTriplet :=
  let ts := s.tripletsOf s.rxd.nleActive s.rxd.nleSpan
  let coef : Nat → Option (Int × Int) := fun i =>
    if s.rxd.nleAdapting then some (Config.nleCoef s.rxd.draws i) else s.rxd.nleCoefs.bind fun l => l[i]?
  ts.zipIdx.map fun t => match coef t.2 with
    | some c => { t.1 with re := c.1, im := c.2 }
    | none => t.1

/-- `NLE_COEF_LOAD` (R163): up to 83 records go into the seat's slate for `NLE`; a payload with no record, and a list beyond 256 triplets,
which cannot be active, are refused (DEDUCED, log entry 57). -/
def execNleCoefLoad (req : Request) (s : State) : Result :=
  .next (serveTarget req s [(6, 2)] true fun s =>
    let n := req.payload.length / 12
    let list := (s.seat req.seat).nleSlate ++ (records 12 req.payload).map NleTriplet.ofBytes
    if req.payload.length % 12 ≠ 0 ∨ n = 0 ∨ 83 < n ∨ 256 < list.length then respond req (refusal stBadValue) s
    else respond req okReply (s.onSeat req.seat fun q => { q with nleSlate := list }))

/-- `NLE_COEF_READ` (R163): up to 83 running triplets from an index (DEDUCED, log entry 57). -/
def execNleCoefRead (req : Request) (s : State) : Result :=
  .next (serveTarget req s [(6, 2)] true fun s =>
    if req.payload.length ≠ 2 then respond req (refusal stBadValue) s
    else
      let ts := (s.readTriplets.drop (u16At req.payload 0)).take 83
      respond req (okWith (ts.flatMap NleTriplet.bytes)) (if s.rxd.nleAdapting then { s with rxd.draws := s.rxd.draws + 1 } else s))

/-! ### Commits, resets and power states (R134, R138, R147, R157, R161) -/

/-- A Restart commit of any RXD Unit restarts acquisition of the whole chain from step 1 (R157). -/
def rxdRestart (s : State) : State :=
  let s1 := awaitReference s
  if s1.signalPresent && (decide (s1.cfg Param.cdeCdMode ≠ 2) || s1.rxd.seedValid) then
    startAcquisition (s1.cfgN Param.cdeCdMode) s1
  else s1

/-- The variance classes that `DMP` uses: one for each ring, or a single one (R153). -/
def ringClasses (constellation : Nat) (single : Bool) : Nat :=
  if single then 1 else match constellation with
    | 0 => 1 | 1 => 3 | 2 => 9 | _ => 32

/-- The constellation in use, its variance classes, and whether priors are applied (R151 to R153): the constellation of the mode, and the
last valid entropy if there is one. -/
def judgeDemapper (s : State) : State :=
  let c := if s.rxInterop then 1 else s.cfgN Param.dmpConstellation
  { s with
    rxd.constellation := c
    rxd.rings := ringClasses c (s.cfgB Param.dmpVarianceMode)
    rxd.shaped := !s.rxInterop && (s.rxd.dmpEntropy.any fun e => isShaped c e) }


/-- Coefficients that are all held at zero (R147). -/
def zeroCoefs : List Complex := List.replicate 256 (0, 0)

/-- RXD after a commit of keys `ks` that has taken effect in a Unit: the running values are in `running` already. A dispersion written in
value mode is applied by the keys that carry it only, so that tracking stands (R133, R134). `nle` is the list of triplets that it loads;
triplets that come or go ramp (R147). While the device throttles, `NLE` stays off (Table 17.9). -/
def rxdCommitted (unit : Nat) (ks : List Nat) (nle : List NleTriplet) (s : State) : State :=
  match unit with
  | 0 =>
    let carries := ks.any fun k => k == paramKey ⟨6, 0, 0⟩ Param.cdeCdMode.num 0 || k == paramKey ⟨6, 0, 0⟩ Param.cdeDispersionPsNm.num 0
    if carries && decide (s.cfg Param.cdeCdMode = 0 ∧ s.rxd.rxState = .locked) then
      let v := s.cfg Param.cdeDispersionPsNm
      if v = s.rxd.cdValue ∧ v = s.rxd.cdAcquired then s
      else { s with rxd.cdValue := v, rxd.cdAcquired := v, rxd.trackAtLimit := false }
    else s
  | 1 => resizeTaps (s.cfgN Param.pmxTaps) { s with
      rxd.iqMimo := s.cfgB Param.pmxIqMimo
      rxd.pmxTaps := if s.cfgB Param.pmxIqMimo && !s.rxd.iqMimo
        then vgen 8 fun k => if k.val < 4 then s.rxd.pmxTaps[k] else List.replicate s.rxd.taps (0, 0) else s.rxd.pmxTaps }
  | 2 =>
    let on := s.cfgB Param.nleEnable && decide (s.pwr.level < 2)
    let list := decide (nle ≠ [])
    let s1 := { s with rxd.nleList := if list then nle else s.rxd.nleList, rxd.nleSeatList := s.rxd.nleSeatList || list }
    let span := s.cfgN Param.nleIndexSpan
    let active := if s1.rxd.nleSeatList then min (s.cfgN Param.nleTriplets) s1.rxd.nleList.length else s.cfgN Param.nleTriplets
    let respan := !s1.rxd.nleSeatList && decide (span ≠ s.rxd.nleSpan)
    let changed := decide (on ≠ s.rxd.nle) || (on && (list || respan || decide (active ≠ s.rxd.nleActive)))
    let coefs := if list then none
      else if respan && s.rxd.nleCoefs.any (· ≠ zeroCoefs) then some ((List.range active).map (Config.nleCoef s.rxd.draws))
      else s.rxd.nleCoefs
    let s2 := { s1 with
      rxd.nle := on
      rxd.nleRamping := s.rxd.nleRamping || changed
      rxd.nleGated := s.rxd.nleGated && !on
      rxd.nleActive := active
      rxd.nleSpan := span
      rxd.nleCoefs := coefs
      rxd.draws := if respan then s.rxd.draws + 1 else s.rxd.draws
      rxd.nleAdapting := s.rxd.nleAdapting && !list }
    setStage s.rxd.stage s2
  | 5 => judgeDemapper s
  | _ => s

/-- Active triplets as `NLE_STATUS` shows them. -/
def State.activeTriplets (s : State) : Nat := if s.rxd.nle then s.rxd.nleActive else 0

/-- What a warm reacquisition starts from is lost (R160, Table 4.8). -/
def loseStored (s : State) : State :=
  { s with
    rxd.cdValue := 0
    rxd.cdAcquired := 0
    rxd.coarseBins := 0
    rxd.trcOffset := 0
    rxd.nleCoefs := some zeroCoefs
    rxd.pmxTaps := vmap s.rxd.pmxTaps fun _ => List.replicate s.rxd.taps (0, 0) }

/-- A Unit or Section reset in RXD (Table 4.8): the stored state is cleared, the registers of the Unit return to their
Reset column, and the chain restarts with a full acquisition. -/
def resetRxdUnit (unit : Nat) (s : State) : State :=
  let d : Rxd := {}
  let s := match unit with
    | 0 => { s with rxd.seedValid := false, rxd.seed := 0, rxd.seedFo := 0, rxd.trackAtLimit := false, rxd.cdValue := 0,
                    rxd.cdAcquired := 0, rxd.coarseBins := 0, rxd.acqFails := 0, rxd.peakDbX8 := 0, rxd.acqUs := 0,
                    rxd.iqAngle := d.iqAngle, rxd.iqGain := d.iqGain }
    | 1 => { s with rxd.iqMimo := false, rxd.taps := 31, rxd.dgd := 0, rxd.daFallbacks := 0, rxd.daSkipped := 0,
                    rxd.singularities := 0, rxd.bad := 0, rxd.good := 0 }
    | 2 => { s with rxd.nle := false, rxd.nleAdapting := false, rxd.nleFrozen := false, rxd.nleSeatList := false,
                    rxd.nleList := [], rxd.nleRamping := false, rxd.nleGated := true, rxd.nleGain := 0,
                    rxd.nleActive := d.nleActive, rxd.nleSpan := d.nleSpan }
    | 3 => { s with rxd.trcOffset := 0, rxd.trcUnlocks := 0 }
    | 4 => { s with rxd.pilots := 1, rxd.entropy := 0, rxd.foKHz := 0, rxd.foNear := false, rxd.foSeeded := false,
                    rxd.sf := 0, rxd.losfCount := 0, rxd.losf := false }
    | _ => { s with rxd.constellation := 3, rxd.shaped := false, rxd.rings := 0, rxd.effSnr := 0, rxd.ringVar := [] }
  rxdRestart (loseStored s)

/-- A Section reset of RXD. -/
def resetRxd (s : State) : State := overAll (List.range 6) resetRxdUnit s

/-- RXD on entry into a power state (Table 4.8): gated in P2 and P3 with its state stored, the seed included; off in P4 with it lost. -/
def rxdEnter (device : Nat) (s : State) : State :=
  if device ≤ 1 then s
  else
    let kept := s.rxd.stored && decide (device ≠ 4)
    let s1 := awaitReference s
    let s1 := if device = 4 then loseStored s1 else s1
    { s1 with
      rxd.los := false
      rxd.losf := false
      rxd.powerAt := none
      rxd.stored := kept
      rxd.rxState := if kept then .hold else .idle
      rxd.holdExpired := kept
      rxd.exitP2 := decide (device = 2)
      rxd.seedValid := s.rxd.seedValid && decide (device ≠ 4) }

end Sys2Proof.Machine
end

