-- ==== Sys2Proof/Machine/Coding.lean ====
section
/-!
DEFINITION. COD: Basalt and interoperable FEC (chapter 6).
-/
namespace Sys2Proof.Machine

/-- Codeword sync or frame lock is gained (R215, R226): `EV128`, the fail indication that its loss had set clears, and the
chain reaches `LOCKED`. -/
def decoderGains (unit : Nat) (s : State) : State :=
  refreshClients (reachLocked (raiseAt 128 unit 0 s))

/-- How a block's iterations end (R212): at the effective cap, or with `early_stop` = 1 as soon as every check is satisfied and the outer
syndrome is zero. The iterations, and whether it is early termination. -/
def iterationsOf (b : BlockResult) (cap : Nat) (earlyStop : Bool) : Nat × Bool :=
  match b.satisfiedAt with
  | some k => if earlyStop && decide (k ≤ cap) then (k, true) else (cap, false)
  | none => (cap, false)

/-- Count a decoded block (R221, Table 6.10); the counters wrap at 2^64. The labels of a termination block are known and not counted; those of
another are the L of Table 6.4. Its outer code corrects up to three errors (R208). -/
def countBlock (b : BlockResult) (labels iterations : Nat) (early uncorrected : Bool) (c : DecCounters) : DecCounters :=
  let add := fun (x y : Nat) => (x + y) % 2 ^ 64
  { bits := add c.bits (if b.termination then 0 else labels)
    corr := add c.corr (if b.termination then 0 else b.errors)
    blocks := add c.blocks (bit (!b.termination))
    uncorr := add c.uncorr (bit uncorrected)
    outer := add c.outer (if 3 < b.outerErrors ∨ early then 0 else b.outerErrors)
    iter := add c.iter iterations
    capped := add c.capped (bit (!early)) }

/-- An uncorrected block: the first in an interval raises `EV132` (R224). -/
def noteUncorrected (unit : Nat) (s : State) : State :=
  if s.cod.uncorrSeen then s else raiseAt 132 unit 0 { s with cod.uncorrSeen := true }

/-- The client takes its words from the fixed output of the decoder: Class 0, and every class in an interoperable mode (R253). -/
def State.takesFixed (s : State) (c : Nat) : Bool := decide (s.classOf c = 0) || s.rxInterop

/-- A block leaves both outputs, in its order and with one uncorrected flag (R214); how long the fixed one holds it is timing. Of an
uncorrected one, the 66-bit blocks of the clients of types 1 to 6 that are not replaced become error blocks (R257). -/
def deliverBlock (uncorrected : Bool) (s : State) : State :=
  let hit := fun (fixed : Bool) (s : State) => if uncorrected then
      overAll (s.usedClients.filter fun c =>
          decide (s.clientType c ≤ 6) && !(s.client c).replacing && s.takesFixed c == fixed)
        (fun c s => s.send (.errorBlocks c)) s
    else s
  hit true ((hit false (s.send (.block false uncorrected))).send (.block true uncorrected))

/-- `BLOCK_DECODED` (R212 to R216, R221, R224): with sync held the block is counted and delivered, and the 1,024th bad one in a row loses
sync; otherwise it scores the candidate phase, and the 16th good one in a row gives sync, and what is delivered is uncorrected, also while the decoder
is halted. A block is a termination block only where an announced change has closed the chain (R205) (DESIGN CHOICE, log entry 5). -/
def execBlockDecoded (b : BlockResult) (s : State) : Result :=
  if s.rxInterop ∨ s.decoding = false then .next { s with cod.blockBad := false }
  else if s.cod.halted then .next (deliverBlock true { s with cod.blockBad := false })
  else
    let b := { b with termination := b.termination && s.cod.termDue }
    let run := iterationsOf b s.effectiveCap (s.cfgB Param.bdeEarlyStop)
    let uncorrected := s.cod.blockBad || (!run.2 && decide (3 < b.outerErrors))
    let goodBlock := decide (b.unsatPpm ≤ s.cfgN Param.bdeSyncPpm)
    let s := { s with cod.blockBad := false, cod.termDue := s.cod.termDue && !b.termination }
    if s.cod.sync then
      let bad := if goodBlock then 0 else s.cod.badBlocks + 1
      let s1 := { s with
        cod.ctr := countBlock b (blockLabels s.rxd.constellation).1 run.1 run.2 uncorrected s.cod.ctr
        cod.badBlocks := bad }
      let s1 := deliverBlock uncorrected (if uncorrected then noteUncorrected 1 s1 else s1)
      .next (if 1024 ≤ bad then decoderLoses s1 else s1)
    else
      let s := deliverBlock true s
      if s.rxd.rxState ≠ .decode ∧ s.rxd.rxState ≠ .locked then .next s
      else if goodBlock = false then
        .next { s with cod.candidate := (s.cod.candidate + 1) % 1024, cod.goodBlocks := 0 }
      else if s.cod.goodBlocks + 1 < 16 then .next { s with cod.goodBlocks := s.cod.goodBlocks + 1 }
      else
        .next (decoderGains 1 { s with cod.sync := true, cod.phase := s.cod.candidate, cod.goodBlocks := 0,
                                       cod.badBlocks := 0, cod.fail := false, cod.cleanWindows := 0 })

/-- `PARITY_ERROR` (R213, R219): counted, reported, and at 256 errors within 1 s the cluster is degraded. Gated clusters have none
(R226, Table 6.5). -/
def execParityError (cluster : Fin 16) (s : State) : Result :=
  if s.decoding = false ∨ s.rxInterop then .next s else
  let times := (s.now :: (s.cod.clusterErrs[cluster].filter fun t => decide (s.now < t + usPerS))).take 256
  let s1 := raise 134 { s with cod.parityErrs := satInc 32 s.cod.parityErrs,
                               cod.clusterErrs := s.cod.clusterErrs.set cluster times }
  .next (if 256 ≤ times.length then degradeCluster cluster s1 else s1)

/-- `FAST_BER_WINDOW` (R222, R227): an estimate above the fail threshold sets the fail indication;
`fail_clear_windows` windows at or below 0.9 times it clear it. -/
def execFastBerWindow (berPpb : Nat) (s : State) : Result :=
  if s.decoding = false then .next s
  else
    let s1 := if s.rxInterop then s else { s with cod.fastBer := berPpb % 2 ^ 32 }
    let t := s.failThreshold
    if t < berPpb then .next { setFail s1 with cod.cleanWindows := 0 }
    else if 10 * berPpb ≤ 9 * t then
      let n := s.cod.cleanWindows + 1
      let clear := s.decoderLocked && decide (s.cfgN Param.bdeFailClearWindows ≤ n)
      .next { s1 with
        cod.cleanWindows := n
        cod.fail := s1.cod.fail && !(clear && !s.rxInterop)
        cod.ifdFail := s1.cod.ifdFail && !(clear && s.rxInterop) }
    else .next { s1 with cod.cleanWindows := 0 }

/-- `IFD_FRAME` (R226): three alignments in a row give frame lock, five misses in a row lose it; a frame decoded under lock
is counted (Table 6.10). -/
def execIfdFrame (aligned : Bool) (codedBits corrected uncorrected : Nat) (s : State) : Result :=
  if s.rxInterop = false ∨ s.decoding = false then .next s
  else
    let add := fun (x y : Nat) => (x + y) % 2 ^ 64
    let c := s.cod.ifdCtr
    let s1 := if s.cod.frameLock then
        { s with cod.ifdCtr := { c with bits := add c.bits codedBits, corr := add c.corr corrected,
                                        uncorr := add c.uncorr uncorrected } }
      else s
    let s1 := if s.cod.frameLock && decide (0 < uncorrected) then noteUncorrected 3 s1 else s1
    if aligned then
      let s1 := { s1 with cod.hits := s.cod.hits + 1, cod.misses := 0 }
      if s.cod.frameLock = false ∧ 3 ≤ s.cod.hits + 1 ∧ (s.rxd.rxState = .decode ∨ s.rxd.rxState = .locked) then
        .next (decoderGains 3 { s1 with cod.frameLock := true, cod.ifdFail := false, cod.cleanWindows := 0 })
      else .next s1
    else
      let s1 := { s1 with cod.hits := 0, cod.misses := s.cod.misses + 1 }
      .next (if s.cod.frameLock ∧ 5 ≤ s.cod.misses + 1 then decoderLoses s1 else s1)

/-- `FEC_RESYNC` (R216, R233): forces loss of sync or frame lock and a new search; a target that the receive direction does
not use is not supported. -/
def execFecResync (req : Request) (s : State) : Result :=
  .next (serveTarget req s [(8, 1), (8, 3)] true fun s =>
    if req.payload ≠ [] then respond req (refusal stBadValue) s
    else if s.rxInterop ≠ decide (req.target.unit = 3) then respond req (refusal stNotSupported) s
    else respond req okReply (decoderLoses s))

/-- End an injection of `BEN` or `IFE` (R229): the inverted bits are counted for `BEN`, and `EV138` is raised. -/
def endInjection (ife : Bool) (s : State) : State :=
  if ife then
    if s.cod.ifeInject.isSome then raiseAt 138 2 0 { s with cod.ifeInject := none } else s
  else
    if s.cod.benInject.isSome then raiseAt 138 0 0 { settleInjection s with cod.benInject := none } else s

/-- `FEC_INJECT` (R229, R233): starts an injection at a rate for a time, or stops it with rate 0. -/
def execFecInject (req : Request) (s : State) : Result :=
  .next (serveTarget req s [(8, 0), (8, 2)] true fun s =>
    let rate := u32At req.payload 0
    let ms := u32At req.payload 4
    let ife := decide (req.target.unit = 2)
    if s.txInterop ≠ ife then respond req (refusal stNotSupported) s
    else if req.payload.length ≠ 8 ∨ (rate ≠ 0 ∧ (rate < 1000 ∨ 100000000 < rate)) ∨
        ms = 0 ∨ 3600000 < ms then respond req (refusal stBadValue) s
    else if rate = 0 then respond req okReply (endInjection ife s)
    else
      let i : Injection := { ratePpb := rate, since := s.now, until_ := s.now + ms * 1000 }
      respond req okReply
        (if ife then { s with cod.ifeInject := some i } else { settleInjection s with cod.benInject := some i }))

/-- `INJECT_END` (R229): the requested time of an injection ends. -/
def execInjectEnd (ife : Bool) (s : State) : Result :=
  match if ife then s.cod.ifeInject else s.cod.benInject with
  | none => .next s
  | some i => .next (endInjection ife (s.reach i.until_))

/-- The Unit that reports a failing part (R230, Table 6.11). -/
def codPartUnit : CodPart → Nat
  | .encoder => 0
  | .outerCode => 1
  | .ifd => 3

/-- The clusters are tested: those that pass return to service, whatever had degraded them, and those that fail are degraded (R213). -/
def testClusters (failed : BitVec 16) (s : State) : State :=
  let s := { s with
    cod.degraded := s.cod.degraded &&& failed
    cod.clusterErrs := vgen 16 fun i => if failed.getLsbD i.val then s.cod.clusterErrs[i] else [] }
  judgeCap (overAll ((indices 16).filter fun i => failed.getLsbD i.val) degradeCluster s)

/-- `COD_SELFTEST` (R213, R230): the test that start-up, a Unit reset of `BDE` or a Section reset has made due. A failure of the outer code, the
encoder or `IFD` raises `EV139`, COD is not released, and at start-up the sequencer reports it; otherwise
COD is released, and with it TXD if it has not been. After a Unit reset of `BDE` the clusters alone
are tested. -/
def execCodSelftest (failedClusters : BitVec 16) (failed : Option CodPart) (s : State) : Result :=
  match s.cod.testing with
  | none => .next s
  | some whole =>
    let s := testClusters failedClusters { s with cod.testing := none }
    match whole, failed with
    | true, some p => .next (reportSelftest (raiseAt 139 (codPartUnit p) 0 { settleInjection s with cod.released := false }))
    | true, none => .next (releaseTxd { settleInjection s with cod.released := true })
    | false, _ => .next s

/-- The end of a 1 s PM interval in COD (R223, R224): the degrade indication, `EV136`, and the first uncorrected block of the
next interval. -/
def codInterval (s : State) : State :=
  let zr := s.rxInterop
  let c := if zr then s.cod.ifdCtr else s.cod.ctr
  let a := if zr then s.cod.ifdCtrAt else s.cod.ctrAt
  let d := fun (x y : Nat) => (x + 2 ^ 64 - y) % 2 ^ 64
  let nbits := d c.bits a.bits
  let ppbTimesBits := d c.corr a.corr * 1000000000
  let t := s.degradeThreshold
  let was := if zr then s.cod.ifdDegrade else s.cod.degrade
  let is_ := if nbits = 0 then was
    else if t * nbits < ppbTimesBits then true
    else if 10 * ppbTimesBits ≤ 9 * t * nbits then false
    else was
  let s1 := { s with cod.uncorrSeen := false, cod.ctrAt := s.cod.ctr, cod.ifdCtrAt := s.cod.ifdCtr,
                     cod.degrade := if zr then s.cod.degrade else is_,
                     cod.ifdDegrade := if zr then is_ else s.cod.ifdDegrade }
  let s1 := if is_ && !was then raiseAt 131 (if zr then 3 else 1) 0 s1 else s1
  let nblocks := d s.cod.ctr.blocks s.cod.ctrAt.blocks
  let ncapped := d s.cod.ctr.capped s.cod.ctrAt.capped
  if !zr && decide (s.cfgN Param.bdeCapWarnPermille * nblocks < 1000 * ncapped) then raise 136 s1 else s1

/-- `COD` fails its self-test and is not released (R230). -/
def Cod.failedTest (c : Cod) : Bool := c.testing.isNone && !c.released

/-- COD after a commit (R213): a new `iter_cap`, and a change of the FEC in use; a decoder that is not in use indicates nothing. -/
def codCommitted (s : State) : State :=
  judgeCap { s with
    cod.fail := s.cod.fail && !s.rxInterop
    cod.degrade := s.cod.degrade && !s.rxInterop
    cod.ifdFail := s.cod.ifdFail && s.rxInterop
    cod.ifdDegrade := s.cod.ifdDegrade && s.rxInterop }

/-- A Unit reset inside COD (Table 6.5): `BEN` starts a new chain at its next block; the clusters of `BDE` are tested again; a decoder in use
loses its lock, and keeps the fail indication that this sets until it has lock again (R222). The counters are cleared after that loss, so that
they read 0, and an injection that is ended raises `EV138` (DESIGN CHOICE, log entry 109). -/
def resetCodUnit (unit : Nat) (s : State) : State :=
  match unit with
  | 0 =>
    let open_ := decide (0 < s.chainPeriods.2)
    { endInjection false s with
             cod.benInjected := 0,
             cod.chainBlock := s.cod.chainBlock + s.chainPeriods.1 + (if open_ then 1 else 0) }
  | 1 =>
    let s := if s.rxInterop then s else decoderLoses s
    judgeCap { s with cod.ctr := {}, cod.ctrAt := {}, cod.parityErrs := 0, cod.syncLosses := 0, cod.fastBer := 0, cod.phase := 0,
                      cod.degrade := false, cod.cleanWindows := 0, cod.uncorrSeen := false, cod.blockBad := false,
                      cod.returnBad := false, cod.termDue := false, cod.testing := some (s.cod.testing.getD false) }
  | 2 => endInjection true s
  | _ =>
    let s := if s.rxInterop then decoderLoses s else s
    { s with cod.ifdCtr := {}, cod.ifdCtrAt := {}, cod.frameLosses := 0, cod.ifdDegrade := false }

/-- A Section reset of COD: defaults and self-test (Table 6.5). -/
def resetCod (s : State) : State :=
  { overAll (List.range 4) resetCodUnit s with cod.released := false, cod.testing := some true }

/-! ### What the encoders make of a block (R205 to R211, R225) -/

/-- The information bits of the next block, and how they are split over the matchers and the slots, in the format in use. -/
def State.blockInput (s : State) (termination : Bool) (client : List Bool) : List (List Bool) × List Bool :=
  splitInformation s.txd.constellation (matcherBits s.txd.constellation s.txd.entropy)
    (blockInformation s.txd.entropy (s.cfgN Param.beFec) termination client)

/-- The labels of the next block in the format in use: the matchers or their bypass, the filling bits and the inner parity (R210, R211). `n` are the
symbol periods that the block holds, 1,024 unless it is closed early (R173); `u1` and `u2` the information labels of the two blocks before it. -/
def State.encoded (s : State) (termination : Bool) (n : Nat) (client u1 u2 : List Bool) : List Bool :=
  let x := s.blockInput termination client
  encodeBlock s.txd.constellation s.txd.entropy (s.cfgN Param.beFec)
    (shapedLabels s.txd.constellation s.txd.entropy s.txd.shaped n x.1) x.2 u1 u2

/-- The termination block that a restart of the chain at the present superframe closes: only the label bits of its symbol periods are sent
(R173, R205). -/
def State.terminationLabels (s : State) (u1 u2 : List Bool) : List Bool :=
  let n := s.chainPeriods.2
  (s.encoded true n [] u1 u2).take (4 * max 1 (s.txd.constellation + 1) * n)

/-- The coded frame of the interoperable mode in use (R225) (DESIGN CHOICE, log entry 102). -/
def State.zrEncoded (s : State) (client : List Bool) : List Bool := Config.zrFrame (s.cfgN Param.beFec) client

end Sys2Proof.Machine
end

