-- ==== Sys2Proof/Machine/Cipher.lean ====
section
/-!
DEFINITION. SEC: key slots, cipher channels, segments, verdicts and the self-test (chapter 8). `KEY_ACTIVATE` and
`KEY_CHANGEOVER` stand with the arbiter.
-/
namespace Sys2Proof.Machine

/-- A cipher channel number. -/
abbrev ChannelId := Fin 64

/-- The slot of a channel named by its last bit: 2c or 2c + 1 (R266). -/
def slotOf (c : ChannelId) (b : Bool) : Fin 128 := ⟨2 * c.val + bit b, by cases b <;> simp [bit] <;> omega⟩

/-- The channel of a slot. -/
def slotChannel (i : Fin 128) : ChannelId := ⟨i.val / 2, by omega⟩

/-- Which of the two slots of its channel a slot is. -/
def slotBit (i : Fin 128) : Bool := decide (i.val % 2 = 1)

/-- The target of a slot. -/
def slotPath (i : Fin 128) : Path := ⟨10, 1, i.val⟩

/-- The channel, and a change of it. -/
def State.channel (s : State) (c : ChannelId) : Channel := s.sec.channels[c]
def State.onChannel (s : State) (c : ChannelId) (f : Channel → Channel) : State :=
  { s with sec.channels := vmod s.sec.channels c f }

/-- The slot, and a change of it. -/
def State.slot (s : State) (i : Fin 128) : KeySlot := s.sec.slots[i]
def State.onSlot (s : State) (i : Fin 128) (f : KeySlot → KeySlot) : State := { s with sec.slots := vmod s.sec.slots i f }

/-- The slot counts as `LOADED`: it is, and has no `FAULT` (R288) (DEDUCED, log entry 70). -/
def KeySlot.usable (k : KeySlot) : Bool := k.loaded && !k.fault

/-- The transmit key is usable (Table 8.11 `TX_KEY`). -/
def State.txKey (s : State) (c : ChannelId) : Bool :=
  (s.channel c).txUsing && (s.slot (slotOf c (s.channel c).txSlot)).usable

/-- The receive key is usable (Table 8.11 `RX_KEY`). -/
def State.rxKey (s : State) (c : ChannelId) : Bool :=
  (s.channel c).rxUsing && (s.slot (slotOf c (s.channel c).rxSlot)).usable

/-- The slot is used for transmit, for receive (Table 8.11). -/
def State.txUse (s : State) (i : Fin 128) : Bool :=
  (s.channel (slotChannel i)).txUsing && (s.channel (slotChannel i)).txSlot == slotBit i
def State.rxUse (s : State) (i : Fin 128) : Bool :=
  (s.channel (slotChannel i)).rxUsing && (s.channel (slotChannel i)).rxSlot == slotBit i

/-- A pending activation names the slot. -/
def State.slotPending (s : State) (i : Fin 128) : Bool :=
  (s.channel (slotChannel i)).pending.any fun p => p.slot == slotBit i

/-- The slot is in use (R277). -/
def State.slotInUse (s : State) (i : Fin 128) : Bool := s.txUse i || s.rxUse i || s.slotPending i

/-- `mode` and `client` of a channel in one direction. -/
def State.encrypted (s : State) (d : Dir) (c : ChannelId) : Bool := decide (s.cfgDir d Param.cipMode c.val ≠ 0)
def State.carried (s : State) (d : Dir) (c : ChannelId) : Nat := (s.cfgDir d Param.cipClient c.val).toNat

/-! ### Dummy share (R282) -/

/-- The bit rate of the ODU that a client forms, in kb/s (R246, R267). -/
def State.oduKbps (s : State) (c : Nat) : Nat :=
  let t := s.clientType c
  if t = 1 ∨ t = 7 then 104794446
  else if t ≤ 6 then s.unitsOf c * 25781250 * 239 / 238
  else if t = 8 then (s.client c).hostKbps
  else s.unitsOf c / 5 * 105258138

/-- The core clock in kHz: the sample rate over 256. -/
def State.coreKHz (s : State) : Nat := sampleRateOf s.symbolRate / 256

/-- The ciphered load L in 1/1,000 bit per core cycle: the payload areas of the clients of the encrypted channels (DEDUCED, log entry 72). -/
def State.cipherLoad (s : State) : Nat :=
  let kbps := ((indices 64).map fun c =>
    if s.encrypted .tx c ∧ s.carried .tx c < 64 ∧ s.clientUsed (s.carried .tx c) then s.oduKbps (s.carried .tx c) else 0).sum
  kbps * 1000 * 3808 / 3824 / s.coreKHz

/-- The dummy share in force in per mille: `dummy_permille`, or less so that 5 % of the cores stay free. -/
def State.dummyShare (s : State) : Nat :=
  min (s.cfgN Param.cipDummyPermille) (950 - (s.cipherLoad + 128 * s.sec.cores - 1) / (128 * s.sec.cores))

/-- Recompute the dummy share (R282): `EV175` at a reduction below `dummy_permille` (DEDUCED, log entry 72). -/
def judgeDummy (s : State) : State :=
  if s.sec.released = false then s
  else
    let d := s.dummyShare
    let low := decide (d < s.cfgN Param.cipDummyPermille)
    let s1 := { s with sec.dummy := d, sec.dummyReduced := low }
    if low && (!s.sec.dummyReduced || decide (d < s.sec.dummy)) then raise 175 s1 else s1

/-! ### Zeroisation (R280) -/

/-- Answer the `KEY_ACTIVATE` that waits for a channel, if its response has not been lost. -/
def answerActivation (c : ChannelId) (rep : Reply) (s : State) : State :=
  match s.mgt.waiting.find? fun w => match w with
    | .keyActivate _ k => k == c.val
    | _ => false with
  | some (.keyActivate r k) =>
    respond r rep { s with mgt.waiting := s.mgt.waiting.filter fun w => decide (w ≠ .keyActivate r k) }
  | _ => s

/-- Cancel the pending activation of a channel: its superframe is free again, and it is answered `NOT_PERMITTED`. -/
def cancelActivation (c : ChannelId) (s : State) : State :=
  match (s.channel c).pending with
  | none => s
  | some _ =>
    let s := s.onChannel c fun k => { k with pending := none }
    let s := { s with txd.reserved := s.txd.reserved.filter fun r => decide (r.holder ≠ .key c.val) }
    answerActivation c (refusal stNotPermitted) s

/-- A load that a zeroisation cuts short leaves no result (DEDUCED, log entry 72). -/
def cancelLoading (i : Fin 128) (s : State) : State :=
  match (s.slot i).loading with
  | none => s
  | some l => s.onSeat l.seat fun q => { q with keyResult := 0 }

/-- Zeroise a slot (R280): `EV166`; what uses the slot stops, and epochs become undefined when both slots are empty
(DEDUCED, log entry 70). -/
def zeroise (i : Fin 128) (s : State) : State :=
  let c := slotChannel i
  let pend := s.slotPending i
  let tx := s.txUse i
  let rx := s.rxUse i
  let s := (cancelLoading i s).onSlot i fun _ => {}
  let s := s.onChannel c fun k => { k with txUsing := k.txUsing && !tx, rxUsing := k.rxUsing && !rx }
  let s := raiseFor 166 i.val s
  let s := if pend then cancelActivation c s else s
  if (s.slot (slotOf c false)).loaded = false ∧ (s.slot (slotOf c true)).loaded = false then
    s.onChannel c fun k => { k with txEpoch := none, rxEpoch := none, rxEmptied := k.rxEmptied || k.rxEpoch.isSome }
  else s

/-- Why a request to a slot is refused before its own checks: KQ3200-N-FB900 supports none (R289). -/
def State.cipherFused (s : State) : Bool := !s.fuses.encEnabled

/-- The slot that a target names. -/
def slotOfPath (p : Path) : Fin 128 := ⟨p.inst % 128, Nat.mod_lt _ (by decide)⟩

/-- The channel that a target names. -/
def channelOfPath (p : Path) : ChannelId := ⟨p.inst % 64, Nat.mod_lt _ (by decide)⟩

/-- `KEY_ZEROISE` (R280): the slot, or every slot that the seat owns. -/
def execKeyZeroise (req : Request) (s : State) : Result :=
  .next (serveTarget req s [(10, 1)] true fun s =>
    if s.cipherFused then respond req (refusal stNotSupported) s
    else if req.payload.length ≠ 1 ∨ 1 < byteAt req.payload 0 then respond req (refusal stBadValue) s
    else
      let slots :=
        if byteAt req.payload 0 = 0 then [slotOfPath req.target]
        else (indices 128).filter fun i => s.owns req.seat (slotPath i)
      respond req okReply (refreshClients (overAll slots zeroise s)))

/-! ### Key loading (R276) -/

/-- The seat owns some `SEC.KEY` instance. -/
def State.ownsSomeSlot (s : State) (i : SeatId) : Bool := (indices 128).any fun k => s.owns i (slotPath k)

/-- A write to `KEY_DATAi` (R276): allowed to a seat that owns any slot, and a write by any other seat is a violation of
type 6 (R40). -/
def writeKeyData (i : SeatId) (n : Fin 8) (v : Word) (s : State) : State :=
  if (s.seat i).quarantined then s
  else if s.ownsSomeSlot i = false then refuseWrite i (violation i 6 0 s)
  else if s.resetRequired ⟨10, 1, 0⟩ then s
  else s.onSeat i fun q => { q with keyStage := q.keyStage.set n v }

/-- A refused key load (Table 8.4). A seat has one `RESULT`, which shows what happened last, also while an earlier load of it goes on
(DESIGN CHOICE, log entry 72). -/
def keyLoadRefused (i : SeatId) (slot result : Nat) (s : State) : State :=
  raiseFor 163 slot (s.onSeat i fun q => { q with keyResult := result })

/-- `KEY_LOAD` (R276): a write of the register is judged by Table 8.4, and a good one begins to load the slot. The staging
is zeroed. -/
def execKeyLoad (seat : SeatId) (value : Word) (s : State) : Result :=
  whenOpen seat ⟨10, 1, 0⟩ true (.keyLoad seat value) s <|
  if (s.seat seat).quarantined ∨ s.resetRequired ⟨10, 1, 0⟩ then .next s
  else
    let i : Fin 128 := ⟨value.toNat % 128, Nat.mod_lt _ (by decide)⟩
    let key := (s.seat seat).keyStage
    let check := crc32c (key.toList.flatMap fun w => leBytes 4 w.toNat) % 65536
    let s1 := s.onSeat seat fun q => { q with keyStage := Vector.replicate 8 0 }
    if s.cipherFused then .next (keyLoadRefused seat i.val 5 s1)
    else if s.owns seat (slotPath i) = false then .next (keyLoadRefused seat i.val 2 s1)
    else if s.slotInUse i then .next (keyLoadRefused seat i.val 3 s1)
    else if bits value.toNat 16 16 ≠ check then .next (keyLoadRefused seat i.val 4 s1)
    else
      let s1 := (cancelLoading i s1).onSlot i fun k => { k with loading := some ⟨seat, key, s.now⟩ }
      .next (s1.onSeat seat fun q => { q with keyResult := 7 })

/-- `KEY_LOAD_DONE` (R276): within 5 µs the slot holds the key and its check value, `RESULT` is 1 and `EV162` is raised; an
uncorrectable error of the key store leaves the slot as it was with `FAULT` and `RESULT` 6 (DEDUCED, log entry 72). -/
def execKeyLoadDone (slot : Fin 128) (storeOk : Bool) (s : State) : Result :=
  match (s.slot slot).loading with
  | none => .next s
  | some l =>
    if storeOk then
      let s1 := s.onSlot slot fun _ => { loaded := true, key := l.key, kcv := keyCheckValue l.key }
      .next (raiseFor 162 slot.val (s1.onSeat l.seat fun q => { q with keyResult := 1 }))
    else
      let s1 := s.onSlot slot fun k => { k with fault := true, loading := none }
      .next (refreshClients (raiseFor 174 slot.val (keyLoadRefused l.seat slot.val 6 s1)))

/-! ### Transmit segments (R269 to R273) -/

/-- The IV of a segment as a number, its first byte highest (R271). -/
def cipherIv (role : Bool) (c : ChannelId) (epoch counter : Nat) : Nat :=
  fieldAt (bit role) 95 1 + fieldAt c.val 88 6 + fieldAt epoch 64 24 + fieldAt counter 0 64

/-- The IV that a channel sends with, and the one that it receives with, which takes the complement of its own role (R271). -/
def State.txIv (s : State) (c : ChannelId) (epoch counter : Nat) : Nat := cipherIv (s.cfgB Param.cipRole) c epoch counter
def State.rxIv (s : State) (c : ChannelId) (epoch counter : Nat) : Nat := cipherIv (!s.cfgB Param.cipRole) c epoch counter

/-- The control byte of frame 0 of a segment (Table 8.3). -/
def controlByte (tagValid parity role noKey : Bool) : Nat :=
  1 + 2 * bit tagValid + 4 * bit parity + 8 * bit role + 16 + 32 * bit noKey

/-- The power state that a channel follows: that of its client's group (R537, Table 8.7). -/
def State.cipherPower (s : State) (d : Dir) (c : ChannelId) : Nat := s.clientPower (s.carried d c)

/-- The frames of one transmit segment (R268): as many as `segment_frames` says. -/
def State.segmentFrames (s : State) (c : ChannelId) (frames : List OduFrame) : List OduFrame :=
  (List.range (s.cfgN Param.cipSegmentFrames c.val)).map fun i => frames.getD i []

/-- The frames of the next transmit segment of a channel as sent, its tag, and the parity of its last frames (R268 to R273): enciphered under
the key, epoch and counter in force, or without a usable key as zeros. -/
def State.sentSegment (s : State) (c : ChannelId) (keyed : Bool) (frames : List OduFrame) :
    List OduFrame × Nat × List (List Byte) :=
  let k := s.channel c
  let epoch := k.txEpoch.getD 0
  let key := keyBytes (s.slot (slotOf c k.txSlot)).key
  let iv := s.txIv c epoch k.txCounter
  let control := controlByte (keyed && k.txTag.isSome) (decide (epoch % 2 = 1)) (s.cfgB Param.cipRole) (!keyed)
  let body := if keyed then cipherPayload key iv frames
    else frames.map fun f => f.map fun x => { x with payload := x.payload.map fun _ => 0 }
  let r := carryBip k.txBips (withOverhead control epoch k.txCounter (if keyed then k.txTag else none) body)
  (r.1, segmentTag key iv (s.cfgN Param.cipAadMask c.val) r.1, r.2)

/-- A segment below Class 0 is suspended by Class 0 blocks at some of its blocks (R283): each is counted, and the context of the last one is in
the store until it resumes. `slot`, `epoch`, `counter` and `line` are those of the segment (DEDUCED, log entry 107). -/
def suspend (c : ChannelId) (tx : Bool) (slot : Fin 128) (epoch counter : Nat) (line : List OduFrame) (at_ : List Nat) (s : State) : State :=
  if s.classOf (s.carried (if tx then .tx else .rx) c) = 0 then s
  else
    let aad := (authBytes (s.cfgN Param.cipAadMask c.val) line).map BitVec.toNat
    let text := (payloadBytes line).map BitVec.toNat
    let keep := fun (n : Nat) => (⟨tx, slot.val, epoch, counter, n,
      gcmAccumulator (keyBytes (s.slot slot).key) aad text n, aad.length, text.length⟩ : CipherContext)
    { s with sec.preemptions := satInc 32 s.sec.preemptions at_.length,
             sec.contexts := s.sec.contexts.set c (at_.getLast?.map keep) }

/-- `TX_SEGMENT` (R268 to R273, R283): a transmit segment of an encrypted channel begins. With a usable key its frames are
enciphered under the key, epoch and counter in force, and carry the tag of the segment before; without one, or while SEC is not released, they
are sent as zeros with `NO_KEY`, and `EV167` is raised when that begins. `suspensions` are the blocks at which it is suspended
(DEDUCED, log entry 71; DESIGN CHOICE, log entry 74). With `mode` = 0 the frames pass in clear (R267, R269). -/
def execTxSegment (channel : Fin 64) (frames : List OduFrame) (suspensions : List Nat) (s : State) : Result :=
  let client := s.carried .tx channel
  if 63 < client ∨ 2 ≤ s.cipherPower .tx channel then .next s
  else if s.encrypted .tx channel = false then .next (s.send (.segment channel.val (clearFrames (s.clientType client) frames)))
  else
    let k := s.channel channel
    let keyed := s.sec.released && s.txKey channel
    let sent := s.sentSegment channel keyed (s.segmentFrames channel frames)
    let s1 := s.send (.segment channel.val sent.1)
    let s1 := s1.onChannel channel fun k =>
      { k with txCounter := if keyed || k.txEpoch.isSome then (k.txCounter + 1) % 2 ^ 64 else k.txCounter
               txTag := if keyed then some sent.2.1 else none, txNoKey := !keyed, txBips := sent.2.2 }
    if keyed then .next (suspend channel true (slotOf channel k.txSlot) (k.txEpoch.getD 0) k.txCounter sent.1 suspensions s1)
    else .next (if k.txNoKey then s1 else raiseFor 167 channel.val s1)

/-! ### Receive segments (R274, R275, R279) -/

/-- The slot that the receiver goes to (R279): the other one. Before a receive epoch has ever been set, the other one unless only the
present one is loaded (DEDUCED, log entry 71). -/
def State.followSlot (s : State) (c : ChannelId) : Bool :=
  let k := s.channel c
  let other := !k.rxSlot
  if k.rxEpoch.isNone && !k.rxEmptied && !(s.slot (slotOf c other)).usable && (s.slot (slotOf c k.rxSlot)).usable then k.rxSlot
  else other

/-- The epoch part of a segment start whose key parity differs (R279) (DEDUCED, log entry 71). -/
def followEpoch (c : ChannelId) (epoch : Nat) (s : State) : State :=
  let k := s.channel c
  if k.rxEpoch = none ∨ k.rxEpoch = some (epoch - 1) ∧ epoch ≠ 0 then
    let b := s.followSlot c
    if (s.slot (slotOf c b)).usable then
      let s := s.onChannel c fun k =>
        { k with rxSlot := b, rxUsing := true, rxEpoch := some epoch, rxEmptied := false, rxNoKey := false,
                 rxStray := false }
      raiseFor 165 c.val { s with txd.rxReserved := s.txd.rxReserved ++ [⟨s.rxd.sf, .partner⟩] }
    else
      let s1 := s.onChannel c fun k => { k with rxNoKey := true }
      if k.rxNoKey then s1 else raiseFor 167 c.val s1
  else s.onChannel c fun k => { k with rxStray := true }

/-- Judge the mismatches with the partner (R275). `ROLE` is judged where the partner encrypts (DEDUCED, log entry 71). -/
def judgePartner (c : ChannelId) (mode : Bool) (control : Byte) (s : State) : State :=
  let k := s.channel c
  let enc := control.getLsbD 4
  let t := s.clientType (s.carried .rx c)
  let mism := (mode && !enc && decide (1 ≤ t ∧ t ≤ 6)) || (enc && !mode)
  let conf := enc && control.getLsbD 3 == s.cfgB Param.cipRole
  let s := s.onChannel c fun k => { k with encMismatch := mism, roleConflict := conf }
  let s := if mism && !k.encMismatch then raiseFor 172 c.val s else s
  if conf && !k.roleConflict then raiseFor 173 c.val s else s

/-- The segment that has ended waits for its verdict if it was decrypted (R286): it can only be unverified if it is in doubt or was not read
complete, or if the next one carries no tag of it or is too short to carry it. -/
def endSegment (c : ChannelId) (r : ReadSegment) (s : State) : State :=
  s.onChannel c fun k =>
    let judged := k.rxRuns && s.rxKey c && decide (s.cipherPower .rx c = 0)
    let doubt := k.rxDoubt || !k.rxRead || !r.control.getLsbD 1 || r.whole.isNone
    { k with due := if judged then some ⟨k.rxCounter, doubt, k.rxTag, (r.whole.map fun w => w.2.2).getD 0⟩ else none
             rxSync := k.rxRead && s.sec.released, rxSilent := r.control.getLsbD 5
             rxDoubt := decide (s.cipherPower .rx c = 1), rxRead := false, rxRuns := false, rxHeld := [] }

/-- The receiver has read a segment complete (R274, R279): it follows a changeover, and judges the counter against its prediction. -/
def readCounter (c : ChannelId) (read : Bool) (control : Byte) (epoch counter : Nat) (s : State) : State :=
  let k := s.channel c
  let follow := k.rxEpoch.all fun r => decide ((r % 2 = 1) ≠ control.getLsbD 2)
  let s1 := if follow then followEpoch c epoch s else s
  let jump := read && !follow && decide (counter ≠ (k.rxCounter + 1) % 2 ^ 64)
  s1.onChannel c fun k => { k with rxRead := true, rxCounter := counter, rxDoubt := k.rxDoubt || jump }

/-- Decrypt a segment that has begun, from block `from_` on (R268, R271, R274, R290): its frames are delivered, and the tag over it is computed with
the counter that the receiver has for it, its prediction or, with a new epoch, the one read. Frames of types 7 to 9 have their overhead put in
order, and the first ones after a failed segment carry its mark (R286). -/
def decryptSegment (c : ChannelId) (counter from_ : Nat) (frames : List OduFrame) (suspensions : List Nat) (s : State) : State :=
  let k := s.channel c
  let slot := slotOf c k.rxSlot
  let key := keyBytes (s.slot slot).key
  let epoch := k.rxEpoch.getD 0
  let iv := s.rxIv c epoch counter
  let plain := cipherPayload key iv frames
  let out := deliverBip k.rxBips k.rxMark frames plain
  let client := s.carried .rx c
  let s1 := s.onChannel c fun k =>
    { k with rxTag := segmentTag key iv (s.cfgN Param.cipAadMask c.val) frames, rxBips := out.2, rxRuns := true, rxHeld := [],
             rxMark := (k.rxMark.1, k.rxMark.2 - frames.length) }
  suspend c false slot epoch counter frames suspensions
    (s1.send (.delivered client (fromBlock from_ (if 7 ≤ s.clientType client then out.1 else plain))))

/-- The receiver has what decryption of a segment takes: sync, a key that the segment's epoch uses, and a segment that carries no `NO_KEY`
(R273, R274, R279). -/
def State.decrypts (s : State) (c : ChannelId) : Bool :=
  let k := s.channel c
  k.rxSync && s.rxKey c && !k.rxSilent && !k.rxNoKey && !k.rxStray

/-- `RX_SEGMENT_START` (R268, R274, R275, R279, R286): a received `SOS`, with the frames of the segment that it begins. The receiver decrypts
from the first segment after one that it has read complete; it checks the counter against its prediction and follows the partner's
changeover. In P1 it tracks and does not decrypt. Frames without `SOS` or `ENC` begin no segment. With `mode` = 0 the frames pass in clear
(R267, R269) (DESIGN CHOICE, log entry 74). -/
def execRxSegmentStart (channel : Fin 64) (frames : List OduFrame) (suspensions : List Nat) (s : State) : Result :=
  if 63 < s.carried .rx channel ∨ 2 ≤ s.cipherPower .rx channel ∨ s.decoderLocked = false ∨ (s.frm.lof ∧ s.rxInterop = false) then
    .next s
  else
    let mode := s.encrypted .rx channel
    let r := readSegment frames
    let s := judgePartner channel mode r.control s
    if mode = false then .next ((refreshClients s).send (.delivered (s.carried .rx channel) frames))
    else if r.begins = false then .next (refreshClients s)
    else
      let k := s.channel channel
      let s1 := endSegment channel r s
      let s2 := match r.whole with
        | none => s1
        | some (e, n, _) => readCounter channel k.rxRead r.control e n s1
      let moved := (s2.channel channel).rxEpoch ≠ k.rxEpoch
      let counter := if moved then (s2.channel channel).rxCounter else (k.rxCounter + 1) % 2 ^ 64
      .next (refreshClients (
        if s2.decrypts channel = false then s2
        else if s.cipherPower .rx channel = 0 then decryptSegment channel counter 0 frames suspensions s2
        else s2.onChannel channel fun k => { k with rxHeld := frames }))

/-! ### Verdicts (R286, R287) -/

/-- A fail verdict: counted, reported, marked in the next four frames delivered for types 7 to 9, and the policy acts. -/
def verdictFails (c : ChannelId) (counter : Nat) (s : State) : State :=
  let s := s.onChannel c fun k =>
    { k with authFails := satInc 32 k.authFails, consec := satInc 16 k.consec, passRun := 0 }
  let s := raiseFor 168 c.val s
  let s := if 7 ≤ s.clientType (s.carried .rx c) then s.onChannel c fun k => { k with rxMark := (counter, 4) } else s
  let k := s.channel c
  let policy := s.cfgN Param.cipAuthPolicy c.val
  if 1 ≤ policy ∧ s.cfgN Param.cipAuthFailCount c.val ≤ k.consec then
    let s := s.onChannel c fun k => { k with authDefect := true, policyReplaces := k.policyReplaces || decide (policy = 2) }
    if k.authDefect then s else raiseFor 169 c.val s
  else s

/-- `TAG_VERDICT` (R286, R287): the verdict on the segment that waits for one: the tag received is compared with the tag computed. -/
def execTagVerdict (channel : Fin 64) (s : State) : Result :=
  match (s.channel channel).due with
  | none => .next s
  | some d =>
    let s := s.onChannel channel fun k => { k with due := none, segments := (k.segments + 1) % 2 ^ 64 }
    if d.doubt then .next (s.onChannel channel fun k => { k with unverified := satInc 16 k.unverified })
    else if d.received = d.computed then
      let run := (s.channel channel).passRun + 1
      let clear := decide (s.cfgN Param.cipAuthPassCount channel.val ≤ run)
      .next (refreshClients (s.onChannel channel fun k =>
        { k with consec := 0, passRun := run, authDefect := k.authDefect && !clear,
                 policyReplaces := k.policyReplaces && !clear }))
    else .next (refreshClients (verdictFails channel d.counter s))

/-! ### Self-test, query, errors, resets (R285, R288, R290, R292) -/

/-- `SEC_SELFTEST` (R285): a core that fails is taken out; SEC is released unless fewer than 22 pass or the GHASH or key
expansion test fails, which the start-up sequencer reports. KQ3200-N-FB900 runs none (R289) (DEDUCED, log entry 73). -/
def execSecSelftest (failed : BitVec 32) (expandOk : Bool) (s : State) : Result :=
  if s.cipherFused ∨ s.sec.released ∨ s.sec.selftestFail then .next s
  else
    let out := (List.range 32).filter fun i => failed.getLsbD i
    let s1 := overAll out (fun _ s => raise 161 s) { s with sec.cores := 32 - out.length }
    if expandOk = false ∨ 32 - out.length < 22 then .next (reportSelftest (raise 160 { s1 with sec.selftestFail := true }))
    else .next (judgeDummy { s1 with sec.released := true, sec.selftestFail := false })

/-- `SEC_CHANNEL_QUERY` (Table 8.9). -/
def execSecChannelQuery (req : Request) (s : State) : Result :=
  .next (serveTarget req s [(10, 0)] false fun s =>
    if req.payload ≠ [] then respond req (refusal stBadValue) s
    else
      let c := channelOfPath req.target
      let k := s.channel c
      respond req (okWith (leBytes 1 (s.cfgN Param.cipMode c.val) ++ leBytes 1 (s.cfgN Param.cipClient c.val) ++
        leBytes 1 (slotOf c k.txSlot).val ++ leBytes 1 (slotOf c k.rxSlot).val ++ leBytes 4 (k.txEpoch.getD 0) ++
        leBytes 4 (k.rxEpoch.getD 0) ++ leBytes 8 k.txCounter ++ leBytes 2 k.consec ++ leBytes 2 0 ++
        leBytes 8 ((k.pending.map KeyChange.sf).getD 0))) s)

/-- An uncorrectable error in the key store sets `FAULT` on the slot, which counts as not `LOADED` (R288): a receive channel on it is replaced,
`EV167`. -/
def keyStoreError (i : Fin 128) (s : State) : State :=
  let c := slotChannel i
  let s := raiseFor 174 i.val (s.onSlot i fun k => { k with fault := true })
  let s := if s.rxUse i && s.encrypted .rx c && !(s.channel c).rxNoKey then
      raiseFor 167 c.val (s.onChannel c fun k => { k with rxNoKey := true })
    else s
  refreshClients s

/-- An uncorrectable error in the context store (R288): the segment that resumes from the entry is sent with its tag inverted. -/
def contextError (c : ChannelId) (s : State) : State :=
  let s1 := if s.sec.contexts[c].any CipherContext.tx then
      s.onChannel c fun k => { k with txTag := k.txTag.map fun t => t ^^^ (2 ^ 128 - 1) }
    else s
  raiseAt 174 0 c.val { s1 with sec.contexts := s1.sec.contexts.set c none }

/-- SEC at the start of a PM interval: the next fail of each channel is reported again (R286) (DEDUCED, log entry 72). -/
def secInterval (s : State) : State :=
  { s with mgt.limits := s.mgt.limits.map fun e => if e.event = 168 then { e with reopened := true } else e }

/-- A channel that starts, or carries another client, finds its segments anew (R274); the dummy share is recomputed. -/
def secCommitted (s : State) : State :=
  let s1 := { s with sec.channels := vgen 64 fun c =>
    let k := s.sec.channels[c]
    let mode := s.encrypted .rx c
    let client := s.carried .rx c
    if mode = k.mode ∧ client = k.client then k
    else { k.resync with mode := mode, client := client, encMismatch := false, roleConflict := false } }
  refreshClients (judgeDummy s1)

/-- SEC at the exit of a group from P1: the segments in progress of its clients are unverified, and their decryption resumes at the next block of
the tracked segment (R286, R290, Table 8.7). -/
def secExit (g : Fin 4) (s : State) : State :=
  overAll ((indices 64).filter fun c => s.groupOf (s.carried .rx c) = g)
    (fun c s =>
      let k := s.channel c
      let s := s.onChannel c fun k => { k with rxDoubt := true }
      if k.rxHeld = [] ∨ s.decrypts c = false then s
      else decryptSegment c (if k.rxRead then k.rxCounter else (k.rxCounter + 1) % 2 ^ 64) (Config.resumeBlock c.val s.now) k.rxHeld [] s) s

/-- A Unit reset of a `SEC.CIP` instance (R281): the channel is in clear, and its slots, epochs and counters stay (DEDUCED, log entry 73). -/
def resetChannel (c : ChannelId) (s : State) : State :=
  s.onChannel c fun k =>
    { txSlot := k.txSlot, txUsing := k.txUsing, txEpoch := k.txEpoch, txCounter := k.txCounter, txTag := k.txTag,
      txBips := k.txBips, pending := k.pending, rxSlot := k.rxSlot, rxUsing := k.rxUsing, rxEpoch := k.rxEpoch,
      rxEmptied := k.rxEmptied, rxCounter := k.rxCounter }

/-- A reset of one SEC target; a client that received under a zeroised key is replaced at once (R280). -/
def resetSecTarget (p : Path) (s : State) : State :=
  if p.unit = 0 then resetChannel (channelOfPath p) s else refreshClients (zeroise (slotOfPath p) s)

/-- A Section reset of SEC (R280, Table 8.7): every slot is zeroised and every channel is in clear; the self-test follows. -/
def resetSec (s : State) : State :=
  let s := overAll (indices 128) zeroise s
  { s with sec.channels := Vector.replicate 64 {}, sec.cores := 0, sec.released := false, sec.selftestFail := false,
           sec.dummy := 0, sec.dummyReduced := false, sec.preemptions := 0, sec.contexts := Vector.replicate 64 none }

end Sys2Proof.Machine
end

