-- ==== Sys2Proof/Machine/FehOps.lean ====
section
/-!
DEFINITION. The housekeeping DACs, as clocks and power states act on them (R474, R475).
-/
namespace Sys2Proof.Machine

/-- A DAC channel of `HKD`. -/
abbrev HkDacId := Fin 12

/-- The output is held: in the safe state, and in P4 (R475). -/
def State.dacsHeld (s : State) : Bool := s.clk.safeState || decide (s.deviceState = 4)

/-- The code of a channel without dither: on its ramp, or at rest (R474). -/
def State.dacCode (s : State) (n : HkDacId) : Nat :=
  let d := s.feh.dacs[n]
  match d.rampAt with
  | none => d.code
  | some t =>
    let way := (s.now - t) * d.slew
    if d.code ≤ d.target then min d.target (d.code + way) else max d.target (d.code - way)

/-- Let a channel approach a code (R474); a held channel waits for its release. -/
def dacTo (n : HkDacId) (target : Nat) (s : State) : State :=
  let at_ := s.dacCode n
  let moving := decide (at_ ≠ target) && !s.dacsHeld && s.feh.released
  { s with feh.dacs := vmod s.feh.dacs n fun _ =>
      { code := at_, target, rampAt := if moving then some s.now else none, slew := s.cfgN Param.hkdSlewCodesPerUs } }

/-- A bias is under control. -/
def State.biasOn (s : State) (b : Fin 6) : Bool := decide (bits (s.cfgN Param.abcEnable) b.val 1 = 1)

/-- The DAC channel of a bias (R474). -/
def biasDac (b : Fin 6) : HkDacId := ⟨b.val, by omega⟩

/-- The dither of the bias in its dwell: plus in the first half of each period, minus in the second (R476). -/
def State.ditherNow (s : State) : Option (Fin 6 × Int) :=
  (s.feh.active.filter s.biasOn).map fun b =>
    let half := (s.now - s.feh.dwellAt) * 2 * s.cfgN Param.abcDitherHz / 1000000
    let d := s.cfg Param.abcDitherCodes
    (b, if half % 2 = 0 then d else -d)

/-- The outputs hold their present codes, including the dither offset (R475). -/
def holdDacs (s : State) : State :=
  { s with feh.heldAt := s.feh.heldAt <|> some s.now
           feh.heldDither := if s.feh.heldAt.isSome then s.feh.heldDither else s.ditherNow
           feh.dacs := vgen 12 fun n => { s.feh.dacs[n] with code := s.dacCode n, rampAt := none } }

/-- The ramps and the dwell resume from where they were held (R475); a dwell that was started anew meanwhile begins. -/
def resumeDacs (s : State) : State :=
  if s.dacsHeld then s
  else
    let since := s.feh.heldAt.getD s.now
    let s := { s with feh.heldAt := none, feh.heldDither := none
                      feh.dwellAt := if s.feh.dwellAt ≤ since then s.feh.dwellAt + (s.now - since) else s.now }
    overAll (indices 12) (fun n s => dacTo n s.feh.dacs[n].target s) s

end Sys2Proof.Machine
end

