-- ==== Sys2Proof/Machine/HostLanes.lean ====
section
/-!
DEFINITION. HST: lanes, ports, Transparent Lane Mode and FlexE (chapter 11). A switch of calendars that belongs to a commit
stands with the commits.
-/
namespace Sys2Proof.Machine

/-- A physical lane and a port number. -/
abbrev LaneId := Fin 16
abbrev PortId := Fin 16

/-- A lane or port, and a change of it. -/
def State.lane (s : State) (l : LaneId) : Lane := s.hst.lanes[l]
def State.onLane (s : State) (l : LaneId) (f : Lane → Lane) : State := { s with hst.lanes := vmod s.hst.lanes l f }
def State.port (s : State) (p : PortId) : Port := s.hst.ports[p]
def State.onPort (s : State) (p : PortId) (f : Port → Port) : State := { s with hst.ports := vmod s.hst.ports p f }

/-! ### Ports and their lanes (R352 to R354, R363) -/

/-- The lanes of a port type, its rate code and its client rate in units of 100 Gb/s (Table 11.3); 0 lanes if unused. -/
def portShape (type tlmLanes : Nat) : Nat × Option Nat × Nat :=
  match type with
  | 1 => (4, some 0, 1) | 2 => (2, some 1, 1) | 3 => (1, some 2, 1)
  | 4 => (4, some 1, 2) | 5 => (2, some 2, 2) | 6 => (1, some 3, 2)
  | 7 => (8, some 1, 4) | 8 => (4, some 2, 4) | 9 => (2, some 3, 4)
  | 10 => (8, some 2, 8) | 11 => (4, some 3, 8) | 12 => (8, some 3, 16)
  | 13 => (tlmLanes, none, 0)
  | _ => (0, none, 0)

/-- The type and the number of lanes of a port in the running configuration. -/
def State.portType (s : State) (p : Nat) : Nat := s.cfgN Param.pcsPortType 0 p
def State.portLanes (s : State) (p : Nat) : Nat := (portShape (s.portType p) (s.cfgN Param.pcsTlmLanes 0 p)).1

/-- The physical lane of a logical lane in an order (R363). -/
def physical (reversed : Bool) (n : Nat) : Nat := if reversed then 15 - n else n

/-- The physical lanes of a port in an order. -/
def State.lanesOf (s : State) (reversed : Bool) (p : PortId) : List LaneId :=
  (indices 16).filter fun l => decide (p.val ≤ physical reversed l.val ∧ physical reversed l.val < p.val + s.portLanes p.val)

/-- The port of a physical lane in an order. -/
def State.portAt (s : State) (reversed : Bool) (l : LaneId) : Option PortId :=
  (indices 16).find? fun p => (s.lanesOf reversed p).contains l

/-- The order by which receive lanes are taken for ports: fixed by `rx_lane_order`, found, or being tried (R363). -/
def State.rxReversed (s : State) : Bool :=
  match s.cfgN Param.pcsRxLaneOrder with
  | 0 => s.hst.reversed
  | n => decide (n = 2)

/-- The receive order in force: fixed, or found and held; an order merely tried is none (R363). -/
def State.heldReversed (s : State) : Bool :=
  match s.cfgN Param.pcsRxLaneOrder with
  | 0 => s.hst.orderLocked && s.hst.reversed
  | n => decide (n = 2)

/-- The transmit order (R363). -/
def State.txReversed (s : State) : Bool :=
  match s.cfgN Param.pcsTxLaneOrder with
  | 0 => s.heldReversed
  | n => decide (n = 2)

/-- The order is fixed or held (DEDUCED, log entry 80). -/
def State.orderKnown (s : State) : Bool := s.hst.orderLocked || decide (s.cfg Param.pcsRxLaneOrder ≠ 0)

/-- The port of a lane (DEDUCED, log entry 80). -/
def State.portOf (s : State) (l : LaneId) : Option PortId := s.portAt s.rxReversed l

/-- The orders under which a lane may belong to a port: while the order is not known, both. -/
def State.orders (s : State) : List Bool := if s.orderKnown then [s.rxReversed] else [s.rxReversed, !s.rxReversed]

/-- The lane belongs to a port; while the order is not known, under either order. -/
def State.lanePorted (s : State) (l : LaneId) : Bool := s.orders.any fun r => (s.portAt r l).isSome

/-- The port is a PHY of a FlexE group (R356). -/
def State.isPhy (s : State) (p g : Nat) : Bool :=
  decide (s.cfgN Param.pcsFlexeGroup 0 p = g + 1) && [2, 3, 5, 6, 8, 9].contains (s.portType p)

/-- The PHYs of a group, in ascending port. -/
def State.phys (s : State) (g : Fin 4) : List PortId := (indices 16).filter fun p => s.isPhy p.val g.val

/-- The rate of a lane in kb/s (Table 11.2). -/
def laneKbps (rate : Nat) : Nat :=
  match rate with
  | 0 => 25781250 | 1 => 53125000 | 2 => 106250000 | 3 => 212500000 | _ => 226875000

/-- The rate code of a lane. -/
def State.laneRate (s : State) (l : LaneId) : Nat := s.cfgN Param.lnRate 0 0 l.val

/-- The used clients that take their signal from a port, directly or through FlexE (R354). -/
def State.portClients (s : State) (p : PortId) : List Nat :=
  s.usedClients.filter fun c =>
    let h := s.hostPort c
    if h < 16 then decide (h = p.val)
    else if h < 48 then
      let g := s.cfgN Param.fxeClientGroup 0 (h - 16)
      decide (g ≠ 0) && s.isPhy p.val (g - 1)
    else decide (h - 48 = p.val)

/-- The power state that a lane follows (R376): the shallowest of the groups of its port's clients, or group 0's (DEDUCED, log entry 80). -/
def State.lanePower (s : State) (l : LaneId) : Nat :=
  match ((s.portOf l).map s.portClients).getD [] with
  | [] => s.pwr.groups[(0 : Fin 4)].state
  | c :: cs => (cs.map s.clientPower).foldl min (s.clientPower c)

/-- The state of a lane (R373 to R376): 0 H0, 1 H1, 2 H2. -/
def State.laneState (s : State) (l : LaneId) : Nat :=
  let k := s.lane l
  if k.low then 2
  else if k.muted || k.forced || k.flint || decide (1 ≤ s.lanePower l) then 1
  else 0

/-! ### Client failures (R378) -/

/-- The calendar slots of a FlexE client (R372). -/
def calendarSlots (cal : NMap Nat) (k : Nat) : Nat := (cal.filter fun e => decide (e.2 = k)).length

/-- `LOCKED` of a FlexE group: overhead lock on every PHY (Table 11.14). -/
def State.groupLocked (s : State) (g : Fin 4) : Bool := !(s.phys g).isEmpty && (s.phys g).all fun p => (s.port p).ohLocked

/-- A FlexE group passes traffic: its PHYs are up, and the overhead of each is locked, has a good CRC and matches (Table 11.9). -/
def State.groupGood (s : State) (g : Fin 4) : Bool :=
  s.groupLocked g && (s.phys g).all fun p => (s.port p).up && !(s.port p).ohCrcBad && !(s.port p).gidBad && !(s.port p).phyBad

/-- A FlexE client fails (R378). -/
def State.flexeFails (s : State) (k : Nat) : Bool :=
  match s.cfgN Param.fxeClientGroup 0 k with
  | 0 => true
  | g + 1 => if hg : g < 4 then !s.groupGood ⟨g, hg⟩ || decide (calendarSlots s.hst.calendar k = 0) else true

/-- A used client fails on its host side (R378): its port, FlexE client or group is not up. -/
def State.hostFails (s : State) (c : Nat) : Bool :=
  let h := s.hostPort c
  if h < 16 then !((s.hst.ports[h]?.map Port.up).getD false)
  else if h < 48 then s.flexeFails (h - 16)
  else !((s.hst.ports[h - 48]?.map Port.up).getD false)

/-- `CLIENT_FAIL` of a port. -/
def State.portClientFails (s : State) (p : PortId) : Bool := (s.portClients p).any s.hostFails

/-- Judge the clients after a change of a cause, and replace what fails on the host side toward the line, or end that (R378). -/
def judgeHostClients (s : State) : State :=
  let now := s.usedClients.filter s.hostFails
  let s1 := overAll (now.filter fun c => !s.hst.failing.contains c)
    (fun c s => s.send (.lineSignal c (some (replacementOf (s.clientType c))))) s
  let s1 := overAll (s.hst.failing.filter fun c => !now.contains c) (fun c s => s.send (.lineSignal c none)) s1
  { s1 with hst.failing := now }
def followClients (s : State) : State := judgeHostClients (refreshClients s)

/-- What the transmitter of a lane sends (Table 11.8, R374 to R376): data, nothing, or the presence pattern, levels 0 and 3 in turn every 32
symbols. -/
inductive LaneSignal where
  | data
  | idle
  | presence
deriving DecidableEq, Repr
def State.laneSends (s : State) (l : LaneId) : LaneSignal :=
  match s.laneState l with
  | 0 => .data
  | 1 => .idle
  | _ =>
    let k := s.lane l
    if s.cfgB Param.lnDiscovery 0 0 l.val && decide (s.lanePower l ≤ 3) && !(k.muted || k.forced || k.flint) then .presence else .idle

/-! ### Bring-up (R359, R361 to R365, R375) -/

/-- Every lane of the port has passed step 4, under an order. -/
def State.portReadyIn (s : State) (reversed : Bool) (p : PortId) : Bool :=
  let ls := s.lanesOf reversed p
  !ls.isEmpty && ls.all fun l => (s.lane l).passed

/-- The same under the order in force or being tried. -/
def State.portReady (s : State) (p : PortId) : Bool := s.portReadyIn s.rxReversed p

/-- Every lane of a port of the lane has passed step 4. -/
def State.laneReady (s : State) (l : LaneId) : Bool := s.orders.any fun r => (s.portAt r l).any (s.portReadyIn r)

/-- Steps 5 and 6 belong to the port (R361): a lane that has passed step 4 goes on to them when every lane of its port has, waits in step 4
until then, and goes back to waiting when another lane of the port has gone down. Step 5 is skipped once the order is known. -/
def State.portStep (s : State) (l : LaneId) : Lane :=
  let k := s.lane l
  if k.passed = false then k
  else if s.laneReady l = false then { k with step := 4 }
  else if s.orderKnown then (if 6 ≤ k.step then k else { k with step := 6, stepAt := s.now })
  else if k.step = 5 then k
  else { k with step := 5, stepAt := s.now }

/-- Judge the steps of the ports; where a first port begins to look for the order, normal order is tried first (R363). -/
def judgeSteps (s : State) : State :=
  let idle := (indices 16).all fun l => decide ((s.lane l).step < 5)
  let s1 := { s with hst.lanes := vgen 16 s.portStep }
  if idle && !s.orderKnown && (indices 16).any (fun l => decide ((s1.lane l).step = 5)) then
    { s1 with hst.tryAt := s.now, hst.reversed := false }
  else s1

/-- A port leaves the up state (R378). -/
def portDown (p : PortId) (s : State) : State :=
  let was := (s.port p).up
  let s := s.onPort p fun k =>
    { k with up := false, markerLock := false, deskewed := false, skewed := false, ohLocked := false, ohCrcBad := false, gidBad := false,
             phyBad := false, rpf := false }
  let s := overAll (s.lanesOf s.rxReversed p)
    (fun l s => s.onLane l fun k =>
      if 5 ≤ k.step then { k with step := if s.orderKnown then 6 else 5, stepAt := s.now } else k) s
  if was then raiseAt 217 16 p.val (s.onPort p fun k => { k with seen := k.seen ||| 1 }) else s

/-- The order found is held until no lane is past step 4 and none keeps its taps in H2 (R363, R365) (DEDUCED, log entry 80). -/
def judgeOrder (s : State) : State :=
  if (indices 16).any fun l => (s.lane l).passed || ((s.lane l).low && (s.lane l).kept) then s
  else { s with hst.orderLocked := false, hst.reversed := if s.hst.orderLocked then false else s.hst.reversed }

/-- A lane goes down to a step of its bring-up, or to H2 with step 0: `EV209` if it was in step 4 or later, and its port
goes down. -/
def laneDown (l : LaneId) (step : Nat) (s : State) : State :=
  let k := s.lane l
  let s := match s.portOf l with
    | some p => if k.passed then portDown p s else s
    | none => s
  let s := s.onLane l fun k =>
    { k with step := step, passed := false, stepAt := s.now, refAt := s.now, cdr := false, trained := false, warm := false, good := 0,
             bad := 0, locked := false }
  let s := if 4 ≤ k.step then raiseAt 209 l.val 0 s else s
  followInputs (judgeSteps (judgeOrder s))

/-- Count a failure of a lane (DEDUCED, log entry 80). -/
def countDown (l : LaneId) (s : State) : State := s.onLane l fun k => { k with downCount := satInc 16 k.downCount }

/-- A sticky fault bit of a lane. -/
def laneFault (l : LaneId) (b : Nat) (s : State) : State :=
  s.onLane l fun k => { k with faults := k.faults ||| BitVec.ofNat 6 (2 ^ b) }

/-- A lane without a port goes to H2; one with a port restarts from step 1, or from P3 on waits in H2 (R375, R376). -/
def restartLane (l : LaneId) (s : State) : State :=
  let s := laneDown l 0 s
  if s.lanePorted l ∧ s.lanePower l ≤ 2 then
    s.onLane l fun k => { k with low := false, deep := false, step := 1, absentAt := s.now }
  else s.onLane l fun k => { k with low := true, step := 0 }

/-- `LANE_SIGNAL_DETECT` (R361, R375): signal detect has asserted for 10 µs. In H2, where `discovery` = 1 arms it, the
partner has appeared and bring-up starts, warm if taps and order are kept (R365). In H0 and H1 it ends step 1. -/
def execLaneSignalDetect (lane : Fin 16) (s : State) : Result :=
  let k := s.lane lane
  if 4 ≤ s.lanePower lane ∨ (k.low ∧ s.cfgB Param.lnDiscovery 0 0 lane.val = false) then .next s
  else
    let s1 := s.onLane lane fun k => { k with signal := true, present := true }
    let s1 := if k.present then s1 else raiseAt 210 lane.val 0 s1
    if k.low then
      if s1.lanePorted lane = false ∨ 3 ≤ s1.lanePower lane then .next s1
      else
        let warm := k.kept && k.present && s1.orderKnown
        .next (s1.onLane lane fun k =>
          { k with low := false, step := 2, refAt := s1.now, stepAt := s1.now, warm := warm, kept := k.kept && warm })
    else if k.step = 1 then .next (s1.onLane lane fun k => { k with step := 2, refAt := s1.now, stepAt := s1.now })
    else .next s1

/-- Step 3 runs for the lane: rates 1 to 3 in an Ethernet port with `training` = 1, and no warm exit (R361, R365). While the order is not
known, its port is that of the order being tried, or else of the other one (DEDUCED, log entry 80). -/
def State.trains (s : State) (l : LaneId) : Bool :=
  let r := s.laneRate l
  decide (1 ≤ r ∧ r ≤ 3) && s.cfgB Param.lnTraining 0 0 l.val && !(s.lane l).warm &&
    (s.orders.findSome? fun r => s.portAt r l).any fun p => decide (s.portType p.val ≠ 13)

/-- `CDR_LOCK` (R361): step 2 ends. -/
def execCdrLock (lane : Fin 16) (s : State) : Result :=
  if (s.lane lane).step ≠ 2 then .next s
  else .next (followInputs (s.onLane lane fun k => { k with cdr := true, step := if s.trains lane then 3 else 4, stepAt := s.now }))

/-- A failed training (R361): counted, reported, and the lane restarts from step 1. -/
def trainingFailed (l : LaneId) (s : State) : State :=
  let s := laneFault l 2 (countDown l (s.onLane l fun k => { k with trainFails := satInc 16 k.trainFails }))
  raiseAt 212 l.val 0 (laneDown l 1 s)

/-- `TRAINING_DONE` (R360, R361): step 3 ends, with the taps that training gives, or fails. -/
def execTrainingDone (lane : Fin 16) (ok : Bool) (taps : Vector Int 6) (s : State) : Result :=
  if (s.lane lane).step ≠ 3 then .next s
  else if ok then .next (s.onLane lane fun k => { k with trained := true, taps := taps, step := 4, stepAt := s.now })
  else .next (trainingFailed lane s)

/-- The taps in force (R360). -/
def State.tapsInForce (s : State) (l : LaneId) : List Int :=
  if s.cfg Param.lnTxFfeMode 0 0 l.val = 0 then (s.lane l).taps.toList
  else (List.range 6).map fun i => s.cfg Param.lnTxFfe 0 i l.val

/-- `POLARITY_DETERMINED` (R361, R362, R365): step 4 ends. With `rx_polarity` = 0 the polarity found is corrected, with
`EV213` if it is inverted; a warm exit keeps it. `EV208` is raised, and steps 5 and 6 begin when every lane of the port is so far. -/
def execPolarityDetermined (lane : Fin 16) (inverted : Bool) (s : State) : Result :=
  let k := s.lane lane
  if k.step ≠ 4 ∨ k.passed then .next s
  else
    let pol := s.cfgN Param.lnRxPolarity 0 0 lane.val
    let found := pol = 0 ∧ k.warm = false
    let inv := if pol = 0 then (if k.warm then k.inverted else inverted) else decide (pol = 2)
    let s1 := judgeSteps (s.onLane lane fun k => { k with inverted := inv, passed := true, kept := true })
    let s1 := if found ∧ inverted then raiseAt 213 lane.val 0 s1 else s1
    .next (raiseAt 208 lane.val 0 s1)

/-- `LANE_ORDER_TRY` (R363): every 50 ms the other order is tried. -/
def execLaneOrderTry (s : State) : Result :=
  if s.orderKnown ∨ ((indices 16).any fun l => decide ((s.lane l).step = 5)) = false then .next s
  else
    let s := s.reach (s.hst.tryAt + 50000)
    .next { s with hst.reversed := !s.hst.reversed, hst.tryAt := s.now }

/-- The order in force is found and held; a reversed one that was found automatically is reported (R363). -/
def holdOrder (s : State) : State :=
  if s.hst.orderLocked then s
  else
    let s1 := judgeSteps { s with hst.orderLocked := true }
    if s.cfg Param.pcsRxLaneOrder = 0 ∧ s.hst.reversed then raiseAt 214 16 0 s1 else s1

/-- The measured host rate of the clients of an Ethernet or FlexE port: the nominal rate with the lane's offset (DEDUCED, log entry 81). -/
def measureHost (p : PortId) (s : State) : State :=
  let ppm := ((s.lanesOf s.rxReversed p).head?.map fun l => (s.lane l).freq).getD 0
  overAll ((s.portClients p).filter fun c => decide (s.clientType c ≤ 6))
    (fun c s => s.onClient c fun k => { k with hostKbps := ((s.clientKbps c : Int) * (1000000 + ppm) / 1000000).toNat }) s

/-- A port ends step 6 (R361, R364): with a skew above 180 ns it does not come up, and is tried again in 10 ms. -/
def finishPort (p : PortId) (skewNs : Nat) (s : State) : State :=
  let s := s.onPort p fun k => { k with skew := min 255 skewNs, markerLock := true }
  if 180 < skewNs then
    let s1 := s.onPort p fun k => { k with skewed := true, skewAt := s.now, seen := k.seen ||| 2 }
    raiseAt 215 16 p.val s1
  else
    let s1 := holdOrder s
    let s1 := s1.onPort p fun k => { k with up := true, deskewed := true, skewed := false }
    let s1 := overAll (s1.lanesOf s1.rxReversed p) (fun l s => s.onLane l fun k => { k with step := 7 }) s1
    followClients (measureHost p (raiseAt 216 16 p.val s1))

/-- The lanes of a Transparent Lane Mode group have marker lock (R371); those of other ports find it in step 6. -/
def State.lanesLocked (s : State) (p : PortId) : Bool :=
  decide (s.portType p.val ≠ 13) || (s.lanesOf s.rxReversed p).all fun l => (s.lane l).locked

/-- `PORT_UP` (R361, R363, R364): markers lock on every lane of the port under the order in force or being tried. -/
def execPortUp (port : Fin 16) (skewNs : Nat) (s : State) : Result :=
  if (s.port port).up ∨ s.portReady port = false ∨ s.lanesLocked port = false ∨ (s.port port).skewed then .next s
  else .next (finishPort port skewNs s)

/-- `DESKEW_RETRY` (R364): 10 ms after a skew above 180 ns, step 6 is tried again. -/
def execDeskewRetry (port : Fin 16) (skewNs : Nat) (s : State) : Result :=
  if (s.port port).skewed = false ∨ s.portReady port = false ∨ s.lanesLocked port = false then .next s
  else .next (finishPort port skewNs (s.reach ((s.port port).skewAt + 10000)))

/-- The bound of a step in µs from its start (Table 11.4); step 3 ends 501 ms after the reference. -/
def State.bringupBound (s : State) (l : LaneId) : Nat :=
  let k := s.lane l
  match k.step with
  | 2 => k.refAt + if k.warm then 200 else 1000
  | 3 => k.refAt + 501000
  | 4 => k.stepAt + 10000
  | 5 => k.stepAt + 110000
  | _ => k.stepAt + 5000

/-- `BRINGUP_TIMEOUT` (R361): a step has exceeded its bound, and the lane restarts from step 1. A port that waits for a
deskew retry has no bound on step 6 (R364), nor has a lane that has passed step 4 and waits for the others of its port. -/
def execBringupTimeout (lane : Fin 16) (s : State) : Result :=
  let k := s.lane lane
  if k.low ∨ k.step < 2 ∨ 7 ≤ k.step ∨ (k.step = 4 ∧ k.passed) ∨ ((s.portOf lane).any fun p => (s.port p).skewed) then .next s
  else
    let s := s.reach (s.bringupBound lane)
    if k.step = 3 then .next (trainingFailed lane s) else .next (laneDown lane 1 (countDown lane s))

/-- The lane frequency in ppm is accepted (R357, R358): ±200 ppm, and 0.5 % below with `ssc_accept` = 1. -/
def State.freqAccepted (s : State) (l : LaneId) (ppm : Int) : Bool :=
  decide (ppm ≤ 200) && decide ((if s.cfgB Param.lnSscAccept 0 0 l.val then -5200 else -200) ≤ ppm)

/-- `FREQ_OFFSET` (R359): the measured offset of a lane; outside the accepted range for 100 µs the lane goes down to
step 2. -/
def execFreqOffset (lane : Fin 16) (ppm : Int) (s : State) : Result :=
  let k := s.lane lane
  if k.low ∨ k.cdr = false then .next s
  else
    let s := s.onLane lane fun k => { k with freq := clampInt (-32768) 32767 ppm }
    if s.freqAccepted lane ppm then
      .next (match s.portOf lane with
        | some p => if (s.port p).up then measureHost p s else s
        | none => s)
    else .next (followClients (raiseAt 223 lane.val 0 (laneDown lane 2 (laneFault lane 3 (countDown lane s)))))

/-- `LANE_DOWN` (R377): loss of signal or of CDR lock takes the lane down and bring-up restarts. -/
def execLaneDown (lane : Fin 16) (signalLost : Bool) (s : State) : Result :=
  let k := s.lane lane
  if k.low then .next s
  else
    let s := laneFault lane (if signalLost then 0 else 1) (countDown lane s)
    let s := s.onLane lane fun k => { k with signal := k.signal && !signalLost, absentAt := if signalLost then s.now else k.absentAt }
    .next (followClients (laneDown lane 1 s))

/-- `PARTNER_ABSENT` (R375): signal detect has stayed clear for `absent_ms`, and the lane enters H2. -/
def execPartnerAbsent (lane : Fin 16) (s : State) : Result :=
  let k := s.lane lane
  if k.low ∨ k.signal then .next s
  else
    let s := s.reach (k.absentAt + s.cfgN Param.lnAbsentMs 0 0 lane.val * 1000)
    let s := (laneDown lane 0 s).onLane lane fun k => { k with low := true, present := false, kept := false }
    .next (followClients (judgeOrder (raiseAt 211 lane.val 0 s)))

/-! ### Errors in Ethernet ports (R377) -/

/-- A block from the host becomes an error block in the clients of its port (Table 11.9). -/
def hostErrors (p : PortId) (s : State) : State :=
  overAll ((s.portClients p).filter fun c => decide (s.clientType c ≤ 6)) (fun c s => s.send (.hostErrorBlock c)) s

/-- `AUI_FEC_CODEWORD` (R377): a codeword of a port with RS(544,514); the blocks of an uncorrectable one become error blocks. `lf` and
`rf` say which fault ordered sets its blocks carry; a port of type 1 has no FEC, and shows only those. -/
def execAuiFecCodeword (port : Fin 16) (corrected : Bool) (uncorrectable : Bool) (lf : Bool) (rf : Bool) (s : State) : Result :=
  let t := s.portType port.val
  if (s.port port).up = false ∨ t = 0 ∨ 12 < t then .next s
  else if t = 1 then .next (s.onPort port fun k => { k with rxLf := lf, rxRf := rf })
  else
    let s1 := s.onPort port fun k =>
      { k with fecCorr := if corrected && !uncorrectable then (k.fecCorr + 1) % 2 ^ 64 else k.fecCorr,
               fecUncorr := if uncorrectable then (k.fecUncorr + 1) % 2 ^ 64 else k.fecUncorr,
               rxLf := lf, rxRf := rf }
    .next (if uncorrectable then hostErrors port s1 else s1)

/-- `ALIGNMENT_MARKER_LOSS` (R377): the port goes down and its clients fail. -/
def execAlignmentMarkerLoss (port : Fin 16) (s : State) : Result :=
  if (s.port port).up = false ∨ s.portType port.val = 13 then .next s
  else
    let s := s.onPort port fun k => { k with markerErrs := satInc 32 k.markerErrs, seen := k.seen ||| 16 }
    .next (followClients (portDown port s))

/-- `PCS_BLOCK_ERROR` (R377): an invalid block becomes an error block. -/
def execPcsBlockError (port : Fin 16) (s : State) : Result :=
  if (s.port port).up = false then .next s
  else
    .next (raiseAt 219 16 port.val (hostErrors port
      (s.onPort port fun k => { k with blockErrs := satInc 32 k.blockErrs, seen := k.seen ||| 8 })))

/-- HST at the end of a 1 s interval (Table 11.9): FEC degrade above `fec_sd_uncorr`. -/
def hstInterval (s : State) : State :=
  overAll (indices 16)
    (fun p s =>
      let k := s.port p
      let n := (k.fecUncorr + 2 ^ 64 - k.fecUncorrAt) % 2 ^ 64
      let bad := decide (s.cfgN Param.pcsFecSdUncorr < n)
      let s1 := s.onPort p fun k =>
        { k with fecUncorrAt := k.fecUncorr, fecDegrade := bad, seen := if bad then k.seen ||| 4 else k.seen }
      if bad then raiseAt 218 16 p.val s1 else s1) s

/-! ### Transparent Lane Mode (R367 to R371) -/

/-- The sync pattern of a marker (Table 11.7). -/
def tlmSync : Nat := 0x9A3C65C39A3C65C3

/-- A marker's content (Table 11.7). -/
structure Marker where
  lane : Nat
  size : Nat
  first : Nat
  pad : Nat
  period : Nat
deriving DecidableEq, Repr

/-- The 256 bits of a marker. -/
def Marker.toNat (m : Marker) : Nat :=
  let low := tlmSync + fieldAt m.lane 64 4 + fieldAt m.size 68 4 + fieldAt m.first 72 4 + fieldAt m.pad 76 12 +
    fieldAt m.period 88 16
  low + crc32c (leBytes 28 low) * 2 ^ 224

/-- The marker that 256 bits spell, if sync pattern and CRC are right. -/
def Marker.ofNat (w : Nat) : Option Marker :=
  if bits w 0 64 = tlmSync ∧ bits w 224 32 = crc32c (leBytes 28 (w % 2 ^ 224)) then
    some { lane := bits w 64 4, size := bits w 68 4, first := bits w 72 4, pad := bits w 76 12, period := bits w 88 16 }
  else none

/-- The level of a PAM4 symbol from its two bits, most significant first, and back: the Gray mapping of IEEE 802.3 (R352). -/
def pam4Level (msb lsb : Nat) : Fin 4 := if msb = 0 then (if lsb = 0 then 0 else 1) else if lsb = 0 then 3 else 2
def pam4Bits (l : Fin 4) : List Nat := match l with
  | 0 => [0, 0]
  | 1 => [0, 1]
  | 2 => [1, 1]
  | 3 => [1, 0]

/-- The symbols of a sequence of bits, two by two. -/
def pam4Symbols : List Nat → List (Fin 4)
  | a :: b :: r => pam4Level a b :: pam4Symbols r
  | _ => []

/-- The payload bits of a lane of the group, scrambled or descrambled: x^31 + x^28 + 1 from 0x7FFF_FF00 plus the lane index (R368). -/
def tlmScramble (index : Nat) (bs : List Nat) : List Nat :=
  (bs.zip (prbs 31 28 (0x7FFFFF00 + index) bs.length)).map fun b => (b.1 + b.2) % 2

/-- The bits of a word, first bit first: bit 0 is the first (DESIGN CHOICE, log entry 108). -/
def wordBits (w : BitVec 256) : List Nat := (List.range 256).map fun i => bit (w.getLsbD i)

/-- The words that a sequence of bits makes, 256 by 256, `n` of them. -/
def bitWords : Nat → List Nat → List (BitVec 256)
  | 0, _ => []
  | n + 1, bs => BitVec.ofNat 256 ((bs.take 256).zipIdx.map fun b => b.1 * 2 ^ b.2).sum :: bitWords n (bs.drop 256)

/-- The stuff symbol after 55 symbols of one level (R369). -/
def stuffLevel (l : Fin 4) : Fin 4 := if l.val ≤ 1 then 3 else 0

/-- The payload of a period with its stuff symbols, after a run of `run` symbols of level `last` (R369). A run that the last payload symbol
completes is followed by its stuff symbol too (DESIGN CHOICE, log entry 108). -/
def tlmStuff (last : Fin 4) (run : Nat) : List (Fin 4) → List (Fin 4)
  | [] => if run = 55 then [stuffLevel last] else []
  | x :: xs =>
    if run = 55 then
      stuffLevel last :: x :: tlmStuff x (if x = stuffLevel last then 2 else 1) xs
    else x :: tlmStuff x (if x = last ∧ run ≠ 0 then run + 1 else 1) xs

/-- What a received payload holds (R369): the payload symbols, the stuff symbols removed and the violations among them. -/
structure Unstuffed where
  payload : List (Fin 4) := []
  stuffs : Nat := 0
  violations : Nat := 0
deriving DecidableEq, Repr

/-- The receiver removes the symbol after any run of 55; one of the run's level is a violation (R369). -/
def tlmUnstuff (last : Fin 4) (run : Nat) : List (Fin 4) → Unstuffed
  | [] => {}
  | x :: xs =>
    if run = 55 then
      let r := tlmUnstuff x 1 xs
      { r with stuffs := r.stuffs + 1, violations := r.violations + if x = last then 1 else 0 }
    else
      let r := tlmUnstuff x (if x = last ∧ run ≠ 0 then run + 1 else 1) xs
      { r with payload := x :: r.payload }

/-- The pad symbols of a period: levels 0 and 3 in turn (R367). -/
def tlmPad (n : Nat) : List (Fin 4) := (List.range n).map fun i => if i % 2 = 0 then 0 else 3

/-- Payload bits of a period on one lane and the symbols that carry a marker and payload (R370). -/
def tlmPayloadSymbols : Nat := 2097152
def tlmPeriodSymbols : Nat := 2097280

/-- A defect of a marker on a lane (R377): counted, reported, and the client of the group fails until the group is up again. -/
def markerDefect (l : LaneId) (p : PortId) (s : State) : State :=
  let s := laneFault l 5 (s.onPort p fun k => { k with markerErrs := satInc 32 k.markerErrs })
  followClients (portDown p (raiseAt 222 16 p.val s))

/-- One lane takes a bad or missing marker (R371, R377): a defect, and after three in succession the lock is lost. -/
def badMarker (l : LaneId) (p : PortId) (s : State) : State :=
  markerDefect l p (s.onLane l fun k => { k with bad := k.bad + 1, good := 0, locked := k.locked && decide (k.bad + 1 < 3) })

/-- The order that a marker shows for a physical lane (R363). -/
def markerOrder (l : LaneId) (m : Marker) : Option Bool :=
  if m.first + m.lane = l.val then some false else if m.first + m.lane = 15 - l.val then some true else none

/-- `TLM_MARKER` (R363, R368, R369, R371): a marker position on a lane, with the 256 bits found there or none, and the symbols received in the
period before it, after its marker and pad. A lane of a port that is up delivers their client words (DESIGN CHOICE, log entry 108). Two markers
with a good CRC, 16,384 payload blocks apart, give marker lock; their fields are checked beside that. -/
def execTlmMarker (lane : Fin 16) (marker : Option (BitVec 256)) (received : List (Fin 4)) (s : State) : Result :=
  let k := s.lane lane
  if k.passed = false then .next s
  else
    let u := tlmUnstuff 0 0 received
    let stuffs := u.stuffs
    let violations := u.violations
    let s := s.onLane lane fun k => { k with stuffs := satInc 32 k.stuffs stuffs }
    let m := marker.bind fun w => Marker.ofNat w.toNat
    let s := match m.bind (markerOrder lane) with
      | some rev => if s.orderKnown then s else holdOrder { s with hst.reversed := rev }
      | none => s
    match s.portOf lane with
    | none => .next s
    | some p =>
      if s.portType p.val ≠ 13 then .next s
      else
        let s := if violations = 0 then s
          else laneFault lane 4 (s.onPort p fun k => { k with markerErrs := satInc 32 k.markerErrs violations })
        let index := physical s.rxReversed lane.val - p.val
        let bs := tlmScramble index (u.payload.flatMap pam4Bits)
        let s := if (s.port p).up then s.send (.tlmWords lane.val (bitWords (bs.length / 256) bs)) else s
        match m with
        | none => .next (badMarker lane p s)
        | some m =>
          let good := if k.good = 0 ∨ u.payload.length = tlmPayloadSymbols then k.good + 1 else 1
          let s := s.onLane lane fun k => { k with good := good, bad := 0, locked := k.locked || decide (2 ≤ good) }
          if m.lane = index ∧ m.size + 1 = s.portLanes p.val ∧ m.first = p.val then
            let kbps := s.portLanes p.val * laneKbps (s.laneRate lane) * tlmPayloadSymbols / (tlmPeriodSymbols + m.pad + stuffs)
            .next (followClients (overAll (s.portClients p) (fun c s => s.onClient c fun k => { k with hostKbps := kbps }) s))
          else .next (markerDefect lane p s)

/-- Payload blocks of a period on one lane (R367). -/
def tlmBlocks : Nat := 16384

/-- PAM4 levels as a lane sends them: with `tx_invert` = 1 levels 0 and 3, and 1 and 2, are exchanged (R362). -/
def polarised (invert : Bool) (ls : List (Fin 4)) : List (Fin 4) := if invert then ls.map fun x => 3 - x else ls

/-- `TLM_PERIOD` (R362, R367 to R370): a transmit period with its client words, 16,384 for each lane, begins on every lane of a group, with the
pad that the buffer fill asks for. If client words have been dropped, that is counted and the period has P = 0. A word that is not listed is
zero, and words beyond the period are not sent in it (DESIGN CHOICE, log entry 108). -/
def execTlmPeriod (port : Fin 16) (pad : Fin 4096) (dropped : Nat) (words : List (BitVec 256)) (s : State) : Result :=
  if s.portType port.val ≠ 13 then .next s
  else
    let n := s.portLanes port.val
    let s := if dropped = 0 then s
      else raiseAt 222 16 port.val (s.onPort port fun k => { k with markerErrs := satInc 32 k.markerErrs, noPad := true })
    let k := s.port port
    let p := if k.noPad then 0 else pad.val
    let payload := fun (i : Nat) =>
      tlmStuff 0 0 (pam4Symbols (tlmScramble i ((List.range tlmBlocks).flatMap fun j => wordBits (words.getD (n * j + i) 0))))
    let marker := fun (i : Nat) => pam4Symbols (wordBits (BitVec.ofNat 256
      (Marker.toNat { lane := i, size := n - 1, first := port.val, pad := p, period := k.period % 65536 })))
    let s1 := overAll (List.range n)
      (fun i s =>
        let l := physical s.txReversed (port.val + i)
        let sent := polarised (s.cfgB Param.lnTxInvert 0 0 l)
        s.send (.tlmPeriod l (sent (marker i)) (sent (tlmPad p)) (sent (payload i)))) s
    .next (s1.onPort port fun k => { k with period := (k.period + 1) % 65536, noPad := false })

/-! ### FlexE (R356, R372) -/

/-- A FlexE group, and a change of it. -/
def State.onFlexe (s : State) (g : Fin 4) (f : FlexeGroup → FlexeGroup) : State :=
  { s with hst.groups := vmod s.hst.groups g f }

/-- `FLEXE_OH` (R377): the overhead of a PHY of a group. What a bad CRC covers is not taken, and the clients of the group fail. -/
def execFlexeOh (port : Fin 16) (crcOk : Bool) (gidOk : Bool) (phyOk : Bool) (locked : Bool) (rpf : Bool) (s : State) : Result :=
  match s.cfgN Param.pcsFlexeGroup 0 port.val with
  | 0 => .next s
  | g + 1 =>
    if hg : g < 4 then
      if (s.port port).up = false ∨ s.isPhy port.val g = false then .next s
      else
        let gid : Fin 4 := ⟨g, hg⟩
        let s1 := if crcOk then s else { s with hst.ohCrc := satInc 32 s.hst.ohCrc }
        let s1 := s1.onPort port fun k =>
          { k with ohLocked := locked, ohCrcBad := !crcOk, gidBad := if crcOk then !gidOk else k.gidBad,
                   phyBad := if crcOk then !phyOk else k.phyBad, rpf := if crcOk then rpf else k.rpf }
        .next (followClients (if crcOk && gidOk && phyOk && locked then s1
          else raiseAt 220 17 gid.val (s1.send (.flexeFault gid.val))))
    else .next s

/-- The committed calendar slots of a group: for each PHY in ascending port, 20 slots for each 100 Gb/s. -/
def State.groupCalendar (s : State) (g : Fin 4) : List Nat :=
  (s.phys g).flatMap fun p =>
    (List.range (20 * (portShape (s.portType p.val) 0).2.2)).map fun i => s.cfgN Param.fxeCalendar 0 (80 * p.val + i)

/-- `HOST_CAL_REQUEST` (R372): acknowledged only if the host's calendar of the group equals the committed one. -/
def execHostCalRequest (group : Fin 4) (calendar : List Nat) (s : State) : Result :=
  if s.phys group = [] then .next s
  else if calendar = s.groupCalendar group then
    .next ((s.send (.flexeAck group.val)).onFlexe group fun k => { k with calMismatch := false })
  else .next (s.onFlexe group fun k => { k with calMismatch := true })

/-- `FLEXE_CAL_QUERY` (Table 11.12): the 80 slot owners of a port in the calendar in use and on standby. -/
def execFlexeCalQuery (req : Request) (s : State) : Result :=
  .next (serveTarget req s [(13, 17)] false fun s =>
    if req.payload.length ≠ 1 ∨ 15 < byteAt req.payload 0 then respond req (refusal stBadValue) s
    else
      let owners := fun (cal : NMap Nat) =>
        (List.range 80).map fun i => BitVec.ofNat 8 ((nmGet cal (80 * byteAt req.payload 0 + i)).getD 255)
      respond req (okWith (owners s.hst.calendar ++ owners s.hst.standby)) s)

/-! ### Commands of lanes (R374, R381) -/

/-- The Units of the lanes. -/
def laneUnits : List (Nat × Nat) := (List.range 16).map fun n => (13, n)

/-- The lane that a target names. -/
def laneOfPath (p : Path) : LaneId := ⟨p.unit % 16, Nat.mod_lt _ (by decide)⟩

/-- `HST_LANE_RETRAIN` (R381): the lane restarts from step 1, also out of H2, and its stored taps are discarded. A lane that R375 or R376 holds
in H2, of no port or in P3 or P4, only loses its taps. -/
def execHstLaneRetrain (req : Request) (s : State) : Result :=
  .next (serveTarget req s laneUnits true fun s =>
    if req.payload ≠ [] then respond req (refusal stBadValue) s
    else
      let l := laneOfPath req.target
      let s := s.onLane l fun k => { k with kept := false, taps := #v[0, 0, 0, 64, 0, 0] }
      let s := if (s.lane l).low then (if s.lanePorted l ∧ s.lanePower l ≤ 2 then restartLane l s else s) else laneDown l 1 s
      respond req okReply (followClients s))

/-- What the receiver of a lane measures (Table 11.12). -/
def eyeBytes (rate snr upper middle lower width ctle : Nat) (dfe : Int) : List Byte :=
  let nrz := decide (rate = 0)
  leBytes 2 snr ++ leBytes 2 (if nrz then 0 else upper) ++ leBytes 2 middle ++ leBytes 2 (if nrz then 0 else lower) ++
    leBytes 2 width ++ leBytes 1 ctle ++ leBytes 1 0 ++ leBytes 2 (natOfInt 16 dfe) ++ leBytes 2 0

/-- `HST_LANE_EYE` (R381): SNR in 0.01 dB, eye heights in mV and width in 0.1 ps, CTLE code and DFE tap, as measured. With `rx_eq_freeze` = 1 the
equaliser holds its values, those last measured (R360) (DESIGN CHOICE, log entry 111). -/
def execHstLaneEye (req : Request) (snr : Nat) (upper : Nat) (middle : Nat) (lower : Nat) (width : Nat) (ctle : Nat) (dfe : Int)
    (s : State) : Result :=
  .next (serveTarget req s laneUnits false fun s =>
    if req.payload ≠ [] then respond req (refusal stBadValue) s
    else
      let l := laneOfPath req.target
      let hold := s.cfgB Param.lnRxEqFreeze 0 0 l.val
      let s := s.onLane l fun k =>
        { k with snrX4 := min 255 (snr / 25), ctle := if hold then k.ctle else ctle % 256, dfe := if hold then k.dfe else dfe }
      respond req (okWith (eyeBytes (s.laneRate l) snr upper middle lower width (s.lane l).ctle (s.lane l).dfe)) s)

/-- Mute or unmute the transmitter of a lane (R374). -/
def muteLane (l : LaneId) (on : Bool) (s : State) : State := s.onLane l fun k => { k with muted := on }

/-! ### Commits, power states and resets (R365, R376, R379) -/

/-- A lane goes to H2 in P3 and P4, keeping taps and polarity; a lane of a port leaves it with them, by a warm exit where R365 allows
(R365, R376). -/
def hstPower (s : State) : State :=
  followClients (overAll (indices 16)
    (fun l s =>
      let k := s.lane l
      let deep := decide (3 ≤ s.lanePower l)
      if deep && !k.deep then
        let s := s.onLane l fun k => { k with low := true, deep := true }
        if k.low then s else laneDown l 0 s
      else if !deep && k.deep then
        if s.lanePorted l then
          let warm := k.kept && k.present && s.orderKnown
          s.onLane l fun k =>
            { k with low := false, deep := false, step := if k.signal then 2 else 1, refAt := s.now, stepAt := s.now, absentAt := s.now,
                     warm := warm, kept := k.kept && warm }
        else s.onLane l fun k => { k with deep := false }
      else s) s)

/-- A Unit reset inside HST (Table 11.10) (DEDUCED, log entry 81). -/
def resetHstUnit (unit : Nat) (s : State) : State :=
  match h : decide (unit < 16) with
  | true =>
    let l : LaneId := ⟨unit, of_decide_eq_true h⟩
    let s := laneDown l 0 s
    let s := s.onLane l fun k => { flint := k.flint, forced := k.forced, deep := k.deep }
    let s := if s.lanePorted l ∧ s.lanePower l ≤ 2 then restartLane l s else s
    followClients (judgeOrder s)
  | false =>
    if unit = 16 then
      let s := overAll (indices 16) portDown s
      followInputs (followClients (judgeSteps
        { s with hst.ports := Vector.replicate 16 {}, hst.orderLocked := false, hst.reversed := false }))
    else followClients { s with hst.groups := Vector.replicate 4 {}, hst.ohCrc := 0, hst.switches := 0, hst.calendar := [],
                                 hst.standby := [] }

end Sys2Proof.Machine
end

