-- ==== Sys2Proof/Machine/Timing.lean ====
section
/-!
DEFINITION. TIM: reference slots, selection, holdover, device time, `PPS_OUT` and PTP (chapter 12).
-/
namespace Sys2Proof.Machine

/-- A measurement or timer of TIM acts only while the TIME domain runs (Table 13.5). -/
def whileTime (s : State) (act : State → State) : Result := if s.clk.timeStopped then .next s else .next (act s)

/-- Take the offsets of a slot (R387): a slot beyond a limit is disqualified at once (R388), and peers are compared (R393). -/
def measureSlot (n : SlotId) (hard soft : Int) (s : State) : State :=
  let old := s
  let s := s.onTslot n fun q => { q with measured := true, hard := hard, soft := soft }
  judgePeers (reselect old
    (if (s.tslot n).hardOk = false then disqualify n false s
      else if s.softOk n = false then disqualify n true s
      else judgeSoak n s))

/-- `SLOT_MEASURE` (R387, R388, R386): the offsets of a slot and of `XTAL_B` against `XTAL_A`, in parts per 10^12. Those of slot 5 come with its
pulses. -/
def execSlotMeasure (slot : Fin 8) (hard : Int) (soft : Int) (xtalB : Int) (s : State) : Result :=
  whileTime s fun s =>
    let s := judgeBase (followInputs { s with tim.xtalBPpt := xtalB })
    if slot.val = 5 ∨ (s.slotActive slot = false ∧ (s.tslot slot).held = false) then judgePeers s
    else measureSlot slot hard soft s

/-- `SOAK_DONE` (R388): the slot has kept within its limits for `soak_s`. -/
def execSoakDone (slot : Fin 8) (s : State) : Result :=
  whileTime s fun s =>
    match (s.tslot slot).soakAt with
    | none => s
    | some t => selectorRun (qualify slot (s.reach (t + s.cfgN Param.rslSoakS * usPerS)))

/-- `WTR_DONE` (R389): the wait-to-restore ends and the slot is available. -/
def execWtrDone (slot : Fin 8) (s : State) : Result :=
  whileTime s fun s =>
    match (s.tslot slot).wtrAt with
    | none => s
    | some t =>
      selectorRun ((s.reach (t + s.cfgN Param.rslWtrS * usPerS)).onTslot slot fun q => { q with wtrAt := none, everDisq := false })

/-- The kind whose activity a pin or port of the slot gives directly: slots 3 and 4 frequency, slot 5 phase (Table 12.2)
(DESIGN CHOICE, log entry 47). -/
def pinKind (n : SlotId) : Option Kind := if n.val = 3 ∨ n.val = 4 then some .freq else if n.val = 5 then some .phase else none

/-- `ACTIVITY_LOSS` (R385, R391): a reference ball loses its edges; for the other slots the state of their source
decides. -/
def execActivityLoss (slot : Fin 8) (s : State) : Result :=
  whileTime s fun s =>
    match pinKind slot with
    | some k => reselect s (loseActivity slot k false (if k = .phase then { s with tim.pulses := [] } else s))
    | none => followInputs s

/-- `ACTIVITY_RETURN` (R391): the edges return. -/
def execActivityReturn (slot : Fin 8) (s : State) : Result :=
  whileTime s fun s =>
    match pinKind slot with
    | some k => reselect s (gainActivity slot k s)
    | none => followInputs s

/-- When the earlier hold-off of a slot began. -/
def Slot.holdSince (q : Slot) : Option Nat :=
  match q.holdF, q.holdP with
  | some a, some b => some (min a b)
  | some a, none => some a
  | none, b => b

/-- `HOLDOFF_EXPIRE` (R391): the slot is disqualified and the selector runs. -/
def execHoldoffExpire (slot : Fin 8) (s : State) : Result :=
  whileTime s fun s =>
    match (s.tslot slot).holdSince with
    | none => s
    | some t => reselect s (disqualify slot false (s.reach (t + s.cfgN Param.rslHoldoffMs * 1000)))

/-- `SELECTOR_RUN` (R390). -/
def execSelectorRun (s : State) : Result := whileTime s fun s => selectorRun (judgeBase (followInputs s))

/-- `XTAL_B_WARMUP` (R386): `xtal_b_warmup_s` after the ready flag; `XTAL_B` lies at `offset`, in parts per 10^12. -/
def execXtalBWarmup (offset : Int) (s : State) : Result :=
  whileTime s fun s =>
    match s.tim.xtalBAt with
    | none => s
    | some t => judgeBase { s.reach (t + s.cfgN Param.rslXtalBWarmupS * usPerS) with tim.xtalBPpt := offset }

/-- `HISTORY_ENTRY` (R394, R400, R391): each channel's loop takes in the frequency of its reference, and the entry of one second ends with the sync
channel's frequency; in a hold-off the loops hold, and the entry is that before. -/
def execHistoryEntry (ppt : Int) (linePpt : Int) (lineLocked : Bool) (syncLocked : Bool) (s : State) : Result :=
  whileTime s fun s =>
    match s.tim.entryAt, s.tim.selF with
    | some t, some n =>
      let s := s.reach (t + usPerS)
      let held := (s.tslot n).holdF.isSome
      let sync := Config.loop (bandwidthMhz (s.cfgN Param.dplSyncBw)) usPerS ppt s.tim.syncFreq s.tim.syncMem
      let line := Config.loop (bandwidthMhz (s.cfgN Param.dplLineBw)) usPerS linePpt s.tim.lineFreq s.tim.lineMem
      let v := if held then ((s.tim.history.head?).map Prod.snd).getD s.tim.syncFreq else sync.1
      let s := { s with
        tim.history := ((t + usPerS, v) :: s.tim.history).take 1024
        tim.entryAt := some (t + usPerS)
        tim.syncFreq := v
        tim.syncMem := if held then s.tim.syncMem else sync.2
        tim.syncState := if syncLocked then 2 else 1 }
      if s.tim.lineState = 0 then s
      else { s with tim.lineFreq := clampInt (-50000000) 50000000 (if held then s.tim.lineFreq else line.1)
                    tim.lineMem := if held then s.tim.lineMem else line.2
                    tim.lineState := if lineLocked then 2 else 1 }
    | _, _ => s

/-- `HOLDOVER_LIMIT` (R403): the first of frequency error, phase error and time reaches its limit. -/
def execHoldoverLimit (s : State) : Result :=
  whileTime s fun s =>
    if s.tim.holdover = false ∨ s.tim.limit = true then s
    else
      reachLimit (s.reach (s.tim.holdAt +
        limitAfter (s.cfgN Param.hldInitPpb) (s.cfgN Param.hldDriftPpbDay) (s.cfgN Param.hldFreqLimitPpb)
          (s.cfgN Param.hldPhaseLimitNs) (s.cfgN Param.hldMaxS)))

/-! ### Time and outputs (R397, R398) -/

/-- The mean of the offsets of some pulse intervals; which neighbour of a mean that is no whole number is free (DESIGN CHOICE, log entry 16). -/
def pulseMean (xs : List Int) : Int :=
  let sum := xs.foldl (· + ·) 0
  let n : Int := xs.length
  if n = 0 then 0 else sum / n + (if sum % n ≠ 0 ∧ Config.meanRoundsUp sum xs.length then 1 else 0)

/-- A pulse interval ends (R387): the hard offset is that of the interval, in parts per 10^12 of 1 s, the soft offset the mean over the last 16
(DEDUCED, log entry 46). -/
def measurePulse (intervalPs : Nat) (s : State) : State :=
  let offset : Int := 1000000000000 - (intervalPs : Int)
  let xs := (offset :: s.tim.pulses).take 16
  measureSlot 5 offset (pulseMean xs) { s with tim.pulses := xs }

/-- `PPS_IN_EDGE` (R385, R387, R397): the edge ends a pulse interval, unless it is the first after a loss; slot 5 steers or steps the device time
while it is the phase selection, by a difference taken modulo 1 s. -/
def execPpsInEdge (edge : PpsEdge) (s : State) : Result :=
  whileTime s fun s =>
    let s := if (s.tslot 5).actP then measurePulse edge.intervalPs s else reselect s (gainActivity 5 .phase s)
    let half := (edge.diffPs + 500000000000) % 1000000000000 - 500000000000
    if s.tim.selP = some 5 then steerTime half s else s

/-- The device second whose pulse is next: the first one whose time with the offset has not passed, and later than the last one that had a pulse
(R398). -/
def State.ppsNext (s : State) : Nat :=
  let due := ((((s.deviceNs * 4 : Nat) : Int) - s.cfg Param.ppsPpsOffset250ps + 3999999999) / 4000000000).toNat
  match s.tim.ppsSecond with
  | some k => max (k + 1) due
  | none => due

/-- Units of 250 ps until `PPS_OUT` rises next: a whole second of device time plus the offset; a new offset moves it from the next second on (R398)
(DEDUCED, log entry 48). -/
def State.ppsWait (s : State) : Nat :=
  (((s.ppsNext * 4000000000 : Nat) : Int) + s.cfg Param.ppsPpsOffset250ps - ((s.deviceNs * 4 : Nat) : Int)).toNat

/-- `PPS_OUT` (R398): the output rises; disabled or squelched it stays low, and before step 8 of start-up (R532). -/
def execPpsOut (s : State) : Result :=
  whileTime s fun s =>
    if s.cfgB Param.ppsPpsEnable = false then s
    else
      let second := s.ppsNext
      let s := s.reach (s.now + (s.ppsWait + 3999) / 4000)
      let s := { s with tim.ppsAt := some s.now, tim.ppsSecond := some second }
      if s.syncOut then ({ s with tim.ppsHigh := true }).send (.pps true) else s

/-- The frequency of `CLKOUT_A` or `CLKOUT_B` in Hz, and whether a rising edge coincides with each rise of `PPS_OUT`; `none` while it is not
driven or is squelched (R398, R403, R532). -/
def State.clkout (s : State) (o : Fin 2) : Option (Nat × Bool) :=
  if s.cfgB Param.ppsClkoutEnable 0 o.val && s.syncOut then
    some (s.cfgN Param.ppsClkoutHz 0 o.val, s.cfgB Param.ppsClkoutMode 0 o.val)
  else none

/-- `PPS_PULSE_END` (R398): the output falls after `pps_width_us`. -/
def execPpsPulseEnd (s : State) : Result :=
  whileTime s fun s =>
    match s.tim.ppsHigh, s.tim.ppsAt with
    | true, some t => ppsLow (s.reach (t + s.cfgN Param.ppsPpsWidthUs))
    | _, _ => s

/-! ### PTP (R385, R405, R407) -/

/-- A port of the boundary clock, and a change of it. -/
def State.ptpPort (s : State) (p : Fin 2) : PtpPort := s.tim.ptp[p]
def State.onPtp (s : State) (p : Fin 2) (f : PtpPort → PtpPort) : State := { s with tim.ptp := vmod s.tim.ptp p f }

/-- The slot of a Tvedry port. -/
def ptpSlot (p : Fin 2) : SlotId := ⟨6 + p.val, by omega⟩

/-- A port takes a state (Table 12.10): a change raises `EV060`; the first slave state makes the device time valid, and
leaving it loses the phase of the slot. -/
def setPtpState (p : Fin 2) (st : Nat) (s : State) : State :=
  if (s.ptpPort p).state = st then s
  else
    let s := raise 60 (s.onPtp p fun q =>
      { q with state := st, lastSync := if st = 3 then q.lastSync else none
               heard := if st ≤ 1 then none else q.heard, heardAt := if st = 1 then s.now else q.heardAt })
    if st = 3 then { s with tim.timeValid := true } else reselect s (loseActivity (ptpSlot p) .phase false s)

/-- The port that follows a master, uncalibrated or slave, and what its master announces. -/
def State.parent (s : State) : Option (Fin 2 × ClockData) :=
  (indices 2).findSome? fun p =>
    if (s.ptpPort p).state = 2 ∨ (s.ptpPort p).state = 3 then (s.ptpPort p).heard.map fun d => (p, d) else none

/-- The clockClass of the device's own clock (Table 12.5) (DESIGN CHOICE, log entry 19). -/
def State.ownClass (s : State) : Nat :=
  if s.tim.selP = some 5 ∧ s.tim.phaseLocked = true then s.cfgN Param.ppsPtpClockClass
  else if s.tim.holdover then (if s.tim.limit then 165 else 135)
  else if s.tim.syncState = 0 then 248
  else Config.clockClassElse s.free

/-- The clockClass sent (Table 12.5): that of the grandmaster while slave. -/
def State.clockClass (s : State) : Nat :=
  match s.parent with
  | some x => if (s.ptpPort x.1).state = 3 then x.2.clockClass else s.ownClass
  | none => s.ownClass

/-- The identity of a port of this device, 0 for the clock itself (DESIGN CHOICE, log entry 47). -/
def State.portIdentity (s : State) (port : Nat) : Nat := s.fuses.deviceId * 65536 + port

/-- The data set of the device's own clock, at steps 0 (R407) (PRESUMED, log entry 47). -/
def State.ownClock (s : State) : ClockData :=
  { clockClass := if s.parent.isSome then 248 else s.ownClass, accuracy := Config.ownQuality.1, variance := Config.ownQuality.2
    priority2 := s.cfgN Param.ppsPtpPriority2, identity := s.fuses.deviceId, steps := 0, sender := s.portIdentity 0 }

/-- A data set with the local priority it is judged by and the port it came in on (R407). -/
structure PtpSource where
  data : ClockData
  localPriority : Nat
  port : Nat
deriving DecidableEq, Repr

/-- Which of two lists of numbers is smaller at the first difference: 2 the first, -2 the second, 0 neither. -/
def firstLower : List Nat → List Nat → Int
  | a :: as, b :: bs => if a < b then 2 else if b < a then -2 else firstLower as bs
  | _, _ => 0

/-- Compare two data sets of one grandmaster by the way they came (IEEE 1588): 2 and 1 say that the first is better, by 1 in topology only,
negative numbers the second (PRESUMED, log entry 47). -/
def comparePath (own : Nat) (a b : PtpSource) : Int :=
  let x := a.data.steps
  let y := b.data.steps
  if y + 1 < x then -2
  else if x + 1 < y then 2
  else if y < x then (if own < a.data.sender / 65536 then -2 else -1)
  else if x < y then (if own < b.data.sender / 65536 then 2 else 1)
  else if a.data.sender ≠ b.data.sender then (if a.data.sender < b.data.sender then 1 else -1)
  else if a.port < b.port then 1
  else if b.port < a.port then -1
  else 0

/-- The data set comparison of the alternate algorithm of ITU-T G.8275.1 (R407): clockClass, clockAccuracy, offsetScaledLogVariance, priority2, local
priority; beyond clockClass 127 the identity; then the way (PRESUMED, log entry 47). -/
def compareClocks (own : Nat) (a b : PtpSource) : Int :=
  let quality (x : PtpSource) := [x.data.clockClass, x.data.accuracy, x.data.variance, x.data.priority2, x.localPriority]
  let q := firstLower (quality a) (quality b)
  if q ≠ 0 then q
  else
    let i := if a.data.clockClass ≤ 127 then 0 else firstLower [a.data.identity] [b.data.identity]
    if i ≠ 0 then i else comparePath own a b

/-- What the algorithm makes of a port: 1 listening, 2 slave, 4 master, 5 passive. `own` is the device's own clock where it is a candidate, `best` the
best of all ports, `here` that of this port (PRESUMED, log entry 47). -/
def decidePort (id : Nat) (own best here : Option PtpSource) : Nat :=
  match own, best with
  | none, none => 1
  | some _, none => 4
  | o, some e =>
    if o.any fun d => d.data.clockClass ≤ 127 then
      (if o.any fun d => here.all fun x => 0 < compareClocks id d x then 4 else 5)
    else if o.any fun d => 0 < compareClocks id d e then 4
    else if here = some e then 2
    else if here.any fun x => compareClocks id e x = 1 then 5
    else 4

/-- Only a member that holds authority is a candidate for grandmaster; a device that is no member is bound by no domain (R500) (DEDUCED,
log entry 47). -/
def State.ptpCandidate (s : State) : Bool := !s.cfgB Param.dauMember || s.dom.authority

/-- What a port has heard, as the algorithm takes it. -/
def State.heardOn (s : State) (p : Fin 2) : Option PtpSource :=
  if s.ptpOn p then (s.ptpPort p).heard.map fun d => ⟨d, s.cfgN Param.ppsPtpLocalPriority 0 p.val, p.val + 1⟩ else none

/-- The best of what both ports have heard. -/
def State.bestHeard (s : State) : Option PtpSource :=
  match s.heardOn 0, s.heardOn 1 with
  | some a, some b => some (if 0 ≤ compareClocks s.fuses.deviceId a b then a else b)
  | some a, none => some a
  | none, b => b

/-- Run the best master clock algorithm (R407, R500): each port takes its state, a new slave port through uncalibrated. A listening port without
a master waits out the time of the announcements (DEDUCED, log entry 47). -/
def judgePtp (s : State) : State :=
  let was := s.parent.map fun x => x.2.identity
  let best := s.bestHeard
  let own := if s.ptpCandidate then some (⟨s.ownClock, 128, 0⟩ : PtpSource) else none
  let s := overAll ((indices 2).filter fun p => s.ptpOn p) (fun p s =>
    let q := s.ptpPort p
    let d := decidePort s.fuses.deviceId own best (s.heardOn p)
    if d = 2 then (if q.state = 3 then s else setPtpState p 2 s)
    else if q.state = 1 ∧ best.isNone ∧ s.now < q.heardAt + Config.announceTimeoutUs then s
    else setPtpState p d s) s
  if s.parent.map (fun x => x.2.identity) ≠ was then raise 61 s else s

/-- What was heard on a port is forgotten when no Announce message has come for the time of the announcements. -/
def expireMasters (s : State) : State :=
  { s with tim.ptp := vmap s.tim.ptp fun q =>
      if q.heardAt + Config.announceTimeoutUs ≤ s.now then { q with heard := none } else q }

/-- A PTP message leaves a port. -/
def sendPtp (port : Fin 2) (kind : Nat) (announced : Option ClockData) (s : State) : State :=
  s.send (.ptp port.val kind (s.cfgN Param.ppsPtpDomain) (s.cfgN Param.ppsPtpAddress) announced)

/-- An Announce message (R407): its sender is kept, a slave port follows a new sender anew, through uncalibrated, and the algorithm runs. Messages of this device
and those 255 steps away are not taken (PRESUMED, log entry 47). -/
def hearAnnounce (port : Fin 2) (d : ClockData) (s : State) : State :=
  if d.sender / 65536 = s.fuses.deviceId ∨ 255 ≤ d.steps then s
  else
    let renewed := decide ((s.ptpPort port).state = 3) && (s.ptpPort port).heard.any fun h => h.sender ≠ d.sender
    let s := if renewed then setPtpState port 2 s else s
    judgePtp (s.onPtp port fun q => { q with heard := some d, heardAt := s.now })

/-- A Sync message on a port that follows a master (R385, R397): the first one makes it slave, the slot has phase, and the device time follows it
while the slot is the phase selection. -/
def hearSync (port : Fin 2) (off : Int) (s : State) : State :=
  if (s.ptpPort port).state ≠ 2 ∧ (s.ptpPort port).state ≠ 3 then s
  else
    let s := setPtpState port 3 s
    let s := s.onPtp port fun q => { q with lastSync := some s.now }
    let s := { s with tim.ptpOffset := clampInt (-(2 ^ 31)) (2 ^ 31 - 1) off }
    let s := if s.dom.holdover then s else reselect s (gainActivity (ptpSlot port) .phase s)
    if s.tim.selP = some (ptpSlot port) then steerTime (off * 1000) s else s

/-- `PTP_MESSAGE_RX` (R407, R397, R405): processed on an enabled port, in the domain configured, while firmware is ready; a master port answers a
Delay_Req. -/
def execPtpMessageRx (port : Fin 2) (message : PtpRx) (s : State) : Result :=
  whileTime s fun s =>
    if s.ptpOn port = false ∨ message.domain ≠ s.cfgN Param.ppsPtpDomain ∨ s.mgt.fwReady = false then s
    else
      match message.body with
      | .announce d => hearAnnounce port d s
      | .sync off => hearSync port off s
      | .delayReq => if (s.ptpPort port).state = 4 then sendPtp port 4 none s else s

/-- What an Announce message of this device says (R407): the grandmaster's data one step further, or its own. -/
def State.announced (s : State) (port : Fin 2) : ClockData :=
  let d := match s.parent with
    | some x => { x.2 with steps := x.2.steps + 1 }
    | none => s.ownClock
  { d with clockClass := s.clockClass, sender := s.portIdentity (port.val + 1) }

/-- `PTP_MESSAGE_TX` (R407): a master port sends Sync, Follow_Up and Announce, a port that follows a master Delay_Req; nothing until
firmware is ready (Table 12.4). When an Announce is due the algorithm runs first, without masters that have gone silent. -/
def execPtpMessageTx (port : Fin 2) (kind : Fin 4) (s : State) : Result :=
  whileTime s fun s =>
    if s.ptpOn port = false ∨ s.mgt.fwReady = false then s
    else
      let s := if kind.val = 3 then judgePtp (expireMasters s) else s
      let st := (s.ptpPort port).state
      if kind.val = 2 then (if st = 2 ∨ st = 3 then sendPtp port 2 none s else s)
      else if st ≠ 4 then s
      else if kind.val = 3 then sendPtp port 3 (some (s.announced port)) s.draw
      else sendPtp port kind.val none s

/-- `PTP_SYNC_TIMEOUT` (R385, Table 12.4): no Sync message for 187.5 ms; not during a control restart. -/
def execPtpSyncTimeout (port : Fin 2) (s : State) : Result :=
  whileTime s fun s =>
    match (s.ptpPort port).lastSync with
    | none => s
    | some t =>
      if s.mgt.fwReady = false then s
      else
        let s := s.reach (t + 187500)
        reselect s (loseActivity (ptpSlot port) .phase false (s.onPtp port fun q => { q with lastSync := none }))

/-! ### Commands (R410) -/

/-- `TIM_SET_TIME` (R410) (DEDUCED, log entry 48). -/
def execTimSetTime (req : Request) (s : State) : Result :=
  .next (serveTarget req s [(3, 3)] true fun s =>
    let v := u64At req.payload 0
    if req.payload.length ≠ 8 ∨ 2 ^ 48 ≤ v then respond req (refusal stBadValue) s
    else if s.tim.selP = some 6 ∨ s.tim.selP = some 7 then respond req (refusal stNotPermitted) s
    else respond req okReply { s with tim.setTime := some v })

/-- `TIM_SET_TIME_APPLY` (R397): at the next whole second the device time takes the value. -/
def execTimSetTimeApply (s : State) : Result :=
  whileTime s fun s =>
    match s.tim.setTime with
    | none => s
    | some v =>
      let s := s.reach (s.now + (1000000000 - s.tim.devNs + 999) / 1000)
      timeStepped { s with tim.devS := v, tim.devNs := 0, tim.setTime := none, tim.timeValid := true }

/-- `TIM_QUERY` (R410): per slot the soft offset and the status word. -/
def execTimQuery (req : Request) (s : State) : Result :=
  .next (serveTarget req s [(3, 0)] false fun s =>
    if req.payload ≠ [] then respond req (refusal stBadValue) s
    else
      respond req (okWith ((indices 8).flatMap fun n =>
        leBytes 4 (natOfInt 32 (s.tslot n).soft) ++ leBytes 4 (s.slotStatus n))) s)

/-- `TIM_CLEAR_WTR` (R389, R410): a running wait-to-restore ends; a slot that still soaks is available at the end of its
soak (DEDUCED, log entry 48). -/
def execTimClearWtr (req : Request) (s : State) : Result :=
  .next (serveTarget req s [(3, 0)] true fun s =>
    match h : decide (byteAt req.payload 0 < 8) with
    | true =>
      if req.payload.length ≠ 1 then respond req (refusal stBadValue) s
      else
        let n : SlotId := ⟨byteAt req.payload 0, of_decide_eq_true h⟩
        respond req okReply (selectorRun (s.onTslot n fun q => { q with wtrAt := none, everDisq := false }))
    | false => respond req (refusal stBadValue) s)

/-! ### Commits, power states and resets (R408, R409, Table 12.6) -/

/-- The changed keys name a parameter. -/
def changedParam (ks : List Nat) (sec unit num elem : Nat) : Bool :=
  ks.any fun k => decide ((keyPath k).sec = sec ∧ (keyPath k).unit = unit ∧ keyNum k = num ∧ keyElem k = elem)

/-- A slot whose source is changed is disqualified and soaks again (R409). -/
def renewSlot (n : SlotId) (s : State) : State :=
  reselect s (disqualify n false (s.onTslot n fun q => { q with measured := false }))

/-- What a commit to TIM does when the apply completes (R390, R409). -/
def timCommitted (ks : List Nat) (s : State) : State :=
  let s := if changedParam ks 3 0 1 0 then renewSlot 1 s else s
  let s := if changedParam ks 3 0 1 1 then renewSlot 2 s else s
  let s := if changedParam ks 3 0 2 0 then renewSlot 3 s else s
  let s := if changedParam ks 3 0 2 1 then renewSlot 4 s else s
  let s := overAll (indices 2) (fun p s =>
    if s.ptpOn p then (if (s.ptpPort p).state = 0 then setPtpState p 1 s else s) else setPtpState p 0 s) s
  let s := if s.cfgB Param.ppsPpsEnable then s else ppsLow s
  selectorRun (judgeBase (lineFollows false (followInputs s)))

/-- What a change of power state does (Table 12.6) (DEDUCED, log entry 49). -/
def timPower (s : State) : State := lineFollows false (followInputs s)

/-- A Unit reset inside TIM (Table 12.6) (DEDUCED, log entry 49). -/
def resetTimUnit (unit : Nat) (s : State) : State :=
  match unit with
  | 0 =>
    let s := { s with tim.disagree := none, tim.slots := vmap s.tim.slots fun q =>
      { actF := q.actF, actP := q.actP, measured := q.measured, hard := q.hard, soft := q.soft } }
    selectorRun (overAll (indices 8) judgeSoak s)
  | 1 =>
    let on := s.tim.selF.isSome
    let s := raiseAt 53 1 0 { s with tim.lineState := 0, tim.rampAt := none, tim.lineFreq := 0, tim.syncFreq := 0, tim.phaseErr := 0,
                                     tim.phaseLocked := false, tim.syncState := 0, tim.holdover := false, tim.limit := false
                                     tim.squelched := false, tim.phaseMem := 0, tim.syncMem := 0, tim.lineMem := 0, tim.phaseAt := none }
    if on then syncWith (lineFollows true s) else s
  | 2 =>
    { s with tim.history := [], tim.discardedTenths := 0, tim.discards := 0, tim.entryAt := s.tim.entryAt.map fun _ => s.now
             tim.mean := if s.tim.holdover then s.tim.mean else 0 }
  | _ =>
    let s := overAll (indices 2) (fun p s => setPtpState p 0 s) s
    { ppsLow s with tim.timeValid := false, tim.steps := 0, tim.ptpOffset := 0, tim.ppsAt := none, tim.ppsSecond := none, tim.setTime := none }

/-- A Section reset of TIM (Table 12.6): defaults, an empty history, and time from 0; the activity at the
balls and ports stays as it is (DEDUCED, log entry 49). -/
def resetTim (s : State) : State :=
  let slots := vmap s.tim.slots fun q => { actF := q.actF, actP := q.actP, measured := q.measured, hard := q.hard, soft := q.soft }
  let s := ppsLow s
  overAll (indices 8) judgeSoak { s with tim := { xtalBAt := s.tim.xtalBAt, xtalBPpt := s.tim.xtalBPpt, slots := slots } }

end Sys2Proof.Machine
end

