-- ==== Sys2Proof/Machine/Clocks.lean ====
section
/-!
DEFINITION. CLK: sources, multiplexers, monitors, the safe state and the gates (chapter 13). `CLK_RESUME` stands with the
power states.
-/
namespace Sys2Proof.Machine

/-- A source by its bit in Table 13.2; sources 4 to 7 are the PLLs. -/
abbrev SourceId := Fin 10

/-- The register with bit `n` set or cleared. -/
def withBit {w : Nat} (m : BitVec w) (n : Nat) (on : Bool) : BitVec w :=
  if on then m ||| BitVec.ofNat w (2 ^ n) else m &&& ~~~ (BitVec.ofNat w (2 ^ n))

/-- A failure of the source forces the safe state (Table 13.2). -/
def forcing (n : SourceId) : Bool := decide (n.val ≠ 0 ∧ n.val ≠ 3 ∧ n.val ≠ 9)

/-- The ready flag of a source. -/
def State.sourceReady (s : State) (n : Nat) : Bool := s.clk.ready.getLsbD n

/-- The SPLL and HPLL are off: in P4, until an exit from it begins (R538, Table 17.6). -/
def State.pllsOff (s : State) : Bool :=
  decide (s.deviceState = 4) && !(s.pwr.groups.toList.any fun g => g.move.any fun m => !m.deeper)

/-- The monitor of a source is disarmed (R420): the SPLL and HPLL in P4, `XTAL_B` switched off, FOSC after the handover, and
`PCIE_REFCLK` before its first ready. -/
def State.disarmed (s : State) (n : SourceId) : Bool :=
  match n.val with
  | 0 => s.clk.muxes[(0 : Fin 3)].sel
  | 3 => !s.cfgB Param.oscXtalBEnable
  | 4 | 5 => s.pllsOff
  | 9 => !s.clk.pcieArmed
  | _ => false

/-- The reference of a PLL (R415). -/
def State.pllReference (s : State) (p : Fin 4) : Nat :=
  match p.val with
  | 0 => 2
  | 1 => 8
  | 2 => if s.clk.muxes[(1 : Fin 3)].sel then 3 else 2
  | _ => if s.clk.muxes[(2 : Fin 3)].sel then 3 else 2

/-- A source's ready flag is cleared and its counter restarts from zero, with a swing at once (R413): the swing is lost, or it failed. -/
def clearSource (n : SourceId) (s : State) : State :=
  let s := { s with clk.ready := withBit s.clk.ready n.val false,
                    clk.counting := withBit s.clk.counting n.val (s.clk.swing.getLsbD n.val) }
  if n.val = 3 then judgeBase { s with tim.xtalBAt := none } else s

/-- The MPLL fails while MGMT runs on it (R422): MGMT falls back to FOSC, which completes under R419, or stops (DEDUCED, log entry 44). -/
def mgmtLost (s : State) : State :=
  if s.clk.muxes[(0 : Fin 3)].sel = false then s
  else if s.cfgB Param.cmMgmtFallback then
    raise 37 (raise 36 (raise 38 { s with
      clk.muxes := vmod s.clk.muxes 0 (fun m => { m with sel := false }), clk.fallback := true, clk.stoppedOld := true }))
  else { s with clk.mgmtStopped := true }

/-- A pending access of a seat is completed with an error (R425): a Completer Abort for PCIe, for an SPI or I2C seat ones for a read, and a write
discarded with `WRITE_REFUSED`. -/
def failAccess (i : SeatId) (write : Bool) (s : State) : State :=
  if isPcieSeat s.mapB i then s.send (.completerAbort i)
  else if write then refuseWrite i s
  else readReturns i 0xFFFFFFFF s

/-- A gate closes without an acknowledgement of idle (R425): the accesses that it held are completed with an error, and the Unit is marked. -/
def gateTimesOut (path : Path) (s : State) : State :=
  let mark : Path := ⟨path.sec, path.unit, 0⟩
  let mine := fun (h : HeldAccess) => decide (h.path.sec = path.sec ∧ h.path.unit = path.unit)
  let s := overAll (s.clk.held.filter mine) (fun h => failAccess h.seat h.write) s
  raise 39 { s with
    clk.held := s.clk.held.filter fun h => !mine h
    clk.gateWait := s.clk.gateWait.erase path
    clk.gated := s.clk.gated ++ [path]
    clk.resetRequired := if s.clk.resetRequired.contains mark then s.clk.resetRequired else s.clk.resetRequired ++ [mark]
    clk.gateLast := path.word
    clk.gateTimeouts := satInc 32 s.clk.gateTimeouts }

/-- The clock of some Units stops: a quiescence wait of one of them ends as a timeout (R426). -/
def endWaits (stopped : Path → Bool) (s : State) : State := overAll (s.clk.gateWait.filter stopped) gateTimesOut s

/-- The Unit runs on CORE (Table 1.4). -/
def runsOnCore (p : Path) : Bool :=
  decide (5 ≤ p.sec ∧ p.sec ≤ 10) || (decide (p.sec = 11) && decide (p.unit ≤ 1)) || (decide (p.sec = 12) && decide (p.unit ≠ 2))

/-- The Unit runs on MGMT (Table 1.4). -/
def runsOnMgmt (p : Path) : Bool :=
  decide (p.sec ≤ 2 ∨ p.sec = 4 ∨ p.sec = 12 ∧ p.unit = 2 ∨ p.sec = 11 ∧ p.unit = 2 ∨ p.sec = 15 ∧ p.unit ≤ 1)

/-- What stops with a source: the domains that run on it. -/
def domainStops (n : SourceId) (s : State) : State :=
  match n.val with
  | 0 => if s.clk.muxes[(0 : Fin 3)].sel then s else endWaits runsOnMgmt { s with clk.mgmtStopped := true }
  | 4 => endWaits runsOnCore { s with clk.coreStopped := true }
  | 5 => endWaits (fun p => decide (p.sec = 13)) { s with clk.hcoreStopped := true }
  | 6 => endWaits (fun p => decide (p.sec = 14) || (s.clk.muxes[(0 : Fin 3)].sel && !s.cfgB Param.cmMgmtFallback && runsOnMgmt p)) (mgmtLost s)
  | 7 => endWaits (fun p => decide (p.sec = 3) || decide (p.sec = 15 ∧ p.unit = 2)) { s with clk.timeStopped := true }
  | _ => s

/-- Enter the safe state (R421, Table 13.5): the forces are asserted and the first source is recorded. -/
def enterSafe (n : SourceId) (cause : Nat) (s : State) : State :=
  raise 33 { holdDacs s with
    clk.safeState := true
    clk.fails := satInc 32 s.clk.fails
    clk.firstSource := n.val
    clk.firstCause := cause
    clk.failTimeUs := s.now % 2 ^ 32
    hst.lanes := vmap s.hst.lanes fun k => { k with forced := true } }

/-- One source is declared failed (R420, R421): cause 1 the count, 2 loss of lock (DEDUCED, log entry 44). -/
def declareFailed (n : SourceId) (cause : Nat) (s : State) : State :=
  let s := clearSource n { s with clk.failed := withBit s.clk.failed n.val true }
  let s := domainStops n s
  if s.clk.safeState then s
  else if forcing n then enterSafe n cause s
  else raise 34 s

/-- A PLL loses lock: its outputs stop, and it is declared failed unless it was switched off (R415, R420). -/
def losePll (pll : Fin 4) (s : State) : State :=
  if s.clk.locked.getLsbD pll.val = false then s
  else
    let n : SourceId := ⟨4 + pll.val, by omega⟩
    let off := s.disarmed n
    let s := { s with clk.locked := withBit s.clk.locked pll.val false, clk.unlocks := satInc 16 s.clk.unlocks }
    if off then clearSource n s else declareFailed n 2 s

/-- The PLLs that take a source as their reference lose lock with its ready flag (R415). -/
def losePlls (n : SourceId) (s : State) : State := overAll ((indices 4).filter fun p => decide (s.pllReference p = n.val)) losePll s

/-- A source is no longer ready, and the PLLs that take it lose lock (R413, R415). -/
def sourceGone (n : SourceId) (s : State) : State := losePlls n (clearSource n s)

/-- A source that is not a PLL is declared failed, and the PLLs that take it lose lock (R415, R420). -/
def sourceFailed (n : SourceId) (cause : Nat) (s : State) : State := losePlls n (declareFailed n cause s)

/-! ### Start-up (R532, R535) -/

/-- Carry the start-up sequencer on through one of steps 3 to 5, if what ends it is there: the straps and the swing of `XTAL_A`,
its ready flag, and the lock of SPLL, MPLL and TPLL, with which MGMT is switched to MPLL (Table 17.4, R416). -/
def startupStep (s : State) : State :=
  let q := s.mgt.seq
  if q.fault then s
  else if q.step = 2 then
    if q.straps.getLsbD 6 || q.straps.getLsbD 7 then failStartup 2 s
    else if s.clk.counting.getLsbD 2 || s.clk.ready.getLsbD 2 then { s with mgt.seq.step := 3 } else s
  else if q.step = 3 ∧ s.clk.ready.getLsbD 2 then { s with mgt.seq.step := 4 }
  else if q.step = 4 ∧ (s.clk.locked.getLsbD 0 && s.clk.locked.getLsbD 2 && s.clk.locked.getLsbD 3) then
    raise 36 { s with mgt.seq.step := 5, clk.muxes := vmod s.clk.muxes 0 fun m => { m with sel := true } }
  else s

/-- Carry the start-up sequencer on as far as the clocks allow (DEDUCED, log entry 43). -/
def startupClocks (s : State) : State := startupStep (startupStep (startupStep s))

/-- `SOURCE_AMPLITUDE` (R413, R414): a valid swing starts the ready counter; a lost one clears flag and counter. -/
def execSourceAmplitude (source : Fin 10) (valid : Bool) (s : State) : Result :=
  if 4 ≤ source.val ∧ source.val ≤ 7 then .next s
  else if valid = false then .next (sourceGone source { s with clk.swing := withBit s.clk.swing source.val false })
  else if s.sourceReady source.val ∨ (source.val = 3 ∧ s.cfgB Param.oscXtalBEnable = false) then .next s
  else .next (startupClocks { s with clk.swing := withBit s.clk.swing source.val true,
                                     clk.counting := withBit s.clk.counting source.val true })

/-- `SOURCE_READY` (R414): the counter is full. `XTAL_B` starts its warm-up; `PCIE_REFCLK` arms its monitor. -/
def execSourceReady (source : Fin 10) (s : State) : Result :=
  if s.clk.counting.getLsbD source.val = false then .next s
  else
    let s := { s with clk.counting := withBit s.clk.counting source.val false, clk.ready := withBit s.clk.ready source.val true }
    let s := if source.val = 9 then { s with clk.pcieArmed := true } else s
    let s := if source.val = 3 then { s with tim.xtalBAt := some s.now } else s
    .next (startupClocks (raiseAt 32 0 0 s))

/-- `PLL_LOCK` (R414, R415): a PLL whose reference is ready has held lock for 1,024 cycles; the SPLL and HPLL are off in
P4, until an exit from it begins (R538) (DEDUCED, log entry 45). -/
def execPllLock (pll : Fin 4) (s : State) : Result :=
  if s.sourceReady (s.pllReference pll) = false ∨ s.clk.locked.getLsbD pll.val ∨ (pll.val < 2 ∧ s.pllsOff = true) then .next s
  else
    .next (startupClocks (raiseAt 32 1 pll.val { s with clk.locked := withBit s.clk.locked pll.val true,
                                                        clk.ready := withBit s.clk.ready (4 + pll.val) true }))

/-- `PLL_UNLOCK` (R415, R420): lock is lost, the outputs stop, and the PLL is declared failed unless it was switched off. -/
def execPllUnlock (pll : Fin 4) (s : State) : Result :=
  .next (losePll pll s)

/-- `CLOCK_MONITOR_WINDOW` (R420): a window of a source that is not a PLL; `ok` says that it lies inside the limit. -/
def execClockMonitorWindow (source : Fin 10) (ok : Bool) (s : State) : Result :=
  if ok ∨ (4 ≤ source.val ∧ source.val ≤ 7) ∨ s.disarmed source ∨
      (s.clk.failed.getLsbD source.val ∧ s.sourceReady source.val = false) then .next s
  else .next (sourceFailed source 1 s)

/-! ### Switching (R416 to R419) -/

/-- The source that a multiplexer input takes (Table 13.3). -/
def muxSource (mux : Fin 3) (src : Bool) : SourceId :=
  if mux.val = 0 then (if src then 6 else 0) else (if src then 3 else 2)

/-- Change a multiplexer. -/
def State.onMux (s : State) (m : Fin 3) (f : ClockMux → ClockMux) : State := { s with clk.muxes := vmod s.clk.muxes m f }

/-- `CLK_SWITCH` (R416, R417) (DEDUCED, log entry 44). -/
def execClkSwitch (req : Request) (s : State) : Result :=
  .next (serveTarget req s [(2, 0)] true fun s =>
    match h : decide (byteAt req.payload 0 < 3) with
    | false => respond req (refusal stBadValue) s
    | true =>
      let m : Fin 3 := ⟨byteAt req.payload 0, of_decide_eq_true h⟩
      let src := decide (byteAt req.payload 1 = 1)
      if req.payload.length ≠ 2 ∨ 1 < byteAt req.payload 1 ∨ (m.val = 1 ∧ src = true ∧ s.cfg Param.rslXtalBHz % 1000000 ≠ 0) then
        respond req (refusal stBadValue) s
      else if s.sourceReady (muxSource m src).val = false ∨ s.clk.muxes[m].switchTo.isSome then
        respond req (refusal stNotPermitted) s
      else if s.clk.muxes[m].sel = src then respond req (okWith [0]) s
      else
        let s := s.onMux m fun x => { x with switchTo := some src, oldStopped := false }
        { s with mgt.waiting := s.mgt.waiting ++ [.clkSwitch req m.val] })

/-- Answer the request that waits for a switch. -/
def answerSwitch (m : Fin 3) (rep : Reply) (s : State) : State :=
  match s.mgt.waiting.find? (fun w => match w with | .clkSwitch _ k => decide (k = m.val) | _ => false) with
  | none => s
  | some w => respond w.req rep { s with mgt.waiting := s.mgt.waiting.erase w }

/-- A switch ends (R418, R419): abandoned if the new source is no longer ready, else complete (DEDUCED, log entry 44). -/
def finishSwitch (m : Fin 3) (s : State) : State :=
  match s.clk.muxes[m].switchTo with
  | none => s
  | some src =>
    let stopped := s.clk.muxes[m].oldStopped
    if s.sourceReady (muxSource m src).val = false then
      answerSwitch m (refusal stNotPermitted) (s.onMux m fun x => { x with switchTo := none, oldStopped := false })
    else
      let s := s.onMux m fun _ => { sel := src }
      let s := if m.val = 0 ∧ src = true then { s with clk.fallback := false } else s
      answerSwitch m (okWith [BitVec.ofNat 8 (bit stopped)]) (raise 36 s)

/-- `CLK_SWITCH_DONE` (R418). -/
def execClkSwitchDone (mux : Fin 3) (s : State) : Result := .next (finishSwitch mux s)

/-- `OLD_CLOCK_STOPPED` (R419): the switch completes without the old clock (DEDUCED, log entry 45). -/
def execOldClockStopped (mux : Fin 3) (s : State) : Result :=
  match s.clk.muxes[mux].switchTo with
  | none => .next s
  | some _ =>
    .next (finishSwitch mux (raise 37 { s.onMux mux (fun x => { x with oldStopped := true }) with clk.stoppedOld := true }))

/-! ### Gates (R424 to R426) -/

/-- The reset-required mark of a Unit is cleared (R425). -/
def clearMark (sec unit : Nat) (s : State) : State :=
  { s with clk.resetRequired := s.clk.resetRequired.filter fun p => decide (p.sec ≠ sec ∨ p.unit ≠ unit) }

/-- `IDLE_ACK` (R424) (DEDUCED, log entry 45). -/
def execIdleAck (path : Path) (s : State) : Result :=
  if s.clk.gateWait.contains path then
    .next { s with clk.gateWait := s.clk.gateWait.erase path, clk.gated := s.clk.gated ++ [path] }
  else .next s

/-- `GATE_TIMEOUT` (R425): the accesses pending at the block are completed with an error, the gate closes and the Unit is marked (DEDUCED,
log entry 45). -/
def execGateTimeout (path : Path) (accesses : List PendingAccess) (s : State) : Result :=
  if s.clk.gateWait.contains path then
    .next (gateTimesOut path (overAll accesses (fun a s =>
      match a with
      | .seat i write => failAccess i write s
      | .internal => s.send .busError) s))
  else .next s

/-- What a commit to CLK does: `XTAL_B` is switched off, and its ready flag goes (R428). -/
def clkCommitted (s : State) : State :=
  if s.cfgB Param.oscXtalBEnable then s else sourceGone 3 { s with clk.swing := withBit s.clk.swing 3 false }

/-- A Unit reset inside CLK (Table 13.6); those of `OSC` and `PLL` are refused before. -/
def resetClkUnit (unit : Nat) (s : State) : State :=
  if unit = 2 then { s with clk.gateTimeouts := 0 } else if unit = 3 then { s with clk.fails := 0 } else s

end Sys2Proof.Machine
end

