-- ==== Sys2Proof/Machine/MemOps.lean ====
section
/-!
DEFINITION. The named operations over memory: the error-correcting code (R435, R440 to R445), bulk memory and its
retired pages (R434, R446), and the spill queues (R448 to R453).
-/
namespace Sys2Proof.Machine

/-! ### The code -/

/-- A memory group (Table 14.2). -/
abbrev MemGroup := Fin 6

/-- The generator polynomial of the BCH code of R435, bit i for x^i: (x^7 + x^3 + 1)(x^7 + x^3 + x^2 + x + 1). -/
def bchGenerator : Nat := 0x4377

/-- The 15 check bits of 64 data bits (R435): the remainder of data·x^14 by the generator, and in bit 14 the parity of the 78 bits
before it (PRESUMED, log entry 52). -/
def checkBits (data : Nat) : Nat :=
  let shift := fun (r : Nat) (b : Nat) =>
    let r2 := 2 * r ^^^ (b * 2 ^ 14)
    if 2 ^ 14 ≤ r2 then r2 ^^^ bchGenerator else r2
  let rem := (List.range 64).foldl (fun r i => shift r (bits data (63 - i) 1)) 0
  let ones := ((List.range 64).filter fun i => bits data i 1 = 1).length + ((List.range 14).filter fun i => bits rem i 1 = 1).length
  rem + ones % 2 * 2 ^ 14

/-- The mask of a poisoned word: its 15 check bits inverted (R442). Bits 63 to 0 of a mask are the data bits and bits
78 to 64 the check bits (PRESUMED, log entry 52). -/
def poisonMask : Nat := 0x7FFF * 2 ^ 64

/-- How many of the 79 stored bits a mask names. -/
def maskWeight (m : Nat) : Nat := ((List.range 79).filter fun i => bits m i 1 = 1).length

/-- What a checker finds in a word (R435). -/
inductive WordVerdict where
  | clean
  | corrected (bitsWrong : Nat)
  | uncorrectable
  | poisoned
  /-- Four or more wrong bits, taken as a correctable error; the word keeps the mask. -/
  | miscorrected (left : Nat)
deriving DecidableEq, Repr

/-- The checker's verdict on a mask of wrong bits: up to two are corrected, three are detected, the poison syndrome
is reported as poison, poison with a further wrong bit reads as uncorrectable, and for four or more nothing is assured
(R435, R442) (DESIGN CHOICE, log entry 9). -/
def judgeWord (draw mask : Nat) : WordVerdict :=
  if mask = 0 then .clean
  else if mask = poisonMask then .poisoned
  else if maskWeight mask ≤ 2 then .corrected (maskWeight mask)
  else if maskWeight mask = 3 ∨ maskWeight (mask ^^^ poisonMask) = 1 then .uncorrectable
  else match Config.heavyError draw mask with
    | none => .uncorrectable
    | some m => .miscorrected m

/-- The key of a word of a group in `Mem.flips`. -/
def faultKey (g : MemGroup) (word : Nat) : Nat := g.val * 2 ^ 23 + word

/-- The wrong bits of a stored word. -/
def Mem.flipsOf (m : Mem) (g : MemGroup) (word : Nat) : Nat := (nmGet m.flips (faultKey g word)).getD 0

/-- Set the wrong bits of a stored word. -/
def setFlips (g : MemGroup) (word mask : Nat) (s : State) : State :=
  { s with mem.flips := nmSet 0 s.mem.flips (faultKey g word) (mask % 2 ^ 79) }

/-- Further bits of a stored word go wrong. -/
def upset (g : MemGroup) (word mask : Nat) (s : State) : State := setFlips g word (s.mem.flipsOf g word ^^^ mask) s

/-! ### Counters and logs (R440, R445) -/

/-- Log an error of a group (R445): a word already in the log repeats its entry; another goes to the entry after the
last one written. The second component says that a non-empty entry was overwritten (DEDUCED, log entry 53). -/
def logError (e : EccGroup) (word kind source now : Nat) : EccGroup × Bool :=
  match (indices 32).find? fun i => decide (e.log[i].kind ≠ 0 ∧ e.log[i].word = word) with
  | some i =>
    ({ e with log := vmod e.log i fun x => { x with rep := min 7 (x.rep + 1), kind := kind, timeUs := now % 2 ^ 32 } },
      false)
  | none =>
    let i : Fin 32 := ⟨e.logNext % 32, Nat.mod_lt _ (by decide)⟩
    ({ e with log := e.log.set i { word, kind, source, rep := 0, timeUs := now % 2 ^ 32 },
              logNext := (e.logNext + 1) % 32 }, decide (e.log[i].kind ≠ 0))

/-- Count and log an error found in a word: `kind` is the log `TYPE` (1, 2 corrected, 3 uncorrectable, 4 poisoned by
write, 5 poison read), `source` the log `SOURCE` (R440, R442, R445) (DEDUCED, log entry 53). -/
def noteError (g : MemGroup) (word kind source : Nat) (s : State) : State :=
  let l := logError s.mem.groups[g] word kind source s.now
  let e := l.1
  let e := match kind with
    | 1 | 2 => { e with ce := (e.ce + 1) % 2 ^ 64 }
    | 4 => { e with poison := satInc 32 e.poison }
    | _ => { e with ue := satInc 32 e.ue }
  let gbit := BitVec.ofNat 6 (2 ^ g.val)
  let s := { s with
    mem.groups := s.mem.groups.set g e
    mem.ueSeen := if kind = 3 then s.mem.ueSeen ||| gbit else s.mem.ueSeen
    mem.poisonSeen := if kind = 4 then s.mem.poisonSeen ||| gbit else s.mem.poisonSeen }
  let s := if l.2 then raiseFor 68 g.val s else s
  match kind with
  | 1 | 2 => raiseFor 64 g.val s
  | 3 => raiseFor 65 g.val s
  | 4 => raiseFor 66 g.val s
  | _ => raiseFor 67 g.val s

/-- What the reader of a word gets (R440): the word may be used, or it is uncorrectable or poisoned. -/
inductive ReadResult where
  | good
  | bad (poisoned : Bool)
deriving DecidableEq, Repr

/-- Read one word of a group through its checker (R440): a correctable error is corrected and written back, unless
`keep` says that the word lies in a retired page, and is counted and logged; an uncorrectable or poisoned word is
counted, logged and left as it is (DEDUCED, log entry 53). -/
def readWord (g : MemGroup) (word source : Nat) (keep : Bool) (s : State) : ReadResult × State :=
  let m := s.mem.flipsOf g word
  match judgeWord s.free m with
  | .clean => (.good, s)
  | .corrected n => (.good, noteError g word n source (if keep then s else setFlips g word 0 s))
  | .miscorrected left => (.good, noteError g word 2 source ((if keep then s else setFlips g word left s).draw))
  | .uncorrectable => (.bad false, noteError g word 3 source (if maskWeight m ≤ 3 then s else s.draw))
  | .poisoned => (.bad true, noteError g word 5 source s)

/-- The read step of a partial write (R441, R442): the data bits that are wrong in the word that the new bytes are merged with: none of a corrected
word; of one that is miscorrected those left, which the new check bits cover; of an uncorrectable one those stored, and the word is poisoned. -/
def partialWrite (g : MemGroup) (word source : Nat) (s : State) : Nat × State :=
  let s := { s with mem.rmwCount := satInc 32 s.mem.rmwCount }
  let m := s.mem.flipsOf g word
  match judgeWord s.free m with
  | .clean => (0, s)
  | .corrected n => (0, noteError g word n source (setFlips g word 0 s))
  | .miscorrected left => (left % 2 ^ 64, noteError g word 2 source ((setFlips g word 0 s).draw))
  | .uncorrectable => (m % 2 ^ 64, noteError g word 4 source (setFlips g word poisonMask s))
  | .poisoned => (0, s)

/-! ### Bulk memory (R434, R446) -/

/-- Bytes of bulk memory (Table 14.2). -/
abbrev bulkSize : Nat := 33554432

/-- The page of a bulk offset. -/
def pageOf (a : Nat) : Nat := a / 4096

/-- The page is retired (R446). -/
def Mem.isRetired (m : Mem) (page : Nat) : Bool := m.retired.contains page

/-- The 79 stored bits of a bulk word, wrong bits included (R435) (PRESUMED, log entry 52). -/
def Mem.codeword (m : Mem) (word : Nat) : Nat :=
  let d := leNat (readBytes m.bulk (8 * word) 8)
  (d + checkBits d * 2 ^ 64) ^^^ m.flipsOf 0 word

/-- The eight bytes of a stored bulk word, wrong bits included (PRESUMED, log entry 52). -/
def Mem.storedWord (m : Mem) (word : Nat) : Nat := m.codeword word % 2 ^ 64

/-- Write one bulk word, or the given bytes of it. A retired page is not written (R446); a whole word replaces the
codeword (R442); fewer bytes are a read-modify-write. `lo` is the first byte within the word. -/
def writeBulkWord (word lo : Nat) (bs : List Byte) (source : Nat) (s : State) : State :=
  if bulkSize ≤ 8 * word + 7 then s
  else if s.mem.isRetired (pageOf (8 * word)) then s
  else if bs.length = 8 then
    let s := setFlips 0 word 0 s
    { s with mem.bulk := writeBytes s.mem.bulk (8 * word) bs }
  else
    let old := leNat (readBytes s.mem.bulk (8 * word) 8)
    let r := partialWrite 0 word source s
    let s := r.2
    let s := if r.1 = 0 then s else { s with mem.bulk := writeBytes s.mem.bulk (8 * word) (leBytes 8 (old ^^^ r.1)) }
    { s with mem.bulk := writeBytes s.mem.bulk (8 * word + lo) bs }

/-- Write bytes of bulk memory from an address, word by word. -/
def writeBulk : Nat → Nat → List Byte → Nat → State → State
  | 0, _, _, _, s => s
  | fuel + 1, a, bs, source, s =>
    if bs = [] then s
    else
      let n := 8 - a % 8
      writeBulk fuel (a + (bs.take n).length) (bs.drop n) source (writeBulkWord (a / 8) (a % 8) (bs.take n) source s)

/-- Write a byte string into bulk memory at an address. -/
def bulkStore (a : Nat) (bs : List Byte) (source : Nat) (s : State) : State := writeBulk (bs.length + 1) a bs source s

/-- The first offset of the PM area's end, the spill area, the capture region, the firmware buffers and the
housekeeping buffers (Table 14.3). -/
abbrev spillBase : Nat := 0x06C0000
abbrev captureBase : Nat := 0x0CC0000
abbrev firmwareBase : Nat := 0x1CC0000
abbrev dmaBase : Nat := 0x1E00000

/-! ### Spill queues (R448 to R453) -/

/-- A queue number. -/
abbrev QueueId := Fin 24

/-- The direction of a queue (Table 14.7, `SPQ_INFO.DIR`): 0 seat to hardware, 1 hardware to seat, 2 loopback. -/
def queueDir (q : QueueId) : Nat :=
  if 16 ≤ q.val then 1 else if 12 ≤ q.val then 2 else if q.val % 2 = 0 then 0 else 1

/-- The producer of a queue is hardware (Table 14.7). -/
def hwProduces (q : QueueId) : Bool := decide (queueDir q = 1)

/-- The consumer of a queue is hardware (Table 14.7). -/
def hwConsumes (q : QueueId) : Bool := decide (queueDir q = 0)

/-- The queue's target. -/
def queuePath (q : QueueId) : Path := ⟨4, 2, q.val⟩

/-- The size of a queue's region in KiB (Table 14.9). -/
def State.regionKib (s : State) (q : QueueId) : Nat := 64 * 2 ^ s.cfgN Param.spqRegionKib q.val

/-- The first byte of a queue's region (R449). -/
def State.regionBase (s : State) (q : QueueId) : Nat := spillBase + s.cfgN Param.spqRegionOffsetKib q.val * 1024

/-- Retired pages inside a queue's region (R449). -/
def State.regionRetired (s : State) (q : QueueId) : Nat :=
  let lo := pageOf (s.regionBase q)
  (s.mem.retired.filter fun p => decide (lo ≤ p ∧ p < lo + s.regionKib q / 4)).length

/-- The words that a queue holds at most (R449). -/
def State.queueCapacity (s : State) (q : QueueId) : Nat := 64 + s.regionKib q * 128 - 512 * s.regionRetired q

/-- The words queued, oldest first. -/
def Spq.words (p : Spq) : List SpqWord := p.head ++ p.region ++ p.tail

/-- The number of words queued. -/
def Spq.count (p : Spq) : Nat := p.head.length + p.region.length + p.tail.length

/-- A word enters the queue: straight to the head while the region and the tail are empty and the head has room, otherwise the tail
(R449) (DEDUCED, log entry 51). -/
def Spq.enter (p : Spq) (w : SpqWord) : Spq :=
  if p.region = [] ∧ p.tail = [] ∧ p.head.length < 32 then { p with head := p.head ++ [w] }
  else { p with tail := p.tail ++ [w] }

/-- Remove the first `n` words. -/
def Spq.remove (p : Spq) (n : Nat) : Spq :=
  let h := p.head.drop n
  let n1 := n - p.head.length
  let r := p.region.drop n1
  let n2 := n1 - p.region.length
  { p with head := h, region := r, tail := p.tail.drop n2 }

/-- Keep the first `n` words only. -/
def Spq.keep (p : Spq) (n : Nat) : Spq :=
  let n1 := n - p.head.length
  let r := p.region.take n1
  { p with head := p.head.take n, region := r, tail := p.tail.take (n1 - p.region.length), wr := p.wr - (p.region.length - r.length) }

/-- The length of the first whole packet, if one is queued: words up to and including the first marked one (R451). -/
def Spq.packetLength (p : Spq) : Option Nat := (p.words.findIdx? fun w => w.eop).map (· + 1)

/-- Change one queue. -/
def State.onQueue (s : State) (q : QueueId) (f : Spq → Spq) : State :=
  { s with mem.queues := vmod s.mem.queues q f }

/-- Judge the high-water mark after a change of a queue's count (R451) (DEDUCED, log entry 51). -/
def judgeHigh (q : QueueId) (s : State) : State :=
  let p := s.mem.queues[q]
  let pct := s.cfgN Param.spqHighWaterPct q.val
  let cap := s.queueCapacity q
  if p.high = false ∧ pct * cap ≤ 100 * p.count then raiseFor 75 q.val (s.onQueue q fun p => { p with high := true })
  else if p.high = true ∧ 100 * p.count ≤ (pct - 10) * cap then s.onQueue q fun p => { p with high := false }
  else s

/-- The pages of a queue's region that are not retired, in order (R449). -/
def State.regionPages (s : State) (q : QueueId) : List Nat :=
  ((List.range (s.regionKib q / 4)).map (· + pageOf (s.regionBase q))).filter fun p => !s.mem.isRetired p

/-- The bulk word at the n-th place of a queue's region: its pages are filled in order, over and over (PRESUMED, log entry 51). -/
def State.regionPlace (s : State) (q : QueueId) (n : Nat) : Nat :=
  let ps := s.regionPages q
  let k := n % (512 * ps.length)
  ps.getD (k / 512) 0 * 512 + k % 512

/-- The bytes of a packet word, least significant first. -/
def wordBytes (w : Word64) : List Byte := leBytes 8 w.toNat

/-- The spill engine writes a word at the end of a queue's region. -/
def storeWord (q : QueueId) (w : SpqWord) (s : State) : State :=
  (bulkStore (8 * s.regionPlace q s.mem.queues[q].wr) (wordBytes w.data) 0 s).onQueue q fun p =>
    { p with region := p.region ++ [w], wr := p.wr + 1 }

/-- The spill engine reads words of a queue's region, from a place on: each as it is read (R440), marked where it is uncorrectable or
poisoned. -/
def fetchWords (q : QueueId) : Nat → List SpqWord → State → List (SpqWord × Bool) × State
  | _, [], s => ([], s)
  | place, w :: ws, s =>
    let k := s.regionPlace q place
    let r := readWord 0 k 0 false s
    let w' : SpqWord × Bool := match r.1 with
      | .good => ({ w with data := w.data ^^^ BitVec.ofNat 64 (r.2.mem.flipsOf 0 k) }, false)
      | .bad _ => (w, true)
    let rest := fetchWords q (place + 1) ws r.2
    (w' :: rest.1, rest.2)

/-- A queue's words without the packets that hold a marked word (Table 14.4), the number of packets that go, and whether the last of them
has not ended. `cur` and `hit` are the words of the packet so far, and whether one of them is marked. -/
def withoutPackets : List (SpqWord × Bool) → List SpqWord → Bool → List SpqWord × Nat × Bool
  | [], cur, hit => if hit then ([], 1, true) else (cur, 0, false)
  | (w, bad) :: rest, cur, hit =>
    if w.eop then
      let r := withoutPackets rest [] false
      if hit || bad then (r.1, r.2.1 + 1, r.2.2) else (cur ++ w :: r.1, r.2)
    else withoutPackets rest (cur ++ [w]) (hit || bad)

/-- The spill engine lays a queue's words out anew: the head, then the region from its first place on, then the tail. -/
def relay (q : QueueId) (ws : List SpqWord) (s : State) : State :=
  let room := s.queueCapacity q - 64
  let s := s.onQueue q fun p => { p with head := ws.take 32, region := [], tail := ws.drop (32 + room), wr := 0 }
  ((ws.drop 32).take room).foldl (fun s w => storeWord q w s) s

/-- The oldest `n` words of a queue's region pass to the head. Where one of them reads uncorrectable or poisoned the region is copied
whole, and each packet that holds such a word is discarded; of one that has not ended, what still arrives too (Table 14.4)
(DEDUCED, log entry 51). -/
def passRegion (q : QueueId) (n : Nat) (s : State) : State :=
  let p := s.mem.queues[q]
  let first := p.wr - p.region.length
  let r := fetchWords q first (p.region.take n) s
  if r.1.any Prod.snd = false then
    r.2.onQueue q fun p => { p with head := p.head ++ r.1.map Prod.fst, region := p.region.drop n }
  else
    let r2 := fetchWords q (first + n) (p.region.drop n) r.2
    let out := withoutPackets ((p.head.map fun w => (w, false)) ++ r.1 ++ r2.1 ++ p.tail.map fun w => (w, false)) [] false
    judgeHigh q (relay q out.1 (r2.2.onQueue q fun p =>
      { p with poisonDrops := satInc 16 p.poisonDrops out.2.1, dropping := p.dropping || out.2.2 }))

/-- One burst of the spill engine (R449): up to 32 words from the region, or from the tail if the region is empty, to the head as far as it
has room; then up to 32 words from the tail to the region. -/
def burst (q : QueueId) (s : State) : State :=
  let p := s.mem.queues[q]
  let room := 32 - p.head.length
  let s :=
    if p.region = [] then s.onQueue q fun p => { p with head := p.head ++ p.tail.take room, tail := p.tail.drop room }
    else passRegion q room s
  let p := s.mem.queues[q]
  if p.head.length = 32 ∨ p.region ≠ [] then
    let free := s.queueCapacity q - 64 - p.region.length
    (p.tail.take free).foldl (fun s w => storeWord q w s) (s.onQueue q fun p => { p with tail := p.tail.drop free })
  else s

/-- A word arrives at a queue: while `DROPPING` is set it is discarded, and a marked word ends the drop (R452). A full tail is emptied by
a burst first. -/
def enterWord (q : QueueId) (w : SpqWord) (s : State) : State :=
  let s := if s.mem.queues[q].tail.length < 32 then s else burst q s
  if s.mem.queues[q].dropping then s.onQueue q fun p => { p with dropping := !w.eop }
  else judgeHigh q (s.onQueue q fun p => p.enter w)

/-- Remove words from the front of a queue. -/
def removeWords (q : QueueId) (n : Nat) (s : State) : State := judgeHigh q (s.onQueue q fun p => p.remove n)

/-- The words of a packet: the last one is marked. -/
def packetWords (ds : List Word64) : List SpqWord :=
  match ds.reverse with
  | [] => []
  | d :: rest => (rest.reverse.map fun x => ⟨x, false⟩) ++ [⟨d, true⟩]

/-- A hardware producer offers a whole packet (R451): it enters whole, or is discarded whole, counted and reported.
The first component says that it entered. -/
def hwPush (q : QueueId) (ds : List Word64) (s : State) : Bool × State :=
  if ds.length + s.mem.queues[q].count ≤ s.queueCapacity q then
    (true, (packetWords ds).foldl (fun s w => enterWord q w s) s)
  else
    (false, raiseFor 74 q.val (s.onQueue q fun p => { p with fullDrops := satInc 16 p.fullDrops }))

/-- A hardware consumer takes the first packet, once its last word is queued (R451); its words in the region are read through the head,
and a packet that is discarded on the way is not taken (Table 14.4). -/
def hwPop (q : QueueId) (s : State) : Option (List Word64) × State :=
  match s.mem.queues[q].packetLength with
  | none => (none, s)
  | some n =>
    let t := if s.mem.queues[q].head.length < n then passRegion q (n - s.mem.queues[q].head.length) s else s
    if t.mem.queues[q].count = s.mem.queues[q].count then
      (some ((t.mem.queues[q].words.take n).map SpqWord.data), removeWords q n t)
    else (none, t)

/-- A packet's bytes after its first word. -/
def packetBody (ds : List Word64) : List Byte := ds.tail.flatMap wordBytes

/-- Cut bytes into 64-bit words, the last one filled with zeros. -/
def bytesToWords (bs : List Byte) : List Word64 :=
  (List.range ((bs.length + 7) / 8)).map fun i => BitVec.ofNat 64 (leNat ((bs.drop (8 * i)).take 8))

end Sys2Proof.Machine
end

