-- ==== Sys2Proof/Machine/Memory.lean ====
section
/-!
DEFINITION. MEM: scrubbing, retirement, injection, error logs and spill queues (chapter 14).
-/
namespace Sys2Proof.Machine

/-- The words of a group (Table 14.2). -/
def groupWords (g : MemGroup) : Nat :=
  match g.val with
  | 0 => 4194304 | 1 => 524288 | 2 => 327680 | 3 => 1310720 | 4 => 8192 | _ => 2048

/-- The pages of the PM area (Table 14.3). -/
abbrev pmPages : Nat := 1728

/-! ### Scrubbing (R444) -/

/-- The scrubber's place moves on; the end of a pass of bulk memory is counted and reported. -/
def scrubNext (g : MemGroup) (s : State) : State :=
  let n := s.mem.scrubPos[g] + 1
  if n < groupWords g then { s with mem.scrubPos := s.mem.scrubPos.set g n, mem.scrubbing := s.mem.scrubbing || decide (g = 0) }
  else
    let s := { s with mem.scrubPos := s.mem.scrubPos.set g 0 }
    if g = 0 then raise 70 { s with mem.scrubbing := false, mem.scrubPasses := satInc 32 s.mem.scrubPasses } else s

/-! ### Retirement (R446, Table 14.6) -/

/-- The pages of a page or bank. -/
def Retiring.pages (r : Retiring) : List Nat :=
  if r.bank then (List.range 128).map (· + 128 * r.index) else [r.index]

/-- `MEM_RETIRE` (R446, R456) (DEDUCED, log entry 50). -/
def execMemRetire (req : Request) (s : State) : Result :=
  .next (serveTarget req s [(4, 0)] true fun s =>
    let kind := byteAt req.payload 0
    let r : Retiring := ⟨decide (kind = 1), u16At req.payload 2⟩
    if req.payload.length ≠ 4 ∨ 1 < kind ∨ (if r.bank then 64 else 8192) ≤ r.index ∨
        r.pages.any (fun p => decide (p < pmPages)) then
      respond req (refusal stBadValue) s
    else { s with mem.retiring := s.mem.retiring ++ [r], mgt.waiting := s.mgt.waiting ++ [.memRetire req r.bank r.index] })

/-- Packets that a list of words holds; words after the last mark count as one. -/
def packetsIn (ws : List SpqWord) : Nat :=
  (ws.filter SpqWord.eop).length + match ws.getLast? with
    | some w => bit (!w.eop)
    | none => 0

/-- The part of a queue that remains when its youngest whole packets go until `room` words are enough: words before the last
mark that fits. -/
def oldestFitting (room : Nat) (ws : List SpqWord) : List SpqWord :=
  let kept := ws.take room
  (kept.reverse.dropWhile fun w => !w.eop).reverse

/-- Before pages are retired the spill engine copies the queued words out of a region that one of them lies in (Table 14.6). -/
def copyOut (pages : List Nat) (q : QueueId) (s : State) : State :=
  let p := s.mem.queues[q]
  if p.region ≠ [] ∧ (s.regionPages q).any pages.contains then passRegion q p.region.length s else s

/-- The words that were copied out go into what is left of the region; what no longer fits loses its youngest whole packets
(Table 14.6) (DEDUCED, log entry 51). The mark follows the new capacity (R451). -/
def copyBack (q : QueueId) (s : State) : State :=
  let p := s.mem.queues[q]
  let kept := if p.count ≤ s.queueCapacity q then p.words else oldestFitting (s.queueCapacity q) p.words
  judgeHigh q (relay q kept (s.onQueue q fun p => { p with fullDrops := satInc 16 p.fullDrops (packetsIn (p.words.drop kept.length)) }))

/-- Answer the request that waits for a retirement (DEDUCED, log entry 50). -/
def answerRetire (r : Retiring) (s : State) : State :=
  match s.mgt.waiting.find? (fun w => match w with | .memRetire _ b i => decide (b = r.bank ∧ i = r.index) | _ => false) with
  | none => s
  | some w => respond w.req okReply { s with mgt.waiting := s.mgt.waiting.erase w }

/-- A retirement may take effect: pages of the capture region wait until `CAP` is idle, done or aborted (Table 14.6). -/
def State.mayRetire (s : State) (r : Retiring) : Bool :=
  decide (s.mon.cap.state ≠ 1 ∧ s.mon.cap.state ≠ 2) ||
    !(r.pages.any fun p => decide (pageOf captureBase ≤ p ∧ p < pageOf firmwareBase))

/-- `RETIRE_DONE` (R446): the oldest retirement that may takes effect; the page is written no more. -/
def execRetireDone (s : State) : Result :=
  match s.mem.retiring.find? s.mayRetire with
  | none => .next s
  | some r =>
    let fresh := r.pages.filter fun p => !s.mem.isRetired p
    let met := (indices 24).filter fun q => (s.regionPages q).any fresh.contains
    let s := overAll met (copyOut fresh) s
    let s := { s with
      mem.retiring := s.mem.retiring.erase r
      mem.retired := s.mem.retired ++ fresh
      mem.pages := s.mem.pages + bit (!r.bank && decide (fresh ≠ []))
      mem.banks := s.mem.banks + bit (r.bank && decide (fresh ≠ [])) }
    .next (answerRetire r (raise 73 (overAll met copyBack s)))

/-- A read through the capture window (R41, R440, Table 14.4, R446): `n` bytes of one stored word, from byte `lo`, as they are read, and
whether the word is uncorrectable or poisoned. A word of a retired page, and the upper 32 MiB, read as zero. -/
def windowRead (word lo n : Nat) (s : State) : (Nat × Bool) × State :=
  if bulkSize ≤ 8 * word ∨ s.mem.isRetired (pageOf (8 * word)) then ((0, false), s)
  else
    let r := readWord 0 word 2 false s
    ((bits (r.2.mem.storedWord word) (8 * lo) (8 * n), decide (r.1 ≠ .good)), r.2)

/-! ### Injection and logs (R445, R456) -/

/-- `MEM_INJECT` (R456): flips the named stored bits of a bulk word (PRESUMED, log entry 52). -/
def execMemInject (req : Request) (s : State) : Result :=
  .next (serveTarget req s [(4, 1)] true fun s =>
    let a := u32At req.payload 0
    let named := ((List.range 3).map fun i => byteAt req.payload (4 + i)).filter (· ≠ 0xFF)
    if req.payload.length ≠ 7 ∨ a % 8 ≠ 0 ∨ bulkSize ≤ a ∨ named.any (fun b => decide (78 < b)) ∨ pageOf a < pmPages ∨
        s.mem.isRetired (pageOf a) then
      respond req (refusal stBadValue) s
    else respond req okReply (upset 0 (a / 8) ((named.eraseDups.map (2 ^ ·)).foldl (· + ·) 0) s))

/-- `LOG_CLEAR` (R445): a write of `ECC_CONTROL` empties the logs of the groups whose bits are set (DEDUCED, log entry 53). -/
def execLogClear (seat : SeatId) (groups : BitVec 6) (s : State) : Result :=
  whenOpen seat ⟨4, 1, 0⟩ true (.logClear seat groups) s <|
  .next (unitWrite seat ⟨4, 1, 0⟩ s fun s =>
    { s with mem.groups := vgen 6 fun g =>
        if groups.getLsbD g.val then { s.mem.groups[g] with log := Vector.replicate 32 {}, logNext := 0 } else s.mem.groups[g] })

/-! ### Spill queues (R449 to R453) -/

/-- A seat pushes a word (R450, R451): refused at a queue that hardware feeds, and at a full one. -/
def seatPush (seat : SeatId) (q : QueueId) (w : SpqWord) (s : State) : State :=
  let refused := fun (s : State) => s.onQueue q fun p => { p with pushRefused := satInc 16 p.pushRefused }
  if hwProduces q then refuseWrite seat (refused s)
  else if s.queueCapacity q ≤ s.mem.queues[q].count then refused s
  else enterWord q w s

/-- The word that a push completes: its low half comes with the same 64-bit write, or from `SPQ_PUSH_LO` (DEDUCED, log entry 51). -/
def pushWord (hi : Word) (lo : Option Word) (p : Spq) : Word64 := hi ++ lo.getD p.pushLo

/-- `SPQ_PUSH` (R450): a write of `SPQ_PUSH_HI`, or a 64-bit write that gives the low half too. -/
def execSpqPush (seat : SeatId) (queue : Fin 24) (hi : Word) (lo : Option Word) (s : State) : Result :=
  whenOpen seat (queuePath queue) true (.spqPush seat queue hi lo) s <|
  .next (unitWrite seat (queuePath queue) s fun s =>
    let s := s.onQueue queue fun p => { p with pushLo := lo.getD p.pushLo }
    seatPush seat queue ⟨pushWord hi lo s.mem.queues[queue], false⟩ s)

/-- `SPQ_PUSH_LAST` (R450): the word is marked. -/
def execSpqPushLast (seat : SeatId) (queue : Fin 24) (hi : Word) (s : State) : Result :=
  whenOpen seat (queuePath queue) true (.spqPushLast seat queue hi) s <|
  .next (unitWrite seat (queuePath queue) s fun s =>
    seatPush seat queue ⟨pushWord hi none s.mem.queues[queue], true⟩ s)

/-- `SPQ_POP` (R450, R341): a read of `SPQ_POP_LO` by the owner of a queue that a seat consumes removes the head word and
leaves its high half for the read of `SPQ_POP_HI`; a 64-bit read returns both. Otherwise it returns zero (DEDUCED, log entry 51). -/
def execSpqPop (seat : SeatId) (queue : Fin 24) (wide : Bool) (s : State) : Result :=
  whenOpen seat (queuePath queue) false (.spqPop seat queue wide) s <|
  if s.clk.mgmtStopped then .next s
  else
    let may := s.owns seat (queuePath queue) && !hwConsumes queue && !s.resetRequired (queuePath queue)
    let s := if may ∧ s.mem.queues[queue].head = [] then burst queue s else s
    match s.mem.queues[queue].words with
    | w :: _ =>
      if may then
        let lo := w.data.toNat % 2 ^ 32
        let hi := w.data.toNat / 2 ^ 32
        let s := removeWords queue 1 s
        let s := if wide then s else s.onSeat seat fun x =>
          { x with shadowHi := hi, shadowPair := some (0x4100C + 0x40 * queue.val) }
        .next (readReturns seat (if wide then w.data.toNat else lo) s)
      else .next (readReturns seat 0 s)
    | [] => .next (readReturns seat 0 s)

/-- `SPQ_DROP` (R452): ignored where hardware consumes. -/
def execSpqDrop (seat : SeatId) (queue : Fin 24) (s : State) : Result :=
  whenOpen seat (queuePath queue) true (.spqDrop seat queue) s <|
  .next (unitWrite seat (queuePath queue) s fun s =>
    if hwConsumes queue then s
    else
      let s := s.onQueue queue fun p => { p with cmdDrops := satInc 16 p.cmdDrops }
      match s.mem.queues[queue].packetLength with
      | some n => removeWords queue n s
      | none =>
        let n := s.mem.queues[queue].count
        (removeWords queue n s).onQueue queue fun p => { p with dropping := true })

/-- The Unit on the hardware side of a queue (Table 14.7). -/
def hwUnit (q : QueueId) : Path :=
  if q.val < 6 then ⟨9, 0, 0⟩
  else if q.val < 8 then ⟨11, 2, 0⟩
  else if q.val < 10 then ⟨15, 0, 0⟩
  else if q.val < 12 then ⟨14, 3, 0⟩
  else ⟨12, 0, q.val - 16⟩

/-- The hardware side of a queue stands still (Table 14.8): its Unit is gated, or firmware serves it, as the Tvedry host messages (Table 16.3), and is
not ready. -/
def State.hwStops (s : State) (q : QueueId) : Bool :=
  (s.clk.gated ++ s.clk.gateWait).contains (hwUnit q) || (decide (q.val = 8 ∨ q.val = 9) && !s.mgt.fwReady)

/-- `SPQ_HW_PUSH` (R451, R454): a hardware producer offers a packet. -/
def execSpqHwPush (queue : Fin 24) (words : List Word64) (s : State) : Result :=
  if hwProduces queue = false ∨ words = [] ∨ s.hwStops queue = true then .next s else .next (hwPush queue words s).2

/-- `SPQ_HW_POP` (R451, R454): a hardware consumer takes the first whole packet (DEDUCED, log entry 51). -/
def execSpqHwPop (queue : Fin 24) (s : State) : Result :=
  if hwConsumes queue = false ∨ s.hwStops queue = true then .next s
  else
    match hwPop queue s with
    | (none, s) => .next s
    | (some ws, s) => .next (s.send (.packet queue.val ws))

/-- `SPQ_SPILL` (R449, Table 14.4): one burst of the spill engine, after bits have gone wrong in words of the region: each upset is a word's
number in the region, the oldest 0, and a mask. -/
def execSpqSpill (queue : Fin 24) (upsets : List (Nat × Nat)) (s : State) : Result :=
  let p := s.mem.queues[queue]
  let hit := upsets.filter fun u => decide (u.1 < p.region.length)
  .next (burst queue (hit.foldl (fun s u => upset 0 (s.regionPlace queue (p.wr - p.region.length + u.1)) u.2 s) s))

/-! ### Resets and commits (R453 to R455) -/

/-- A seat reset of the producer of a queue discards the part of a packet after the last mark (R453). -/
def seatResetQueues (i : SeatId) (s : State) : State :=
  overAll ((indices 24).filter fun q => s.owns i (queuePath q) && !hwProduces q)
    (fun q s => judgeHigh q (s.onQueue q fun p =>
      { p.keep (p.words.reverse.dropWhile fun w => !w.eop).length with pushLo := 0 })) s

/-- Discard what a queue holds when its region changes; the packets are counted (Table 14.9). -/
def regionChanged (q : QueueId) (s : State) : State :=
  judgeHigh q (s.onQueue q fun p =>
    { p with head := [], region := [], tail := [], wr := 0, fullDrops := satInc 16 p.fullDrops (packetsIn p.words) })

/-- What a commit to MEM does at its boundary: a new region empties its queue, and a new mark is judged (R451, Table 14.9). -/
def memCommitted (ks : List Nat) (s : State) : State :=
  let of := fun (p : Nat → Bool) => (indices 24).filter fun q => ks.any fun k => decide (keyPath k = queuePath q) && p (keyNum k)
  overAll (of fun n => decide (2 ≤ n)) judgeHigh (overAll (of fun n => decide (n < 2)) regionChanged s)

/-- A Unit reset inside MEM (Table 14.8); that of `BLK` is refused before. -/
def resetMemUnit (unit inst : Nat) (s : State) : State :=
  if unit = 1 then
    { s with mem.groups := Vector.replicate 6 {}, mem.ueSeen := 0, mem.poisonSeen := 0, mem.rmwCount := 0 }
  else if unit = 2 then
    let q : QueueId := ⟨inst % 24, Nat.mod_lt _ (by decide)⟩
    s.onQueue q fun _ => {}
  else s

end Sys2Proof.Machine
end

