-- ==== Sys2Proof/Machine/Housekeeping.lean ====
section
/-!
DEFINITION. FEH: housekeeping converters, bias control and the laser port (chapter 15).
-/
namespace Sys2Proof.Machine

/-- A housekeeping converter, and a change of it. -/
abbrev ConvId := Fin 2
def State.hk (s : State) (c : ConvId) : HkConv := s.feh.convs[c]
def State.onHk (s : State) (c : ConvId) (f : HkConv → HkConv) : State := { s with feh.convs := vmod s.feh.convs c f }

/-- The target of `HKA`. -/
def hkaPath : Path := ⟨14, 0, 0⟩

/-- `HKA` and `ABC` run: not in P4 (Table 15.2). -/
def whileHk (s : State) (act : State → State) : State := if s.deviceState = 4 then s else act s

/-! ### Results (R461, R462) -/

/-- A result of an input in microvolts against a reference in microvolts (R461). -/
def hkResult (input : Nat) (uv : Int) (vref : Nat) : Int :=
  if input < 24 then clampInt 0 4095 (roundNearest (4096 * uv) vref) else clampInt (-2048) 2047 (roundNearest (2048 * uv) vref)

/-- The 16 bits stored for a result (R462). -/
def hkFormat (left : Bool) (v : Int) : Nat := if left then natOfInt 12 v * 16 else natOfInt 16 v

/-! ### ABC conversions (R471, R476) -/

/-- The converter of ABC. -/
def State.abcConv (s : State) : ConvId := ⟨s.cfgN Param.abcConverter % 2, Nat.mod_lt _ (by decide)⟩

/-- How many conversions a dwell asks for: 16 in each dither period (R476). -/
def State.abcWanted (s : State) : Nat := 16 * s.cfgN Param.abcDwellPeriods

/-- The number of the ABC conversion that is asked for last in the dwell in progress and has not been made, if it is this converter's (R476). -/
def State.abcDue (s : State) (c : ConvId) : Option Nat :=
  match s.feh.active with
  | none => none
  | some b =>
    let n := (s.now - s.feh.dwellAt) * 16 * s.cfgN Param.abcDitherHz / 1000000
    if c = s.abcConv ∧ s.biasOn b = true ∧ s.dacsHeld = false ∧ (s.hk c).settling = false ∧ n < s.abcWanted ∧
        (s.feh.samples.any fun x => decide (x.1 = n)) = false then some n
    else none

/-- The converter is taken by an urgent list or an ABC conversion, or settles: no sequence conversion is in progress (R464, R470, R471). -/
def State.hkTaken (s : State) (c : ConvId) : Bool :=
  (s.hk c).settling || (s.hk c).urgent || (s.hk c).abcRun.isSome

/-! ### Bursts and urgent lists (R464, R466 to R470) -/

/-- The converters share one sequence (R468). -/
def State.hkSimultaneous (s : State) : Bool := s.cfgB Param.hkaSimultaneous

/-- The input codes of a pass (R466, R468): in simultaneous operation converter 1 takes the length of converter 0 (DEDUCED, log entry 83). -/
def State.passCodes (s : State) (c : ConvId) : List Nat :=
  let n := if s.hkSimultaneous then (s.hk 0).length else (s.hk c).length
  (List.range n).map fun i => s.cfgN Param.hkaSeqInput 0 (32 * c.val + ((s.hk c).start + i) % 32)

/-- A trigger is not taken: counted, and reported if a burst runs (R464, R467). -/
def missTrigger (c : ConvId) (report : Bool) (s : State) : State :=
  let s := s.onHk c fun k => { k with missed := satInc 16 k.missed }
  if report then raiseFor 224 c.val s else s

/-- Begin a burst on a converter. -/
def beginBurst (c : ConvId) (passes : Nat) (s : State) : State :=
  let codes := s.passCodes c
  s.onHk c fun k => { k with burst := true, passes := passes, burstOf := passes, pass := codes, stopping := false }

/-- A sequence trigger (R464, R467, R468): held or missed while settling, missed while a burst runs. -/
def seqTrigger (c : ConvId) (s : State) : State :=
  if s.hkSimultaneous ∧ c.val = 1 then s
  else
    let k := s.hk c
    let settling := k.settling || (s.hkSimultaneous && (s.hk 1).settling)
    if k.burst then missTrigger c true s
    else if settling then
      if k.heldSeq then missTrigger c false s else s.onHk c fun k => { k with heldSeq := true }
    else
      let n := s.cfgN Param.hkaBurstPasses 0 c.val
      let s := beginBurst c n s
      if s.hkSimultaneous then beginBurst 1 n s else s

/-- An urgent trigger (R464, R470, R471): nothing with an empty list; missed while the list runs. It abandons a sequence conversion; an ABC conversion
in progress, which on a converter without a burst begins when it is asked for, goes first (DEDUCED, log entry 83). -/
def urgTrigger (c : ConvId) (s : State) : State :=
  let n := s.cfgN Param.hkaUrgLength 0 c.val
  let k := s.hk c
  if n = 0 then s
  else if k.urgent then missTrigger c false s
  else if k.settling then
    if k.heldUrg then missTrigger c false s else s.onHk c fun k => { k with heldUrg := true }
  else
    let codes := (List.range n).map fun i => s.cfgN Param.hkaUrgInput 0 (8 * c.val + i)
    let abc := if k.burst then none else s.abcDue c
    s.onHk c fun k => { k with urgent := true, urg := codes, urgPos := 0, abcRun := k.abcRun <|> abc }

/-- A change of reference takes effect: the converter settles (R464). -/
def settle (c : ConvId) (s : State) : State :=
  let r := s.cfgN Param.hkaRef 0 c.val
  s.onHk c fun k => { k with settling := true, settleAt := s.now, refUsed := r, refWaits := false }

/-- `SEQ_APPLY` (R466, R73): the shadow pair is copied; a length of 0 is applied as 1, one above 32 as 32. -/
def execSeqApply (seat : SeatId) (mask : BitVec 2) (s : State) : Result :=
  whenOpen seat hkaPath true (.seqApply seat mask) s <|
  .next (unitWrite seat hkaPath s fun s =>
    overAll ((indices 2).filter fun c => mask.getLsbD c.val)
      (fun c s => s.onHk c fun k => { k with start := k.startSh, length := max 1 (min 32 k.lengthSh) }) s)

/-- `SEQ_TRIGGER` (R467): a write of `SEQ0` or `SEQ1`. -/
def execSeqTrigger (seat : SeatId) (mask : BitVec 2) (s : State) : Result :=
  whenOpen seat hkaPath true (.seqTrigger seat mask) s <|
  .next (unitWrite seat hkaPath s fun s =>
    whileHk s fun s => overAll ((indices 2).filter fun c => mask.getLsbD c.val) seqTrigger s)

/-- `URGENT_TRIGGER` (R470): a write of `URG0` or `URG1`. -/
def execUrgentTrigger (seat : SeatId) (mask : BitVec 2) (s : State) : Result :=
  whenOpen seat hkaPath true (.urgentTrigger seat mask) s <|
  .next (unitWrite seat hkaPath s fun s =>
    whileHk s fun s => overAll ((indices 2).filter fun c => mask.getLsbD c.val) urgTrigger s)

/-- A burst ends. -/
def endBurst (c : ConvId) (complete : Bool) (s : State) : State :=
  let many := decide (1 < (s.hk c).burstOf)
  let s := s.onHk c fun k => { k with burst := false, passes := 0, pass := [], stopping := false }
  let s := if (s.hk c).refWaits then settle c s else s
  if complete && many then raise 238 s else s

/-- A burst is to end: after the conversion in progress, or at once where no conversion of it is in progress, which in simultaneous operation is one
of both converters (R467, R468). -/
def stopBurst (c : ConvId) (s : State) : State :=
  let taken := if s.hkSimultaneous then (indices 2).any s.hkTaken else s.hkTaken c
  if (s.hk c).burst = false then s
  else if taken ∨ s.deviceState = 4 then endBurst c false s
  else s.onHk c fun k => { k with stopping := true }

/-- `BURST_STOP` (R467): the burst ends after the conversion in progress. -/
def execBurstStop (seat : SeatId) (mask : BitVec 2) (s : State) : Result :=
  whenOpen seat hkaPath true (.burstStop seat mask) s <|
  .next (unitWrite seat hkaPath s fun s =>
    overAll ((indices 2).filter fun c => mask.getLsbD c.val)
      (fun c s =>
        if s.hkSimultaneous then (if c.val = 0 then stopBurst 1 (stopBurst 0 s) else s) else stopBurst c s) s)

/-- `SEQ_TIMER` (R467): the timer of a converter in timer mode runs out (DEDUCED, log entry 83). -/
def execSeqTimer (conv : Fin 2) (s : State) : Result :=
  .next (whileHk s fun s =>
    if s.cfg Param.hkaSeqTrigger 0 conv.val ≠ 1 then s
    else
      let t := (s.hk conv).timerAt + s.cfgN Param.hkaTimerUs 0 conv.val
      seqTrigger conv ((s.reach t).onHk conv fun k => { k with timerAt := t }))

/-- A Flint change reaches `HKA` (R467, R470). -/
def flintReachesHk (s : State) : State :=
  whileHk s fun s =>
    overAll (indices 2)
      (fun c s =>
        let s := if s.cfg Param.hkaSeqTrigger 0 c.val = 2 then seqTrigger c s else s
        if s.cfgB Param.hkaUrgFlint 0 c.val then urgTrigger c s else s) s

/-- `FLINT_HK_TRIGGER` (R467): the oldest change that `DOM.FLT` has reported reaches HK. -/
def execFlintHkTrigger (s : State) : Result :=
  if s.dom.flint.hkDue = 0 then .next s
  else .next (flintReachesHk { s with dom.flint := { s.dom.flint with hkDue := s.dom.flint.hkDue - 1 } })

/-- Where a comparator's input lies after a change (R469), in units of 0.5 µV: below the lower threshold, and above the upper one; it comes
back across a threshold 4.6875 mV inside it (DEDUCED, log entry 83). -/
def State.windowSide (s : State) (n : Fin 8) (uv : Nat) : Bool × Bool :=
  let v := 2 * uv
  let lo := s.cfgN Param.hkaCompLower 0 n.val * 9375
  let hi := s.cfgN Param.hkaCompUpper 0 n.val * 9375
  (if s.feh.below.getLsbD n.val then decide (v < lo + 9375) else decide (v < lo),
   if s.feh.above.getLsbD n.val then decide (hi < v + 9375) else decide (hi < v))

/-- `COMP_CROSSING` (R469): the voltage of a comparator's input changes; a crossing out of its window or into it is reported as its mode
says, and triggers the bursts and urgent lists that name it. -/
def execCompCrossing (comp : Fin 8) (uv : Nat) (s : State) : Result :=
  .next (whileHk s fun s =>
    let was := s.feh.below.getLsbD comp.val || s.feh.above.getLsbD comp.val
    let side := s.windowSide comp uv
    let outside := side.1 || side.2
    let s := { s with feh.below := withBit s.feh.below comp.val side.1, feh.above := withBit s.feh.above comp.val side.2 }
    if was = outside then s
    else
      let mode := s.cfgN Param.hkaCompMode 0 comp.val
      if bits mode (bit (!outside)) 1 = 0 then s
      else
        let s := raiseFor 225 comp.val { s with feh.cross := withBit s.feh.cross comp.val true }
        overAll (indices 2)
          (fun c s =>
            let s := if s.cfg Param.hkaSeqTrigger 0 c.val = 3 ∧ bits (s.cfgN Param.hkaSeqCompMask 0 c.val) comp.val 1 = 1 then
              seqTrigger c s else s
            if bits (s.cfgN Param.hkaUrgCompMask 0 c.val) comp.val 1 = 1 then urgTrigger c s else s) s)

/-! ### DMA (R472, R473) -/

/-- The size of a buffer in bytes. -/
def State.dmaBytes (s : State) (c : ConvId) : Nat := s.cfgN Param.hkaDmaKib 0 c.val * 1024

/-- The bulk offset of a buffer. -/
def dmaAddr (c : ConvId) (off : Nat) : Nat := dmaBase + c.val * 1048576 + off

/-- The retired pages of a buffer, which a pass that begins now jumps (R473). -/
def State.bufferRetired (s : State) (c : ConvId) : List Nat :=
  s.mem.retired.filter fun p => decide (pageOf (dmaAddr c 0) ≤ p ∧ p < pageOf (dmaAddr c (s.dmaBytes c)))

/-- The writer's next place, the pages that the pass jumps being jumped; offset 0 ends the pass. -/
def jumpPages (c : ConvId) (size : Nat) (skip : List Nat) : Nat → Nat × Nat → Nat × Nat
  | 0, p => p
  | n + 1, (wr, wraps) =>
    if wr % 4096 = 0 ∧ skip.contains (pageOf (dmaAddr c wr)) then
      let w := wr + 4096
      if size ≤ w then (0, (wraps + 1) % 4096) else jumpPages c size skip n (w, wraps)
    else (wr, wraps)

/-- The writer has passed or reached `RD_OFFSET` on its way round a buffer from one place to another. -/
def passesRead (size rd from_ to_ : Nat) : Bool :=
  let ahead := fun (x : Nat) => if x = from_ then size else (x + size - from_) % size
  decide (rd < size ∧ ahead rd ≤ ahead to_)

/-- Write one sequence result (R472, R473): with the writer at `RD_OFFSET`, mode 0 overwrites and mode 1 discards; either is counted. A pass begins
with its first result and jumps the pages retired by then; the writer jumps over a page as it reaches it (DEDUCED, log entry 50). -/
def dmaWrite (c : ConvId) (v : Nat) (s : State) : State :=
  let size := s.dmaBytes c
  let stops := decide (s.cfg Param.hkaDmaMode 0 c.val = 1)
  let lose := fun (s : State) => raiseFor 227 c.val (s.onHk c fun k => { k with lost := satInc 16 k.lost })
  let k := s.hk c
  let skip := if k.wr = 0 then s.bufferRetired c else k.skip
  let p := jumpPages c size skip 256 (k.wr, k.wraps)
  let full := k.full || (decide (p.1 ≠ k.wr) && passesRead size k.rd k.wr p.1)
  let s := s.onHk c fun k => { k with skip, wr := p.1, wraps := p.2, full, stopped := k.stopped || (full && stops) }
  if full && stops then lose s
  else
    let s := bulkStore (dmaAddr c p.1) (leBytes 2 v) 2 (if full then lose s else s)
    let q := if size ≤ p.1 + 2 then (0, (p.2 + 1) % 4096) else jumpPages c size skip 256 (p.1 + 2, p.2)
    let reached := passesRead size k.rd p.1 q.1
    s.onHk c fun k => { k with wr := q.1, wraps := q.2, full := k.full || reached, stopped := k.stopped || (reached && stops) }

/-- `DMA_RD_OFFSET` (R472): the owner reports what it has consumed. -/
def execDmaRdOffset (seat : SeatId) (conv : Fin 2) (value : BitVec 20) (s : State) : Result :=
  whenOpen seat hkaPath true (.dmaRdOffset seat conv value) s <|
  .next (unitWrite seat hkaPath s fun s =>
    s.onHk conv fun k =>
      let moved := decide (value.toNat ≠ k.rd)
      { k with rd := value.toNat, full := k.full && !moved, stopped := k.stopped && !moved })

/-! ### Conversions (R463, R466, R470, R471) -/

/-- A pass ends: the burst with it, or the next pass begins with the settings of now (R466) (DEDUCED, log entry 83). -/
def endHkPass (c : ConvId) (s : State) : State :=
  if (s.hk c).passes ≤ 1 then endBurst c true s
  else
    let codes := s.passCodes c
    let s := s.onHk c fun k => { k with passes := k.passes - 1, pass := codes }
    if (s.hk c).refWaits then settle c s else s

/-- The reference of a converter in microvolts; that of `VREF_HK` is what the converter has on the ball. -/
def State.refUv (s : State) (c : ConvId) (vref : Nat) : Nat :=
  match (s.hk c).refUsed with
  | 0 => 1200000
  | 1 => max 1 vref
  | _ => 1800000

/-- A conversion of a converter's sequence completes (R466, R472). -/
def seqConversion (c : ConvId) (uv : Int) (vref : Nat) (s : State) : State :=
  match (s.hk c).pass with
  | [] => s
  | code :: rest =>
    let v := hkFormat (s.cfgB Param.hkaAlign 0 c.val) (hkResult code uv (s.refUv c vref))
    let s := dmaWrite c v (s.onHk c fun k => { k with pass := rest })
    if (s.hk c).stopping then endBurst c false s
    else if rest = [] then endHkPass c s
    else s

/-- A conversion of a converter's urgent list completes (R470). -/
def urgConversion (c : ConvId) (uv : Int) (vref : Nat) (s : State) : State :=
  match (s.hk c).urg with
  | [] => s
  | code :: rest =>
    let v := hkFormat (s.cfgB Param.hkaAlign 0 c.val) (hkResult code uv (s.refUv c vref))
    let s := s.onHk c fun k =>
      { k with urgRes := k.urgRes.set (k.urgPos % 8) v (Nat.mod_lt _ (by decide)), urgPos := k.urgPos + 1, urg := rest }
    if rest = [] then raise 226 (s.onHk c fun k => { k with urgent := false, urgTime := s.now % 2 ^ 32 }) else s

/-- An ABC conversion of the monitor input completes (R471, R476). -/
def abcConversion (c : ConvId) (n : Nat) (uv : Int) (vref : Nat) (s : State) : State :=
  let v := hkResult (s.cfgN Param.abcMonitorInput) uv (s.refUv c vref)
  { s.onHk c fun k => { k with abcRun := none } with feh.samples := (n, v) :: s.feh.samples }

/-- At a conversion boundary an ABC conversion that is asked for begins, unless the urgent list runs (R471). -/
def beginAbc (c : ConvId) (s : State) : State :=
  let due := if (s.hk c).urg = [] then s.abcDue c else none
  s.onHk c fun k => { k with abcRun := due }

/-- The sequence conversion in progress completes; in simultaneous operation it is one of both converters, and waits while either settles, runs its
urgent list or makes an ABC conversion (R468). -/
def sequenceStep (conv : ConvId) (uv other : Int) (vref : Nat) (s : State) : State :=
  if s.hkSimultaneous = false then beginAbc conv (seqConversion conv uv vref s)
  else if conv.val = 1 ∨ s.hkTaken 1 = true ∨ (s.abcDue 1).isSome then s
  else beginAbc 1 (beginAbc 0 (seqConversion 1 other vref (seqConversion 0 uv vref s)))

/-- `HK_CONVERSION` (R463, R468, R470, R471): the conversion in progress completes: of ABC where one has begun, else of the urgent list, of ABC, or of
the sequence. `uv` is the voltage of the input, or the difference of the pair, in microvolts, `other` that of the other converter's input in the same
cycle, which counts in simultaneous operation, and `vref` that of `VREF_HK`, each as the converter measures it (DESIGN CHOICE, log entry 5; DEDUCED,
log entry 84). -/
def execHkConversion (conv : Fin 2) (uv other : Int) (vref : Nat) (s : State) : Result :=
  .next (whileHk s fun s =>
    if (s.hk conv).settling then s
    else match (s.hk conv).abcRun with
      | some n => beginAbc conv (abcConversion conv n uv vref s)
      | none =>
        if (s.hk conv).urg ≠ [] then beginAbc conv (urgConversion conv uv vref s)
        else match s.abcDue conv with
          | some n => beginAbc conv (abcConversion conv n uv vref s)
          | none => sequenceStep conv uv other vref s)

/-- `REF_SETTLED` (R464): 40 µs after an internal reference, 5 µs after `VREF_HK`, held triggers are served. -/
def execRefSettled (conv : Fin 2) (s : State) : Result :=
  .next (whileHk s fun s =>
    let k := s.hk conv
    if k.settling = false then s
    else
      let s := s.reach (k.settleAt + if k.refUsed = 1 then 5 else 40)
      let s := raise 228 (s.onHk conv fun k => { k with settling := false, settledAt := s.now, heldSeq := false, heldUrg := false })
      let s := if k.heldUrg then urgTrigger conv s else s
      let s := if k.heldSeq then seqTrigger conv s else s
      if s.hkSimultaneous ∧ conv.val = 1 ∧ (s.hk 0).heldSeq ∧ (s.hk 0).settling = false then
        seqTrigger 0 (s.onHk 0 fun k => { k with heldSeq := false })
      else s)

/-- `VREF_CHECK` (R465): `VREF_HK` in microvolts against the limits, for the converters that use it. -/
def execVrefCheck (uv : Nat) (s : State) : Result :=
  .next (whileHk s fun s =>
    overAll ((indices 2).filter fun c => decide ((s.hk c).refUsed = 1))
      (fun c s =>
        if (s.hk c).vrefFault = false ∧ (uv < 900000 ∨ 1900000 < uv) then raise 229 (s.onHk c fun k => { k with vrefFault := true })
        else if (s.hk c).vrefFault = true ∧ 1000000 ≤ uv ∧ uv ≤ 1800000 then s.onHk c fun k => { k with vrefFault := false }
        else s) s)

/-! ### DACs and bias control (R474 to R478) -/

/-- `HKD_RAMP_DONE` (R474). -/
def execHkdRampDone (dac : Fin 12) (s : State) : Result :=
  let d := s.feh.dacs[dac]
  match d.rampAt with
  | none => .next s
  | some t =>
    let way := if d.code ≤ d.target then d.target - d.code else d.code - d.target
    let slew := max 1 d.slew
    .next { s.reach (t + (way + slew - 1) / slew) with feh.dacs := s.feh.dacs.set dac { code := d.target, target := d.target } }

/-- The next enabled bias after one, in the order XI to YP, or the first (R476). -/
def State.nextBias (s : State) (after : Option (Fin 6)) : Option (Fin 6) :=
  let on := (indices 6).filter s.biasOn
  match after with
  | none => on.head?
  | some b => (on.find? fun x => decide (b < x)).or on.head?

/-- Start the dwell of a bias. -/
def startDwell (b : Option (Fin 6)) (s : State) : State :=
  { s with feh.active := b, feh.dwellAt := s.now, feh.samples := []
           feh.convs := vmap s.feh.convs fun k => { k with abcRun := none } }

/-- Change a bias. -/
def State.onBias (s : State) (b : Fin 6) (f : Bias → Bias) : State := { s with feh.biases := vmod s.feh.biases b f }

/-- Move a bias by a step within its bounds (R476); a bias on the ramp of a new code goes on to it (R478). -/
def stepBias (b : Fin 6) (step : Int) (s : State) : State :=
  let n := biasDac b
  let d : Int := s.cfg Param.abcDitherCodes
  let lo := s.cfg Param.hkdLimitLow 0 n.val + d
  let hi := s.cfg Param.hkdLimitHigh 0 n.val - d
  let ramping := decide (s.dacCode n ≠ s.feh.dacs[n].target)
  let c := clampInt lo hi ((s.feh.dacs[n].target : Int) + step)
  let bound := decide (c ≤ lo ∨ hi ≤ c)
  let was := s.feh.biases[b].atLimit
  let s := if ramping then dacTo n c.toNat s else { s with feh.dacs := s.feh.dacs.set n { code := c.toNat, target := c.toNat } }
  let s := s.onBias b fun x => { x with atLimit := bound }
  if bound && !was then raise 230 s else s

/-- Judge the lock of a bias after a dwell (R477): `sum`/`count` is e in LSB. -/
def judgeLock (b : Fin 6) (sum : Int) (count : Nat) (s : State) : State :=
  let limit := s.cfgN Param.abcLockThreshold
  let within := decide (16 * sum.natAbs ≤ limit * count)
  let beyond := decide (4 * limit * count < 16 * sum.natAbs)
  let s := s.onBias b fun x => { x with good := if within then min 8 (x.good + 1) else 0, bad := if beyond then min 8 (x.bad + 1) else 0 }
  let x := s.feh.biases[b]
  if x.locked = false ∧ 8 ≤ x.good then raise 231 (s.onBias b fun x => { x with locked := true })
  else if x.locked = true ∧ 8 ≤ x.bad then
    raise 232 { s.onBias b fun x => { x with locked := false } with feh.unlocks := satInc 32 s.feh.unlocks }
  else s

/-- The sum of s_k · d_k over the samples of a dwell (R476): each is the number of its conversion in the dwell, 16 to a period, and its
result; the dither is positive in the first half of each period. -/
def ditherSum (samples : List (Nat × Int)) : Int := (samples.map fun x => if x.1 % 16 < 8 then x.2 else -x.2).sum

/-- The conversions of the dwell: those that have completed, and further ones as voltages of the monitor input, each number once. -/
def State.dwellSamples (s : State) (given : List (Nat × Int)) (vref : Nat) : List (Nat × Int) :=
  let made := given.map fun x => (x.1, hkResult (s.cfgN Param.abcMonitorInput) x.2 (s.refUv s.abcConv vref))
  made.foldl (fun xs x => if x.1 < s.abcWanted ∧ (xs.any fun y => decide (y.1 = x.1)) = false then x :: xs else xs) s.feh.samples

/-- `ABC_DWELL` (R476): a dwell ends. `samples` are conversions of the monitor input in it that have not come by `HK_CONVERSION`, by number and
voltage, with the voltage of `VREF_HK`; a dwell
with fewer than 15/16 of its conversions, or while the converter was settling, is discarded (DEDUCED, log entry 84). -/
def execAbcDwell (samples : List (Nat × Int)) (vref : Nat) (s : State) : Result :=
  .next (whileHk s fun s =>
    match s.feh.active with
    | none => s
    | some b =>
      if s.clk.safeState ∨ s.biasOn b = false then s
      else
        let k := s.hk s.abcConv
        let settling := k.settling || decide (s.feh.dwellAt < k.settledAt)
        let want := s.abcWanted
        let made := s.dwellSamples samples vref
        let count := made.length
        let s := s.reach (s.feh.dwellAt + s.cfgN Param.abcDwellPeriods * 1000000 / max 1 (s.cfgN Param.abcDitherHz))
        let next := s.nextBias (some b)
        if settling ∨ 16 * count < 15 * want ∨ count = 0 then startDwell next s
        else
          let sum := ditherSum made
          let sign : Int := if bits (s.cfgN Param.abcSlope) b.val 1 = 1 then -1 else 1
          let cap := s.cfg Param.abcMaxStepCodes
          let gain := (-(s.cfg Param.abcGainLog2)).toNat
          let step := clampInt (-cap) cap (roundNearest (sign * sum) (count * 2 ^ gain))
          let s := s.onBias b fun x => { x with error := clampInt (-32768) 32767 (roundNearest (16 * sum) count) }
          startDwell next (judgeLock b sum count (stepBias b step s)))

/-- `ABC_RELOCK` (R478). -/
def execAbcRelock (req : Request) (s : State) : Result :=
  .next (serveTarget req s [(14, 2)] true fun s =>
    if req.payload ≠ [] then respond req (refusal stBadValue) s
    else
      let s := { s with feh.biases := vmap s.feh.biases fun x => { x with locked := false, good := 0, bad := 0 } }
      respond req okReply (startDwell (s.nextBias none) s))

/-- `HKD_CODE` at the ball, with the dither of the bias in its dwell (R476); while the outputs are held, with the offset held (R475). -/
def State.dacAtBall (s : State) (n : HkDacId) : Nat :=
  let dither := if s.feh.heldAt.isSome then s.feh.heldDither else s.ditherNow
  match dither with
  | some (b, d) => if biasDac b = n then (clampInt 0 65535 ((s.dacCode n : Int) + d)).toNat else s.dacCode n
  | none => s.dacCode n

/-- The output of a channel in units of 2^-16 µV, or high-impedance until FEH is released (R474, R582). -/
def State.dacOutput (s : State) (n : HkDacId) : Option Nat := if s.feh.released then some (2500000 * s.dacAtBall n) else none

/-! ### Laser port (R479 to R482) -/

/-- Change the laser port. -/
def State.onItl (s : State) (f : Itl → Itl) : State := { s with feh.itl := f s.feh.itl }

/-- The port runs: enabled, and not in P4 (Table 15.2). -/
def State.itlOn (s : State) : Bool := s.cfgB Param.itlEnable && decide (s.deviceState ≠ 4)

/-- The fine-tuning loop runs (R481). -/
def State.loopOn (s : State) : Bool := s.itlOn && decide (s.cfg Param.itlFtfSource ≠ 0)

/-- The checksum of a packet in bits [7:4] of its first byte: the agreement's interleaved parity over the other 28 bits
(PRESUMED, log entry 82). -/
def itlChecksum (b0 b1 b2 b3 : Byte) : Byte :=
  let x := (b0 &&& 0x0F) ^^^ b1 ^^^ b2 ^^^ b3
  ((x >>> 4) ^^^ (x &&& 0x0F)) <<< 4

/-- A packet in wire order with its checksum (PRESUMED, log entry 82). -/
def itlPacket (b0 b1 b2 b3 : Byte) : List Byte := [(b0 &&& 0x0F) ||| itlChecksum b0 b1 b2 b3, b1, b2, b3]

/-- The packet of a loop command: register 0x62 is read, or written most significant byte first. -/
def loopPacket : ItlCommand → List Byte
  | .loopWrite v => itlPacket 1 0x62 (BitVec.ofNat 8 (natOfInt 16 v / 256)) (BitVec.ofNat 8 (natOfInt 16 v))
  | _ => itlPacket 0 0x62 0 0

/-- `ITL_TX_PACKET` (R480, R482): the free port takes the loop's packet first, then the next packet of queue 10; while the
loop runs a seat packet to register 0x62 is discarded. -/
def execItlTxPacket (s : State) : Result :=
  if s.itlOn = false ∨ s.feh.itl.busy.isSome then .next s
  else
    match s.loopOn, s.feh.itl.waits with
    | true, some c =>
      let s := s.onItl fun t => { t with busy := some c, waits := none, sentAt := s.now }
      let s := match c with
        | .loopWrite v => s.onItl fun t => { t with written := v, updates := satInc 32 t.updates }
        | _ => s
      .next (s.send (.itl (loopPacket c)))
    | _, _ =>
      match hwPop 10 s with
      | (none, s) => .next s
      | (some ws, s) =>
        let bs := leBytes 4 ((ws.map BitVec.toNat).headD 0)
        let g := fun i => bs.getD i 0
        if s.loopOn ∧ g 1 = 0x62 then .next (raise 236 (s.onItl fun t => { t with refused := satInc 16 t.refused }))
        else
          .next ((s.onItl fun t => { t with busy := some .seat, sentAt := s.now }).send (.itl (itlPacket (g 0) (g 1) (g 2) (g 3))))

/-- `ITL_RESPONSE` (R480, R481): four bytes in wire order; a bad checksum is counted and the response discarded
(PRESUMED, log entry 82; DEDUCED, log entry 84). -/
def execItlResponse (bytes : Vector Byte 4) (s : State) : Result :=
  match s.feh.itl.busy with
  | none => .next s
  | some c =>
    if bytes[0] &&& 0xF0 ≠ itlChecksum bytes[0] bytes[1] bytes[2] bytes[3] then
      .next (raise 234 (s.onItl fun t => { t with checksum := satInc 16 t.checksum }))
    else
      let status := (bytes[0]).toNat % 4
      let data := intOfNat 16 ((bytes[2]).toNat * 256 + (bytes[3]).toNat)
      let s := s.onItl fun t => { t with busy := none, status := (bytes[0]).toNat }
      let word := BitVec.ofNat 64 (leNat bytes.toList + s.now % 2 ^ 32 * 2 ^ 32)
      match c with
      | .seat => .next (hwPush 11 [word] s).2
      | _ =>
        if status ≠ 0 ∧ status ≠ 3 then
          .next (raise 235 (s.onItl fun t => { t with naks := satInc 16 t.naks, known := false, waits := some .loopRead }))
        else
          match c with
          | .loopRead => .next (s.onItl fun t => { t with ftf := data, inForce := data, known := s.loopOn })
          | .loopWrite v => .next (s.onItl fun t => { t with inForce := v })
          | .seat => .next s

/-- `ITL_RSP_TIMEOUT` (R480). -/
def execItlRspTimeout (s : State) : Result :=
  match s.feh.itl.busy with
  | none => .next s
  | some _ =>
    let s := s.reach (s.feh.itl.sentAt + s.cfgN Param.itlRspTimeoutMs * 1000)
    .next (raise 233 (s.onItl fun t => { t with busy := none, timeouts := satInc 16 t.timeouts }))

/-- The estimate of the frequency offset in kHz, if the source has one (R481). -/
def State.loopEstimate (s : State) : Option Int :=
  if s.cfg Param.itlFtfSource = 1 ∧ s.rxd.rxState = .locked then some s.rxd.foKHz
  else if s.cfg Param.itlFtfSource = 2 ∧ s.lod.estimateValid = true then some (s.lod.fo * 1000)
  else none

/-- `FTF_LOOP_PERIOD` (R481): first the laser's FTF is read; then each period steps it by the estimate (DEDUCED, log entry 83). -/
def execFtfLoopPeriod (s : State) : Result :=
  if s.loopOn = false then .next s
  else
    let t := s.feh.itl.periodAt + s.cfgN Param.itlFtfPeriodMs * 1000
    let s := (s.reach t).onItl fun x => { x with periodAt := t }
    if s.feh.itl.known = false then .next (s.onItl fun x => { x with waits := some .loopRead })
    else
      match s.loopEstimate with
      | none => .next s
      | some fo =>
        let s := s.onItl fun x => { x with lastFo := clampInt (-(2 ^ 31)) (2 ^ 31 - 1) (roundNearest fo 1000) }
        if fo.natAbs ≤ s.cfgN Param.itlFtfDeadbandMhz * 1000 then .next s
        else
          let sign : Int := if s.cfg Param.itlFtfSign = 1 then -1 else 1
          let cap := s.cfg Param.itlFtfMaxStepMhz
          let lim := s.cfg Param.itlFtfLimitMhz
          let v := clampInt (-lim) lim
            (s.feh.itl.ftf + clampInt (-cap) cap (roundNearest (sign * fo * s.cfg Param.itlFtfGainPct) 100000))
          let bound := decide (v.natAbs = lim.natAbs)
          let was := s.feh.itl.atBound
          let s := s.onItl fun x => { x with ftf := v, waits := some (.loopWrite v), atBound := bound }
          .next (if bound && !was then raise 237 s else s)

/-- `ITL_LOOP_QUERY` (R485). -/
def execItlLoopQuery (req : Request) (s : State) : Result :=
  .next (serveTarget req s [(14, 3)] false fun s =>
    if req.payload ≠ [] then respond req (refusal stBadValue) s
    else
      let t := s.feh.itl
      respond req (okWith (leBytes 2 (natOfInt 16 t.inForce) ++ leBytes 4 (natOfInt 32 t.lastFo) ++ leBytes 4 t.updates ++
        leBytes 1 t.status ++ [0])) s)

/-! ### Commits, power states and resets (R460, R483, Table 15.2) -/

/-- A commit to `HKA` (R464, R466, R472). -/
def hkaCommitted (ks : List Nat) (s : State) : State :=
  overAll (indices 2)
    (fun c s =>
      let s := if changedParam ks 14 0 0 c.val then
        (if (s.hk c).burst then s.onHk c fun k => { k with refWaits := true } else settle c s) else s
      let s := if changedParam ks 14 0 16 c.val then s.onHk c fun k => 
        { k with wr := 0, rd := 0, wraps := 0, skip := [], full := false, stopped := false } else s
      if changedParam ks 14 0 3 c.val || changedParam ks 14 0 5 c.val then s.onHk c fun k => { k with timerAt := s.now } else s) s

/-- A commit to `HKD` or `ABC` reaches a channel (R474, R478): a bias that comes under control starts from its committed code, one that
stays under it is moved by a change of its code only, and a channel that is under none goes to its code. -/
def channelCommitted (ks : List Nat) (n : HkDacId) (s : State) : State :=
  let code := s.cfgN Param.hkdCode 0 n.val
  let changed := changedParam ks 14 1 0 n.val
  if h : n.val < 6 then
    let b : Fin 6 := ⟨n.val, h⟩
    let was := s.feh.under.getLsbD b.val
    let on := s.biasOn b
    let s := { s with feh.under := withBit s.feh.under b.val on }
    if was ≠ on then dacTo n code (s.onBias b fun _ => {})
    else if changed = false then s
    else dacTo n code (if on then s.onBias b fun x => { x with locked := false } else s)
  else if changed then dacTo n code s else s

/-- A commit to `HKD` or `ABC` (R474, R476, R478): a new slew holds from the codes reached. -/
def biasCommitted (ks : List Nat) (s : State) : State :=
  let s := if changedParam ks 14 1 3 0 then overAll (indices 12) (fun n s => dacTo n s.feh.dacs[n].target s) s else s
  let s := overAll (indices 12) (channelCommitted ks) s
  let keep := s.feh.active.any s.biasOn
  if keep then s else startDwell (s.nextBias none) s

/-- A commit to `ITL` (R481), and what a power state does to it: the loop starts with a read of the laser, and a port that is off or in P4 is
idle (Table 15.2) (DEDUCED, log entry 83). -/
def itlCommitted (s : State) : State :=
  if s.loopOn then
    if s.feh.itl.known ∨ s.feh.itl.waits = some .loopRead then s
    else s.onItl fun t => { t with waits := some .loopRead, periodAt := s.now }
  else s.onItl fun t => { t with known := false, waits := none, busy := if s.itlOn then t.busy else none }

/-- FEH in a new power state (Table 15.2). -/
def fehPower (s : State) : State := itlCommitted (if s.dacsHeld then holdDacs s else resumeDacs s)

/-- The release of FEH at start-up (R464, R474): the outputs ramp from 0, and the converters settle. -/
def fehRelease (s : State) : State :=
  let s := { s with feh.released := true, feh.dacs := Vector.replicate 12 {} }
  let s := overAll (indices 12) (fun n s => dacTo n (s.cfgN Param.hkdCode 0 n.val) s) s
  overAll (indices 2) settle s

/-- A Unit reset inside FEH (Table 15.2); the parameters are at their defaults already. -/
def resetFehUnit (unit : Nat) (s : State) : State :=
  match unit with
  | 0 => overAll (indices 2) settle { s with feh.convs := Vector.replicate 2 {}, feh.below := 0, feh.above := 0,
                                               feh.cross := 0 }
  | 1 => overAll (indices 12) (fun n s => dacTo n 0 s) s
  | 2 => { startDwell none s with feh.biases := Vector.replicate 6 {}, feh.under := 0, feh.unlocks := 0 }
  | _ => { s with feh.itl := {} }

end Sys2Proof.Machine
end

