-- ==== Sys2Proof/Machine/LineFrame.lean ====
section
/-!
DEFINITION. The line frame as it is laid out and sent (R237 to R246), the replacement signals (R257), and the HDLC frames of
the GCC channels (R259).
-/
namespace Sys2Proof.Machine

/-! ### Capacity units and quarter streams (R237 to R239) -/

/-- The OTUC slice of a capacity unit, in G.709 numbering (R237). -/
def unitSlice (u : Nat) : Nat := u / 4 + 1

/-- The tributary slots of a capacity unit in its slice (R237). -/
def unitSlots (u : Nat) : List Nat := (List.range 5).map fun j => 5 * (u % 4) + j + 1

/-- The slices that have a present unit, from slice #1 on (R239). -/
def presentSlices (c : Nat) : Nat := (c + 3) / 4

/-- The quarter stream that carries word `w` (0 the overhead word, 1 to 238 the payload words) of row `row` (0 to 3) of frame `frame` of a
20-frame OPUC multiframe (R238): the overhead word of row q + 1 belongs to quarter q, and payload words go to the twenty tributary slots in
turn (PRESUMED, log entry 104). -/
def wordQuarter (frame row w : Nat) : Nat := if w = 0 then row else ((frame * 4 + row) * 238 + (w - 1)) % 20 / 5

/-- The words of quarter `q` over a multiframe, as frame, row and word, in the order they occupy in the slice frame (R238). -/
def quarterWords (q : Nat) : List (Nat × Nat × Nat) :=
  (List.range 20).flatMap fun f => (List.range 4).flatMap fun r =>
    ((List.range 239).filter fun w => wordQuarter f r w = q).map fun w => (f, r, w)

/-- The OTUCn stream: the quarter streams of the present units, one word at a time in ascending unit number (R238). -/
def otucnStream {α : Type} (words : Nat) (quarters : List (List α)) : List α :=
  (List.range words).flatMap fun w => quarters.filterMap fun q => q[w]?

/-- What the receiver takes a slice's overhead rows for: those of absent quarters are zero (R239). -/
def receivedRows {α : Type} (zero : α) (c slice : Nat) (rows : List α) : List α :=
  rows.zipIdx.map fun x => if 4 * slice + x.2 < c then x.1 else zero

/-! ### Line bit stream (R240 to R243) -/

/-- Bits added modulo 2 to the sequence of the line scrambler from a register (R241), and the register after them. -/
def scrambleBits (reg : Nat) (bs : List Bool) : List Bool × Nat :=
  bs.foldl (fun (acc : List Bool × Nat) b =>
    let r := prbsStep 31 28 acc.2
    (acc.1 ++ [xor b (decide (r.1 = 1))], r.2)) ([], reg)

/-- The client bits of block `n` of a chain, `d` of them (R240): its share of the OTUCn stream, then fill of zeros, scrambled; and the
register after it. -/
def lineBlock (c k ps d n reg : Nat) (stream : List Bool) : List Bool × Nat :=
  let a := streamBits c k ps n
  scrambleBits reg (stream.take a ++ List.replicate (d - a) false)

/-- The bits of the OTUCn stream in a received block `n` of a chain, and the register after it (R243). -/
def lineUnblock (c k ps n reg : Nat) (client : List Bool) : List Bool × Nat :=
  let r := scrambleBits reg client
  (r.1.take (streamBits c k ps n), r.2)

/-- The client bits of block `n` of the transmit chain in force. -/
def State.txLineBlock (s : State) (n reg : Nat) (stream : List Bool) : List Bool × Nat :=
  lineBlock s.txC s.txd.symbolRate (payloadSymbols s.txd.pilots) (clientBits s.txd.entropy (s.cfgN Param.beFec)) n reg stream

/-! ### Containers (R246) -/

/-- The nominal bit rate of the ODUflex of a client of type 2 to 6, in bit/s. -/
def oduflexRate (units : Nat) : Nat := units * 5 * 239 * 5156250 * 1000 / 238

/-! ### Overhead sent (R239, R244, R260) -/

/-- The used client whose units hold a capacity unit. -/
def State.clientOfUnit (s : State) (u : Nat) : Option Nat :=
  s.usedClients.find? fun c => decide (s.firstUnit c ≤ u ∧ u < s.firstUnit c + s.unitsOf c)

/-- The multiplex structure identifier that a client map gives at capacity C (R239, R244), one entry per tributary slot: the slots of units
from C on are unavailable. A client's port number is its row (DEDUCED, log entry 104). -/
def State.msiOf (s : State) (c n : Nat) : List MsiSlot :=
  (List.range (4 * n)).flatMap fun u => List.replicate 5
    (if c ≤ u then .unavailable else match s.clientOfUnit u with
      | some k => .client k
      | none => .unoccupied)

/-- The place of a GCC channel in the frame of slice #1: its row and its two columns (R258). -/
def gccPlace (ch : Fin 3) : Nat × List Nat :=
  match ch.val with
  | 0 => (1, [11, 12])
  | 1 => (4, [1, 2])
  | _ => (4, [3, 4])

/-- The two bytes of a GCC channel in frame `n` of those since its stream of HDLC frames began; flags follow the stream (R258, R259). -/
def gccShare (stream : List Byte) (n : Nat) : List Byte := [stream.getD (2 * n) 0x7E, stream.getD (2 * n + 1) 0x7E]

/-- What `LFR` sends in a frame's overhead for one slice (Table 7.2); what is not listed is zero. `gcc` holds the bytes of the three channels at
their places, and `jc` the client whose word count the justification control of the frame gives, with that count. -/
structure SentOverhead where
  fas : List Byte
  mfas : Nat
  tti : Option Nat
  smBip : Byte
  bdi : Bool
  bei : Nat
  biae : Bool
  pmTti : Option Nat
  pmBip : Option Byte
  pmBdi : Bool
  stat : Nat
  payloadType : Nat
  msi : List MsiSlot
  gcc : List (Nat × List Nat × List Byte)
  omfi : Nat
  jc : Option (Nat × Nat)
deriving DecidableEq, Repr

/-- The overhead of slice `slice` (0 is slice #1) in frame `frame` of its 20-frame multiframe, with the given MFAS; slices without a present unit
are not sent, and in an interoperable mode or with the line frame gated none is. `opu` are the slice's OPUC bytes of two frames before, over which
BIP-8 is,
`streams` what the GCC channels have left to send, a channel that is switched off sending zeros, and `counts` the words that GMP puts into a
client's container. The trace, BDI, the ODUC path overhead and the GCC are in slice #1; the backward errors are those of the last frame
checked; STAT is normal (R239, R244, R246, R258, R260) (PRESUMED, log entry 104). -/
def State.sentOverhead (s : State) (slice frame mfas : Nat) (opu : List Byte) (streams : Fin 3 → List Byte) (counts : Nat → Nat) :
    Option SentOverhead :=
  if s.txInterop || decide (2 ≤ s.deviceState) || decide (presentSlices s.txC ≤ slice) then none
  else
    let first := decide (slice = 0)
    let down := s.frm.lof || s.rxd.los || s.rxd.losf
    let trace := if first then some (s.cfgN Param.lfrTtiTx 0 (mfas % 64)) else none
    some { fas := [0xF6, 0xF6, 0xF6, 0x28, 0x28, 0x28]
           mfas := mfas % 256
           tti := trace
           smBip := bip8 opu
           pmTti := trace
           pmBip := if first then some (bip8 opu) else none
           pmBdi := first && (down || s.frm.maint)
           gcc := if first then
               ((indices 3).filter fun ch => bits (s.cfgN Param.lfrGccEnable) ch.val 1 = 1).map fun ch =>
                 ((gccPlace ch).1, (gccPlace ch).2, gccShare (streams ch) 0)
             else []
           omfi := frame % 20
           jc := (s.clientOfUnit (4 * slice + frame % 20 / 5)).map fun c => (c, counts c)
           bdi := first && down
           bei := s.frm.sentBei.getD slice 0
           biae := s.frm.oof
           stat := 1
           payloadType := 0x22
           msi := ((s.msiOf s.txC (s.cfgDir .tx Param.lfrOtucN).toNat).drop (20 * slice)).take 20 }

/-! ### HDLC frames of the GCC channels (R259) -/

/-- The 32-bit FCS of ISO/IEC 13239 over a byte string, as it is sent, least significant byte first (PRESUMED, log entry 104). -/
def fcs32 (bs : List Byte) : List Byte :=
  let bit1 := fun (c : BitVec 32) => if c.getLsbD 0 then (c >>> 1) ^^^ 0xEDB88320#32 else c >>> 1
  let byte1 := fun (c : BitVec 32) (b : Byte) => (List.range 8).foldl (fun c _ => bit1 c) (c ^^^ b.zeroExtend 32)
  leBytes 4 ((bs.foldl byte1 0xFFFFFFFF#32) ^^^ 0xFFFFFFFF#32).toNat

/-- Octet stuffing: 0x7E and 0x7D are sent as 0x7D and the byte with bit 5 inverted. -/
def stuffBytes (bs : List Byte) : List Byte := bs.flatMap fun b => if b = 0x7E ∨ b = 0x7D then [0x7D, b ^^^ 0x20] else [b]

/-- Undo octet stuffing; an escape with nothing after it is an abort. -/
def unstuffBytes : List Byte → Option (List Byte)
  | [] => some []
  | b :: bs =>
    if b = 0x7D then
      match bs with
      | [] => none
      | x :: rest => (unstuffBytes rest).map fun t => (x ^^^ 0x20) :: t
    else (unstuffBytes bs).map fun t => b :: t

/-- A frame on the wire: flag, content and FCS with stuffing, flag. -/
def hdlcFrame (content : List Byte) : List Byte := 0x7E#8 :: stuffBytes (content ++ fcs32 content) ++ [0x7E#8]

/-- The content of a frame from what was received between its flags: 1 to 1,536 bytes with a good FCS and no abort. -/
def hdlcContent (received : List Byte) : Option (List Byte) :=
  match unstuffBytes received with
  | none => none
  | some bs =>
    let content := bs.take (bs.length - 4)
    if 1 ≤ content.length ∧ content.length ≤ 1536 ∧ bs.drop (bs.length - 4) = fcs32 content then some content else none

end Sys2Proof.Machine
end

