-- ==== Sys2Proof/Machine/Frame.lean ====
section
/-!
DEFINITION. FRM: the received line frame, replacement, and the GCC channels (chapter 7). The ODUflex resizes stand with the
commits.
-/
namespace Sys2Proof.Machine

/-- Judge the MSI mismatch of `LFR_STATUS` (R243, R244, R260): a wrong payload type, a client whose MSI differs, or a
received C beyond 4 × `rx_otuc_n`. `EV149` when it sets. -/
def judgeMsi (s : State) : State :=
  let bad := s.frm.ptBad || (s.usedClients.any fun c => (s.client c).msiBad) ||
    decide (4 * s.cfgN Param.lfrRxOtucN < s.rxC)
  let bad := bad && !s.rxInterop
  let s1 := noteDefects s { s with frm.msiMismatch := bad }
  if bad && !s.frm.msiMismatch then raise 149 s1 else s1

/-- The received trail trace differs from the expected one as `tti_mode` compares it: SAPI is bytes 0 to 15 and DAPI
bytes 16 to 31 of the trace (G.709). -/
def State.traceDiffers (s : State) : Bool :=
  let n := match s.cfgN Param.lfrTtiMode with
    | 0 => 0
    | 1 => 16
    | _ => 32
  (List.range n).any fun i => decide ((s.frm.smTti[i]?.getD 0 : Int) ≠ s.cfg Param.lfrTtiExpected 0 i)

/-- Judge the trace mismatch: `EV147` when it sets (DEDUCED, log entry 68). -/
def judgeTrace (s : State) : State :=
  let bad := s.traceDiffers && !s.rxInterop
  let s1 := noteDefects s { s with frm.tim := bad }
  if bad && !s.frm.tim then raise 147 s1 else s1

/-- The alignment state machine of one frame (R243): FAS in unit 0, and the MFAS of every present slice. -/
def alignFrame (f : OtucFrame) (s : State) : State :=
  let fasBad := if f.fasOk then 0 else s.frm.fasBad + 1
  let fasGood := if f.fasOk then s.frm.fasGood + 1 else 0
  let here := f.slices.take (presentSlices s.rxC)
  let mfasBad := vgen 32 fun i => if (here.getD i.val {}).mfasDiffers then s.frm.mfasBad[i] + 1 else 0
  let astray := mfasBad.toList.any fun n => decide (5 ≤ n)
  let s1 := { s with frm.fasBad := fasBad, frm.fasGood := fasGood, frm.mfasBad := mfasBad }
  if s.frm.oof = false ∧ (5 ≤ fasBad ∨ astray) then
    raise 144 (noteDefects s { s1 with frm.oof := true, frm.oofSince := s.now })
  else if s.frm.oof ∧ 2 ≤ fasGood ∧ astray = false then { s1 with frm.oof := false, frm.inSince := s.now }
  else s1

/-- The received multiplex structure identifier names another client, or none, in a tributary slot of a client (R244, R260); units beyond the
received C are not judged by it. -/
def State.msiDiffers (s : State) (msi : List MsiSlot) (c : Nat) : Bool :=
  (List.range (s.unitsOf c)).any fun i =>
    let u := s.firstUnit c + i
    decide (u < s.rxC) && (List.range 5).any fun j => decide (msi[5 * u + j]? ≠ some (.client c))

/-- One client's justification control in a frame (Table 7.7): three errors in a row replace the client until three
correct ones in a row. -/
def judgeJc (f : OtucFrame) (c : Nat) (s : State) : State :=
  if f.jcBad.getLsbD c then
    let s := s.onClient c fun k => { k with jcBad := k.jcBad + 1, jcGood := 0, jcAlarm := k.jcAlarm || decide (3 ≤ k.jcBad + 1) }
    raiseFor 154 c { s with frm.jcErrors := satInc 32 s.frm.jcErrors }
  else if f.jcGood.getLsbD c then
    s.onClient c fun k => { k with jcGood := k.jcGood + 1, jcBad := 0, jcAlarm := k.jcAlarm && decide (k.jcGood + 1 < 3) }
  else s

/-- The overhead of a frame that is in alignment (R244, R260): errors are summed over the present slices, and sent back as BEI. -/
def checkOverhead (f : OtucFrame) (s : State) : State :=
  let here := f.slices.take (presentSlices s.rxC)
  let s1 := { s with
    frm.smBip := (s.frm.smBip + (here.map SliceOverhead.smBip).sum) % 2 ^ 64
    frm.pmBip := (s.frm.pmBip + f.pmBip) % 2 ^ 64
    frm.smBei := satInc 32 s.frm.smBei (here.map SliceOverhead.bei).sum
    frm.sentBei := here.map SliceOverhead.smBip
    frm.bdi := f.bdi
    frm.maint := f.maint
    frm.ptBad := !f.payloadTypeOk
    frm.smTti := (f.smTti.map fun v => vmap v BitVec.toNat).getD s.frm.smTti
    frm.pmTti := (f.pmTti.map fun v => vmap v BitVec.toNat).getD s.frm.pmTti }
  let s1 := noteDefects s s1
  let s1 := if f.bdi && !s.frm.bdi then raise 146 s1 else s1
  let s1 := if f.maint && !s.frm.maint then raise 148 s1 else s1
  let s1 := if f.smTti.isSome then judgeTrace s1 else s1
  let s1 := match f.msi with
    | none => s1
    | some m => overAll s1.usedClients (fun c s => s.onClient c fun k => { k with msiBad := s.msiDiffers m c }) s1
  overAll s1.usedClients (judgeJc f) (judgeMsi s1)

/-- `RX_OTUC_FRAME` (R239, R243, R244, R260): a frame is aligned and, in frame, its overhead is checked. In an interoperable
mode there is no line frame (R252). -/
def execRxOtucFrame (f : OtucFrame) (s : State) : Result :=
  if s.rxInterop ∨ 2 ≤ s.deviceState then .next s
  else
    let s1 := alignFrame f s
    .next (refreshClients (if s1.frm.oof then s1 else checkOverhead f s1))

/-- `LOF_DECLARE` (R243): OOF has persisted for 3 ms. -/
def execLofDeclare (s : State) : Result :=
  if s.frm.oof = false ∨ s.frm.lof ∨ s.rxInterop ∨ 2 ≤ s.deviceState then .next s
  else
    let s1 := s.reach (s.frm.oofSince + 3000)
    let s1 := noteDefects s1 { s1 with frm.lof := true, frm.lofCount := satInc 32 s1.frm.lofCount }
    .next (refreshClients (raise 145 s1))

/-- `LOF_CLEAR` (R243): in-frame has persisted for 3 ms. -/
def execLofClear (s : State) : Result :=
  if s.frm.oof ∨ s.frm.lof = false ∨ 2 ≤ s.deviceState then .next s
  else
    let s1 := s.reach (s.frm.inSince + 3000)
    .next (refreshClients { s1 with frm.lof := false })

/-- `RESTORE_HOLD_EXPIRE` (R257): `restore_hold_ms` after every cause has cleared the replacement of a client ends. -/
def execRestoreHoldExpire (c : Fin 64) (s : State) : Result :=
  match (s.client c.val).clearSince with
  | none => .next s
  | some t =>
    if (s.client c.val).replacing = false ∨ s.clientCause c.val then .next s
    else
      let s1 := settleReplaced (s.reach (t + s.cfgN Param.mapRestoreHoldMs * 1000))
      .next (raiseFor 152 c.val ((s1.onClient c.val fun k => { k with replacing := false, clearSince := none }).send (.clientSignal c.val none)))

/-! ### GCC channels (R258, R259) -/

/-- A GCC channel runs: its bit is set, the line frame exists and is ungated. -/
def State.gccOn (s : State) (ch : Fin 3) (interop : Bool) : Bool :=
  decide (bits (s.cfgN Param.lfrGccEnable) ch.val 1 = 1) && !interop && decide (s.deviceState ≤ 1)

/-- The transmit and receive queue of a GCC channel. -/
def gccTxQueue (ch : Fin 3) : QueueId := ⟨2 * ch.val, by omega⟩
def gccRxQueue (ch : Fin 3) : QueueId := ⟨2 * ch.val + 1, by omega⟩

/-- The words of a packet that carries bytes after a first word with their count in [15:0] (R259). -/
def countedPacket (bs : List Byte) : List Word64 := BitVec.ofNat 64 (bs.length % 65536) :: bytesToWords bs

/-- The bytes of such a packet, if its count is from `lo` to `hi` and its words hold them. Its other bits and the padding, which the spec gives
as zero, are not judged (DESIGN CHOICE, log entry 68). -/
def countedBytes (ws : List Word64) (lo hi : Nat) : Option (List Byte) :=
  match ws with
  | [] => none
  | w :: _ =>
    let n := w.toNat % 65536
    let body := packetBody ws
    if lo ≤ n ∧ n ≤ hi ∧ n ≤ body.length ∧ body.length < n + 8 then some (body.take n) else none

/-- `GCC_RX_FRAME` (R259): what has been received between two flags. A frame with a bad FCS, an abort or a length out of range is counted; a
good one enters its queue, or is dropped at a full queue with `EV157`. -/
def execGccRxFrame (ch : Fin 3) (received : List Byte) (s : State) : Result :=
  if s.gccOn ch s.rxInterop = false then .next s
  else match hdlcContent received with
    | none => .next { s with frm.gccBad := satInc 32 s.frm.gccBad }
    | some bytes =>
      let r := hwPush (gccRxQueue ch) (countedPacket bytes) s
      if r.1 then .next r.2 else .next (raise 157 { r.2 with frm.gccDrops := satInc 32 r.2.frm.gccDrops })

/-- `GCC_TX_PACKET` (R258, R259): the next whole packet of the channel's transmit queue is sent as an HDLC frame, and a flag while there is
none. A packet whose count is out of range or does not fit its words is taken and not sent (DEDUCED, log entry 68). A channel that is switched
off sends zeros and takes nothing. -/
def execGccTxPacket (ch : Fin 3) (s : State) : Result :=
  if s.gccOn ch s.txInterop = false then .next s
  else match hwPop (gccTxQueue ch) s with
    | (none, s) => .next (s.send (.gcc ch.val [0x7E]))
    | (some ws, s1) =>
      match countedBytes ws 1 1536 with
      | some bs => .next (s1.send (.gcc ch.val (hdlcFrame bs)))
      | none => .next s1

/-! ### Queries (R263) -/

/-- `FRM_TTI_READ`: 64 bytes of SM TTI, then 64 of PM TTI. -/
def execFrmTtiRead (req : Request) (s : State) : Result :=
  .next (serveTarget req s [(9, 0)] false fun s =>
    if req.payload ≠ [] then respond req (refusal stBadValue) s
    else respond req (okWith ((s.frm.smTti.toList ++ s.frm.pmTti.toList).map (BitVec.ofNat 8))) s)

/-- `FRM_CLIENT_QUERY`: the running row of a client and its measured host rate. -/
def execFrmClientQuery (req : Request) (s : State) : Result :=
  .next (serveTarget req s [(9, 1)] false fun s =>
    let c := byteAt req.payload 0
    if req.payload.length ≠ 1 ∨ 63 < c then respond req (refusal stBadValue) s
    else
      respond req (okWith (leBytes 1 (s.clientType c) ++ leBytes 1 (s.firstUnit c) ++ leBytes 1 (s.unitsOf c) ++
        leBytes 1 (s.hostPort c) ++ leBytes 1 (s.classOf c) ++ leBytes 3 0 ++ leBytes 8 (s.client c).hostKbps)) s)

/-! ### Intervals, commits, resets and power states (R255, R260, R261) -/

/-- The end of a 1 s PM interval in FRM (Table 7.8): `EV150` if the SM BIP-8 errors exceed `bip_sd_count`. -/
def frmInterval (s : State) : State :=
  let n := (s.frm.smBip + 2 ^ 64 - s.frm.smBipAt) % 2 ^ 64
  let s1 := { settleReplaced s with frm.smBipAt := s.frm.smBip }
  if s.cfgN Param.lfrBipSdCount < n then raise 150 s1 else s1

/-- Used clients of Class 0. -/
def State.class0 (s : State) : List Nat := s.usedClients.filter fun c => decide (s.classOf c = 0)

/-- A change superframe steps the delay of Class 0 (R255). -/
def class0Step (s : State) : State :=
  if s.class0 = [] then s else raise 158 { s with frm.steps := satInc 32 s.frm.steps }

/-- FRM after a commit: a client that is no longer used has nothing to replace, traces and MSI are compared anew, and the
clients are judged. -/
def frmCommitted (s : State) : State :=
  let s1 := settleReplaced s
  let s1 := { s1 with frm.clients := vgen 64 fun c => if s1.clientUsed c.val then s1.frm.clients[c] else {} }
  refreshClients (judgeMsi (judgeTrace s1))

/-- The received overhead of Table 7.2 ceases to exist, with what it has shown (R252); the frame must be found anew after it, so that `OOF` and
`LOF` read 1, as after a reset, without event or count (DESIGN CHOICE, log entry 110). -/
def dropOverhead (s : State) : State :=
  noteDefects s { s with
    frm.oof := true, frm.lof := true, frm.oofSince := s.now, frm.fasBad := 0, frm.fasGood := 0
    frm.mfasBad := Vector.replicate 32 0, frm.sentBei := [], frm.bdi := false, frm.tim := false, frm.maint := false
    frm.ptBad := false, frm.msiMismatch := false
    frm.clients := vmap s.frm.clients fun k => { k with msiBad := false, jcBad := 0, jcGood := 0, jcAlarm := false } }

/-- FRM on entry into P2 or deeper (Table 7.9): `OOF` and `LOF` set without events or counts, and every client is
replaced. -/
def frmEnter (device : Nat) (s : State) : State :=
  if device ≤ 1 then refreshClients s
  else refreshClients (noteDefects s { s with frm.oof := true, frm.lof := true, frm.oofSince := s.now, frm.fasBad := 0,
                                              frm.fasGood := 0, frm.mfasBad := Vector.replicate 32 0, frm.following := none })

/-- A Unit reset inside FRM (Table 7.9). -/
def resetFrmUnit (unit : Nat) (s : State) : State :=
  match unit with
  | 0 =>
    refreshClients { s with
      frm.oof := true, frm.lof := true, frm.bdi := false, frm.tim := false, frm.maint := false, frm.ptBad := false,
      frm.msiMismatch := false, frm.sticky := 0, frm.smBip := 0, frm.smBipAt := 0, frm.pmBip := 0, frm.smBei := 0,
      frm.lofCount := 0, frm.gccDrops := 0, frm.gccBad := 0, frm.fasBad := 0, frm.fasGood := 0, frm.mfasBad := Vector.replicate 32 0, frm.sentBei := [],
      frm.oofSince := s.now, frm.smTti := Vector.replicate 64 0, frm.pmTti := Vector.replicate 64 0 }
  | 1 =>
    let s := settleReplaced s
    { s with frm.clients := Vector.replicate 64 {}, frm.resizes := [], frm.resized := [], frm.following := none, frm.resizeClient := 0,
             frm.resizeTarget := 0, frm.resizeFail := false, frm.replaced := 0, frm.replacedRest := 0, frm.jcErrors := 0 }
  | _ => { s with frm.steps := 0 }

end Sys2Proof.Machine
end

