-- ==== Sys2Proof/Machine/Lodestone.lean ====
section
/-!
DEFINITION. LOD: the chirp channel, its frames, estimates and messages (chapter 9). `LOD_SLOT`, at which superframes land,
stands with the commits.
-/
namespace Sys2Proof.Machine

/-! ### Mode, frames and slots (R296 to R302) -/

/-- CRC-8 of R591, over one byte. -/
def crc8Byte (c : BitVec 8) (b : Byte) : BitVec 8 :=
  (List.range 8).foldl (fun c _ => if c.getLsbD 7 then (c <<< 1) ^^^ 0x07#8 else c <<< 1) (c ^^^ b)

/-- CRC-8 of a byte string (R591): initial value zero, no final XOR. -/
def crc8 (bs : List Byte) : BitVec 8 := bs.foldl crc8Byte 0

/-- The slot length in superframes (R302). -/
def State.slotLength (s : State) : Nat := 256 * 2 ^ s.cfgN Param.lmsSlotSuperframes

/-- The slot length in ns: a superframe is 65,536 symbols. Which of the two neighbours of a length that is no whole number is shown is free
(DESIGN CHOICE, log entry 17). -/
def State.slotNs (s : State) : Nat := roundFree (s.slotLength * 65536 * 1000000) s.symbolRate

/-- Chirps of a frame (Table 9.3). -/
def frameChirps (sf len : Nat) : Nat := 13 + (32 + sf - 3) / (sf - 2) + (8 * (len + 4) + sf - 1) / sf

/-- Superframes that a frame occupies from its first chip. -/
def frameSuperframes (sf len : Nat) : Nat := (frameChirps sf len * 2 ^ sf + 65535) / 65536

/-- Header, payload and CRC of a frame (R300). -/
def lodBytes (type seq : Nat) (payload : List Byte) : List Byte :=
  let h := [BitVec.ofNat 8 type, BitVec.ofNat 8 payload.length, BitVec.ofNat 8 seq]
  h ++ [crc8 h] ++ payload ++ leBytes 4 (crc32c (h ++ payload))

/-- The phase of chip `n` of an up-chirp with cyclic shift `s`, in units of π / 2^SF (R296); the chip adds the same value on X and Y. -/
def chipPhase (sf s n : Nat) : Int :=
  let m := (n + s) % 2 ^ sf
  (m * m : Int) - m * 2 ^ sf

/-- The shift of a group of `SF - 2` header bits or `SF` payload bits (R301). -/
def chirpShift (header : Bool) (v : Nat) : Nat := if header then 4 * grayLabel v else grayLabel v

/-- Cut a byte string into groups of `n` bits, most significant bit first, the last group filled with zeros (R301). -/
def chirpGroups (n : Nat) (bs : List Byte) : List Nat :=
  let all := bs.flatMap fun b => (List.range 8).map fun i => bits b.toNat (7 - i) 1
  (List.range ((all.length + n - 1) / n)).map fun g =>
    (List.range n).foldl (fun v i => 2 * v + all.getD (g * n + i) 0) 0

/-- The chirps of a frame (R299): ten of the preamble, two that show the link group, a down-chirp, then the header and the payload with its
CRC. -/
def frameChirpsOf (sf group : Nat) (bytes : List Byte) : List Chirp :=
  List.replicate 10 (.up 0) ++ [.up (group / 16 * 2 ^ (sf - 4)), .up (group % 16 * 2 ^ (sf - 4)), .down] ++
    ((chirpGroups (sf - 2) (bytes.take 4)).map fun v => .up (chirpShift true v)) ++
    ((chirpGroups sf (bytes.drop 4)).map fun v => .up (chirpShift false v))

/-- The payload of an `IDENTITY` (Table 9.7). -/
def State.identityPayload (s : State) : List Byte :=
  leBytes 8 s.fuses.deviceId ++ (List.range 16).map (fun i => BitVec.ofNat 8 (s.cfgN Param.lmsLocalLabel 0 i)) ++
    leBytes 2 (s.symbolRate / 125000) ++ leBytes 1 s.txd.constellation ++ leBytes 1 (s.cfgN Param.beFec) ++
    leBytes 1 (s.cfgN Param.lfrOtucN) ++ leBytes 1 s.txd.capacity ++ leBytes 1 (s.cfgN Param.ldtSf) ++
    leBytes 1 (bit s.fuses.encEnabled + 2 * s.cfgN Param.cipRole)

/-- Nothing reaches the balls: in P3 and P4, and while every DAC channel is muted (R298). -/
def State.nothingSent (s : State) : Bool :=
  decide (3 ≤ s.deviceState) || (indices 4).all fun ch => s.dacMuted ch

/-- Send one frame in the slot at a superframe. -/
def sendFrame (sf type : Nat) (payload : List Byte) (s : State) : State :=
  let spread := s.cfgN Param.lgSf
  let bytes := lodBytes type s.lod.txSeq payload
  let s1 := if s.nothingSent then s
    else s.send (.lodFrame (decide (s.lodMode = 1)) spread (s.cfg Param.lgLevelDb)
        (frameChirpsOf spread (s.cfgN Param.lgLinkGroup) bytes))
  { s1 with lod.txSeq := (s.lod.txSeq + 1) % 256, lod.frames := satInc 32 s.lod.frames,
            lod.busyUntil := sf + frameSuperframes spread payload.length }

/-- Send an `IDENTITY`: a control restart leaves only the last one built (Table 9.8). -/
def sendIdentity (sf : Nat) (s : State) : State :=
  let p := if s.mgt.restarting then s.lod.template else s.identityPayload
  sendFrame sf 0x01 p { s with lod.identityDue := false, lod.template := p, lod.identityAt := s.now }

/-- What `LMS` does with the slot at a superframe (R302): the first of a `RATE_ANSWER`, a `RATE_PROPOSE`, an `IDENTITY` that
is due and the oldest host-opaque message; in beacon mode an `IDENTITY` otherwise. -/
def slotAt (sf : Nat) (s : State) : State :=
  let s := { s with lod.lastSlot := some sf }
  if s.lodMode = 0 ∨ sf < s.lod.busyUntil ∨ 3 ≤ s.deviceState then s
  else if s.mgt.restarting then
    if s.lod.identityDue ∨ s.lodMode = 1 then sendIdentity sf s else s
  else match s.lod.answers with
    | p :: rest => sendFrame sf 0x21 p { s with lod.answers := rest }
    | [] => match s.lod.propose with
      | some p => sendFrame sf 0x20 p { s with lod.propose := none }
      | none =>
        if s.lod.identityDue then sendIdentity sf s
        else match s.lod.opaques with
          | m :: rest => sendFrame sf m.type m.payload { s with lod.opaques := rest }
          | [] => if s.lodMode = 1 then sendIdentity sf s else s

/-- `IDENTITY_DUE` (R302): in service an `IDENTITY` falls due `identity_interval_ms` after the previous one was sent. -/
def execIdentityDue (s : State) : Result :=
  if s.lodMode ≠ 2 ∨ s.lod.identityDue then .next s
  else .next { s.reach (s.lod.identityAt + s.cfgN Param.lmsIdentityIntervalMs * 1000) with lod.identityDue := true }

/-! ### Reception (R303 to R307) -/

/-- `LDT` is on (Table 9.8). -/
def State.ldtOn (s : State) : Bool := decide (s.deviceState ≤ 2)

/-- A preamble of another link group is abandoned and counted (R305). -/
def foreignPreamble (group : Nat) (s : State) : State :=
  raise 179 { s with lod.foreign := satInc 16 s.lod.foreign, lod.lastGroup := group }

/-- A preamble becomes the current frame: the gain freezes at the value it asks for. -/
def adoptPreamble (p : Preamble) (s : State) : State :=
  { s with lod.current := some p, lod.header := none, lod.tracked := none, lod.gain := p.gain,
           lod.metric := min 255 p.metric }

/-- `PREAMBLE_DETECT` (R303, R306, R307): a preamble at or above the threshold starts a reception, its gain frozen; during
a reception it is handled by Table 9.4. `metric` and `gain` are in 0.5 dB, `group` is what its sync chirps show (DEDUCED, log entry 76). -/
def execPreambleDetect (metric : Nat) (gain : Fin 121) (group : Byte) (s : State) : Result :=
  if s.ldtOn = false ∨ metric < s.cfgN Param.ldtDetectThresholdDbX2 then .next s
  else
    let p : Preamble := ⟨metric, gain.val, group.toNat⟩
    match s.lod.current with
    | none => .next (adoptPreamble { p with gain := s.lod.gain } s)
    | some c =>
      if p.group ≠ s.cfgN Param.ldtLinkGroup then .next (foreignPreamble p.group s)
      else if s.lod.header.isSome then .next (raise 184 { s with lod.ignored := satInc 16 s.lod.ignored })
      else if c.metric + 12 ≤ metric then
        .next (raise 183 (adoptPreamble p { s with lod.preempted := satInc 16 s.lod.preempted }))
      else .next { s with lod.tracked := some p }

/-- The reception ends; a second preamble being tracked takes its place if the header failed (R307). -/
def endReception (headerFailed : Bool) (s : State) : State :=
  let s1 := { s with lod.current := none, lod.header := none }
  match s.lod.tracked with
  | some p => if headerFailed then adoptPreamble p s1 else { s1 with lod.tracked := none }
  | none => s1

/-- `LOD_HEADER` (R300, R305): the sync chirps and the four header bytes are decoded; a foreign group or a failed CRC-8
abandons the frame. -/
def execLodHeader (bytes : Vector Byte 4) (s : State) : Result :=
  match s.lod.current with
  | none => .next s
  | some p =>
    if s.lod.header.isSome ∨ s.ldtOn = false then .next s
    else if p.group ≠ s.cfgN Param.ldtLinkGroup then .next (foreignPreamble p.group (endReception false s))
    else if crc8 (bytes.toList.take 3) ≠ bytes[3] then
      .next (raise 181 (endReception true { s with lod.hdrCrc := satInc 16 s.lod.hdrCrc }))
    else .next { s with lod.header := some (bytes[0].toNat, bytes[1].toNat, bytes[2].toNat) }

/-- D_max in ps/nm for a symbol rate in kBd (R126). -/
def maxDispersion (kBd : Nat) : Int :=
  if 75000000 ≤ kBd then ((3600000000000000000000 / (kBd * kBd) : Nat) : Int) else 640000

/-- A set of estimates (R308), the dispersion against D_max at the receive symbol rate (R126): dispersion in ps/nm, frequency offset in MHz, chip-rate error in ppm. -/
def estimatesInRange (s : State) (cd fo ppm : Int) : Bool :=
  decide (cd.natAbs ≤ (maxDispersion s.rxSymbolRate).toNat) && decide (fo.natAbs ≤ 15000) && decide (ppm.natAbs ≤ 2500)

/-- A chirp-rate error beyond ±200 ppm of the identified partner: `EV188` once per identification (R304). -/
def judgeRate (s : State) : State :=
  if s.lod.identified && s.lod.estimateValid && !s.lod.rateNoted && decide (200 < s.lod.rate.natAbs) then
    raise 188 { s with lod.rateNoted := true }
  else s

/-- Take a set of estimates (R309): the first one after a reset of `LDT` or the loss of the partner raises `EV180`; a set outside its ranges is
discarded (R308). -/
def takeEstimates (cd fo ppm : Int) (s : State) : State :=
  if estimatesInRange s cd fo ppm = false then s
  else
    let s1 := takeSeed cd fo { s with lod.cd := cd, lod.fo := fo, lod.rate := ppm, lod.estimateValid := true, lod.estimateNoted := true }
    judgeRate (if s.lod.estimateNoted then s1 else raise 180 s1)

/-- The partner's chirps can be cancelled (R311): a chirp spans at most 20,480 samples. -/
def State.canCancel (s : State) : Bool :=
  decide (2 ^ s.cfgN Param.ldtSf * sampleRateOf s.symbolRate ≤ 20480 * s.rxSymbolRate)

/-- Judge cancellation (R311): in force with `cancel_enable` = 1, the partner in service and chirps within the limit;
`EV190` once per identification if the limit prevents it. -/
def judgeCancel (s : State) : State :=
  let want := s.cfgB Param.ldtCancelEnable && s.lod.inService && s.ldtOn
  let s1 := { s with lod.cancelling := want && s.canCancel }
  if want && !s.canCancel && s.lod.identified && !s.lod.cancelNoted then raise 190 { s1 with lod.cancelNoted := true } else s1

/-- A protocol error (R312, R313). -/
def lodProtocolError (s : State) : State := raise 185 { s with lod.protoErrors := satInc 16 s.lod.protoErrors }

/-- A message type with a length that the protocol knows (Table 9.6). -/
def knownMessage (type len : Nat) : Bool :=
  decide (type = 0x01 ∧ len = 32) || decide (type = 0x20 ∧ len = 27) || decide (type = 0x21 ∧ len = 4) ||
    decide (0x80 ≤ type ∧ 1 ≤ len)

/-- A valid frame reaches `LMS` (R312, R313, Table 9.8). -/
def passToLms (m : LodMessage) (s : State) : State :=
  let gap := s.lod.rxSeq.any fun q => decide ((q + 1) % 256 ≠ m.seq)
  let s := { s with lod.lastValid := s.now, lod.rxSeq := some m.seq,
                    lod.missed := if gap then satInc 16 s.lod.missed else s.lod.missed }
  let known := knownMessage m.type m.payload.length
  if s.mgt.restarting ∧ ¬(known ∧ (m.type = 0x20 ∨ m.type = 0x21)) then { s with lod.rxDrops := satInc 16 s.lod.rxDrops }
  else if known = false then lodProtocolError s
  else { s with lod.inbox := s.lod.inbox ++ [m] }

/-- A frame of the local group tells whether the partner is in beacon mode (R310): the chirp power lies within 6 dB of the
total. In a beacon the receive chain waits in idle, whatever state it was in, and keeps its seed; what it held for a warm reacquisition is
dropped, also in P2 (DESIGN CHOICE, log entry 76). -/
def noteBeacon (beacon : Bool) (s : State) : State :=
  if beacon then
    let s1 := { s with lod.rxBeacon := true, lod.beaconAt := s.now, lod.inService := false }
    if s1.rxd.rxState ≠ .idle then awaitReference s1 else s1
  else { s with lod.inService := true }

/-- `LOD_FRAME` (R305, R308 to R310): the frame in progress is complete. `rest` is the payload and its CRC-32C as received;
the estimates are taken, and a frame that passes reaches `LMS` (DEDUCED, log entry 76). -/
def execLodFrame (rest : List Byte) (cd fo ppm : Int) (beacon : Bool) (s : State) : Result :=
  match s.lod.current, s.lod.header with
  | some p, some (type, len, seq) =>
    if s.ldtOn = false then .next s
    else
      let payload := rest.take len
      let head := [BitVec.ofNat 8 type, BitVec.ofNat 8 len, BitVec.ofNat 8 seq]
      let good := decide (rest.length = len + 4) && decide (leNat (rest.drop len) = crc32c (head ++ payload))
      let s1 := judgeCancel (noteBeacon beacon (takeEstimates cd fo ppm (endReception false s)))
      if good then
        let m : LodMessage := { type, payload, seq, at_ := s.now, metric := p.metric }
        .next (passToLms m { s1 with lod.framesOk := satInc 32 s1.lod.framesOk })
      else .next (raise 182 { s1 with lod.payCrc := satInc 16 s1.lod.payCrc })
  | _, _ => .next s

/-- `RX_BEACON_CLEAR` (R310): `partner_timeout_ms` without a beacon frame; power present from now is the main signal
(DEDUCED, log entry 76). -/
def execRxBeaconClear (s : State) : Result :=
  if s.lod.rxBeacon = false then .next s
  else
    let s1 := s.reach (s.lod.beaconAt + s.cfgN Param.lmsPartnerTimeoutMs * 1000)
    .next { s1 with lod.rxBeacon := false, rxd.powerAt := s1.rxd.powerAt.map fun _ => s1.now }

/-- `LDT_GAIN_UPDATE` (R306): while `LDT` searches, its gain follows the RMS target, from 0 dB to 60 dB in 0.5 dB steps. -/
def execLdtGainUpdate (gain : Fin 121) (s : State) : Result :=
  if s.ldtOn = false ∨ s.lod.current.isSome then .next s else .next { s with lod.gain := gain.val }

/-! ### Messages (R312 to R314) -/

/-- Take the oldest message of a kind from the inbox. -/
def takeMessage (p : Nat → Bool) (s : State) : Option (LodMessage × State) :=
  match s.lod.inbox.find? fun m => p m.type with
  | some m => some (m, { s with lod.inbox := s.lod.inbox.erase m })
  | none => none

/-- The expected device, or any with `expected_id` = 0 (R313). -/
def State.expects (s : State) (id : Nat) : Bool := decide (s.cfgN Param.lmsExpectedId = 0 ∨ s.cfgN Param.lmsExpectedId = id)

/-- `IDENTITY_RX` (R313): the partner is identified, or an unexpected device is noted (DEDUCED, log entry 75). -/
def execIdentityRx (s : State) : Result :=
  if s.mgt.restarting then .next s
  else match takeMessage (· == 0x01) s with
    | none => .next s
    | some (m, s) =>
      let id := u64At m.payload 0
      if s.expects id then
        let fresh := !s.lod.identified || decide (u64At s.lod.partner 0 ≠ id)
        let s1 := { s with lod.identified := true, lod.partner := m.payload, lod.partnerAt := m.at_,
                           lod.partnerMetric := m.metric }
        let s1 := if fresh then raise 176 { s1 with lod.rateNoted := false, lod.cancelNoted := false } else s1
        .next (judgeRate (judgeCancel s1))
      else .next (raise 178 { s with lod.mismatch := true })

/-- `HOST_OPAQUE_RX` (R314): the message becomes a packet of queue 7, or is dropped at a full queue. -/
def execHostOpaqueRx (s : State) : Result :=
  if s.mgt.restarting then .next s
  else match takeMessage (fun t => decide (0x80 ≤ t)) s with
    | none => .next s
    | some (m, s) =>
      let w := BitVec.ofNat 64 (m.payload.length + fieldAt m.type 16 8 + fieldAt m.seq 24 8 + fieldAt m.at_ 32 32)
      let r := hwPush 7 (w :: bytesToWords m.payload) s
      if r.1 then .next r.2 else .next (raise 186 { r.2 with lod.rxDrops := satInc 16 r.2.lod.rxDrops })

/-- The message of a transmit packet, if its first word and its length are as R314 gives. -/
def opaqueOf (ws : List Word64) : Option LodMessage :=
  match ws with
  | [] => none
  | w :: _ =>
    let type := bits w.toNat 16 8
    if 2 ^ 24 ≤ w.toNat ∨ type < 0x80 then none
    else (countedBytes ws 1 255).map fun p => { type, payload := p }

/-- `LOD_TX_PACKET` (R314): the next packet of queue 6 is queued for transmission, or rejected. -/
def execLodTxPacket (s : State) : Result :=
  if s.mgt.restarting then .next s
  else match hwPop 6 s with
    | (none, s) => .next s
    | (some ws, s) =>
      match opaqueOf ws with
      | some m => .next { s with lod.opaques := s.lod.opaques ++ [m] }
      | none => .next (raise 189 { s with lod.txRejects := satInc 16 s.lod.txRejects })

/-- The partner is lost (R309, R313) (DEDUCED, log entry 75). -/
def losePartner (s : State) : State :=
  let s1 := { s with lod.identified := false, lod.partner := [], lod.partnerAt := 0, lod.partnerMetric := 0,
                     lod.estimateValid := false, lod.estimateNoted := false, rxd.seedValid := false, lod.inService := false,
                     lod.cancelling := false,
                     lod.rateNoted := false, lod.cancelNoted := false, lod.rxSeq := none }
  if s.lod.identified then raise 177 s1 else s1

/-- `PARTNER_TIMEOUT` (R313): `partner_timeout_ms` without a valid frame of the local group. -/
def execPartnerTimeout (s : State) : Result :=
  if s.lod.identified ∨ s.lod.estimateValid then
    .next (losePartner (s.reach (s.lod.lastValid + s.cfgN Param.lmsPartnerTimeoutMs * 1000)))
  else .next s

/-- `LOD_PARTNER_QUERY` (Table 9.10). -/
def execLodPartnerQuery (req : Request) (s : State) : Result :=
  .next (serveTarget req s [(11, 2)] false fun s =>
    if req.payload ≠ [] then respond req (refusal stBadValue) s
    else if s.lod.identified then
      respond req (okWith (s.lod.partner ++ leBytes 4 (s.now - s.lod.partnerAt) ++ leBytes 4 s.lod.partnerMetric)) s
    else respond req (okWith (List.replicate 40 0)) s)

/-- `LOD_IDENTITY_NOW` (Table 9.10). -/
def execLodIdentityNow (req : Request) (s : State) : Result :=
  .next (serveTarget req s [(11, 2)] true fun s =>
    if req.payload ≠ [] then respond req (refusal stBadValue) s
    else respond req okReply { s with lod.identityDue := true })

/-! ### Commits, power states and resets (R315) -/

/-- LOD after a commit. -/
def lodCommitted (s : State) : State := judgeCancel (judgeLodMode s)

/-- LOD on entry into a power state (Table 9.8). -/
def lodEnter (device : Nat) (s : State) : State :=
  let s := judgeCancel (judgeLodMode s)
  let s := if 3 ≤ device then { s with lod.current := none, lod.header := none, lod.tracked := none } else s
  if device = 4 then
    { s with lod.estimateValid := false, lod.cd := 0, lod.fo := 0, lod.rate := 0, rxd.seedValid := false }
  else s

/-- A Unit reset inside LOD (Table 9.8) (DEDUCED, log entry 75). -/
def resetLodUnit (unit : Nat) (s : State) : State :=
  match unit with
  | 0 => judgeLodMode { s with lod.busyUntil := 0, lod.frames := 0, lod.txSeq := 0 }
  | 1 =>
    { s with
      lod.current := none, lod.header := none, lod.tracked := none, lod.gain := 0, lod.metric := 0,
      lod.estimateValid := false, lod.cd := 0, lod.fo := 0, lod.rate := 0, lod.framesOk := 0, lod.hdrCrc := 0,
      lod.payCrc := 0, lod.preempted := 0, lod.ignored := 0, lod.foreign := 0, lod.lastGroup := 0, lod.rxBeacon := false,
      lod.inService := false, lod.cancelling := false, lod.estimateNoted := false, rxd.seedValid := false, rxd.seed := 0,
      rxd.seedFo := 0 }
  | _ =>
    let s := losePartner s
    { s with lod.answers := [], lod.propose := none, lod.identityDue := false, lod.opaques := [], lod.inbox := [],
             lod.mismatch := false, lod.missed := 0, lod.protoErrors := 0, lod.rxDrops := 0, lod.txRejects := 0 }

end Sys2Proof.Machine
end

