-- ==== Sys2Proof/Machine/Monitor.lean ====
section
/-!
DEFINITION. MON: decimation chains, detectors and capture, and the gain loop of CNV that reads the detectors (chapter 10,
R112 to R117).
-/
namespace Sys2Proof.Machine

/-! ### The decimator as arithmetic (R322 to R324) -/

/-- The chain input from a sample scaled to a signed 16-bit number: the value, or its power (R322). -/
def chainInput (square : Bool) (x : Int) : Int := if square then min (x * x / 2 ^ 15) 32767 else x

/-- The scaled sample of an ADC code (R322). -/
def adcScaled (code : Nat) : Int := ((code : Int) - 128) * 256

/-- One core cycle of the five integrators, 96 bits wide, wrapping (R324). -/
def cicIntegrate (st : List (BitVec 96)) (x : Int) : List (BitVec 96) :=
  (st.foldl (fun (acc : List (BitVec 96) × BitVec 96) r => (acc.1 ++ [r + acc.2], r + acc.2)) ([], BitVec.ofInt 96 x)).1

/-- The five combs on one decimated value: each subtracts the value before (R324). The result is the new delays and the
output. -/
def cicComb (delays : List (BitVec 96)) (v : BitVec 96) : List (BitVec 96) × BitVec 96 :=
  delays.foldl (fun acc d => (acc.1 ++ [acc.2], acc.2 - d)) ([], v)

/-- One core cycle of the decimator: the chain, and the CIC output if the cycle is the D-th since the last one (R323, R324). -/
def Chain.cic (k : Chain) (log2D : Nat) (x : Int) : Chain × Option Int :=
  let ints := cicIntegrate k.ints x
  if (k.phase + 1) % 2 ^ log2D = 0 then
    let c := cicComb k.combs (ints.getLastD 0)
    ({ k with ints := ints, combs := c.1, phase := 0 }, some c.2.toInt)
  else ({ k with ints := ints, phase := k.phase + 1 }, none)

/-- The shift between CIC and FIR: right by 5 × log2(D) - 16 bits, towards minus infinity (R323). -/
def cicShift (log2D : Nat) (v : Int) : Int := v / 2 ^ (5 * log2D - 16)

/-- log2(D) of a preset (Table 10.3). -/
def presetLog2 (preset : Nat) : Nat := 4 * (preset + 1)

/-- The settling count in core cycles: 69 × D (R323). -/
def settlingCycles (preset : Nat) : Nat := 69 * 2 ^ presetLog2 preset

/-- A number limited to a signed one of `bits` bits. -/
def saturateTo (bits : Nat) (v : Int) : Int := max (-2 ^ (bits - 1)) (min (2 ^ (bits - 1) - 1) v)

/-- The level `l`, in 0.01 dB, does not exceed 10 log10(num/den). -/
def levelAtMost (num den : Nat) (l : Int) : Bool :=
  if 0 ≤ l then decide (10 ^ l.toNat * den ^ 1000 ≤ num ^ 1000) else decide (den ^ 1000 ≤ num ^ 1000 * 10 ^ (-l).toNat)

/-- cos(2π/200) and π in units of 2^-128, rounded down. -/
def circleStep : Int := 340114458114256995461838439559705397459
def circleHalf : Int := 1069028584064966747859680373161870783300

/-- cos(2πm/200) in units of 2^-128, by the recurrence of the cosines of multiples. -/
def circleCos (m : Nat) : Int :=
  ((List.range m).foldl (fun (c : Int × Int) _ => (c.2, 2 * circleStep * c.2 / 2 ^ 128 - c.1)) (2 ^ 128, circleStep)).1

/-- The power gain of CIC and FIR together at j/100 of the output rate, relative to DC, as a quotient: the filter's response, and the fifth power
of sin(πf) / (D sin(πf/D)), the sine of the small angle by its series (R323). -/
def droopAt (log2D : Nat) (taps : List Int) (fraction j : Nat) : Nat × Nat :=
  let unit : Int := 2 ^ 128
  let part := fun (shift : Nat) => (taps.zipIdx.map fun h => h.1 * circleCos ((2 * j * h.2 + shift) % 200)).sum
  let x := circleHalf * j / (100 * 2 ^ log2D)
  let small := x - x * x * x / (6 * unit * unit) + x * x * x * x * x / (120 * unit * unit * unit * unit)
  (((part 0 * part 0 + part 150 * part 150) * circleCos ((j + 150) % 200) ^ 10).toNat,
    (unit * unit * 2 ^ (2 * fraction) * (2 ^ log2D * small) ^ 10).toNat)

/-- A filter has unity DC gain and compensates the droop of the CIC to within 0.1 dB at every hundredth of the output rate up to 0.2 (R323). -/
def firMeets (log2D : Nat) (taps : List Int) (fraction : Nat) : Bool :=
  decide (taps.sum = 2 ^ fraction) && (List.range 20).all fun i =>
    let g := droopAt log2D taps fraction (i + 1)
    levelAtMost g.1 g.2 (-10) && levelAtMost g.2 g.1 (-10)

/-- The filter of a preset: its coefficients and their fraction bits. R323 gives its response and no coefficients: they are free as long as they
have that response, and else those of a filter that has it (DESIGN CHOICE, log entry 77). -/
def firFilter (preset : Nat) : List Int × Nat :=
  let free := (List.range 64).map fun i => Config.firTap preset i
  if firMeets (presetLog2 preset) free Config.firFraction then (free, Config.firFraction)
  else ([3768, -28508, 115016, -28508, 3768], 16)

/-- The output of the FIR filter on its values, newest first, saturated to 32 bits (R323). -/
def firOutput (preset : Nat) (vs : List Int) : BitVec 32 :=
  let f := firFilter preset
  let sum := (List.zipWith (fun (h v : Int) => h * v) f.1 vs).sum
  let q := sum / 2 ^ f.2
  BitVec.ofInt 32 (saturateTo 32 (if sum % 2 ^ f.2 ≠ 0 ∧ Config.firRoundsUp sum then q + 1 else q))

/-- One core cycle of a chain: the decimator, the shift and the FIR filter (R323). -/
def Chain.cycle (k : Chain) (preset : Nat) (x : Int) : Chain × Option (BitVec 32) :=
  let r := k.cic (presetLog2 preset) x
  match r.2 with
  | none => (r.1, none)
  | some v =>
    let vs := (cicShift (presetLog2 preset) v :: k.fir).take 64
    ({ r.1 with fir := vs }, some (firOutput preset vs))

/-- The value of a tap at a position, or at the highest valid one (R322). -/
def tapValue (position : Nat) (c : TapCycle) : Option Int :=
  match c.getD position none with
  | some v => some v
  | none => c.reverse.findSome? id

/-- The value of a tap scaled to a signed 16-bit number with full scale at 2^15 (R322). -/
def tapScaled (tap : Nat) (v : Int) : Int := saturateTo 16 (if tap ≤ 3 then adcScaled v.toNat else v)

/-! ### Levels (R328) -/

/-- The greatest such level from `lo` upwards below `lo` + 2^fuel. -/
def searchLevel (num den : Nat) : Nat → Int → Int
  | 0, lo => lo
  | n + 1, lo => if levelAtMost num den (lo + 2 ^ n) then searchLevel num den n (lo + 2 ^ n) else searchLevel num den n lo

/-- The level in 0.01 dB of a power `num`/`den`; between two steps the rounding is free (DESIGN CHOICE, log entries 14, 15). -/
def levelOf (num den : Nat) : Int :=
  let l := searchLevel num den 16 (-32768)
  if Config.levelRoundsUp num den ∧ levelAtMost den num (-l) = false then l + 1 else l

/-- The level of a detector (R328): in value mode of an amplitude whose square is `num`/`den`, in square mode of a power
`num`/`den`; a power that is not positive has a free level. -/
def detectorLevel (square : Bool) (num : Int) (den draw : Nat) : Int :=
  if num ≤ 0 then Config.levelOfZero draw
  else if square then levelOf num.toNat (den * 2 ^ 30)
  else levelOf (2 * num.toNat) (den * 2 ^ 62)

/-! ### Chains (R321, R325 to R327) -/

/-- A chain number. -/
abbrev ChainId := Fin 8

/-- The chain, and a change of it. -/
def State.chain (s : State) (c : ChainId) : Chain := s.mon.chains[c]
def State.onChain (s : State) (c : ChainId) (f : Chain → Chain) : State := { s with mon.chains := vmod s.mon.chains c f }

/-- The configuration whose change unsettles a chain: its parameters and the core clock (R325). -/
def State.chainConf (s : State) (c : ChainId) : List Int :=
  [s.cfg Param.dchEnable c.val, s.cfg Param.dchTap c.val, s.cfg Param.dchSampleIndex c.val,
    s.cfg Param.dchInputMode c.val, s.cfg Param.dchPreset c.val, (s.coreKHz : Int)]

/-- The chain squares its input (R322). -/
def State.chainSquare (s : State) (c : ChainId) : Bool := s.cfgB Param.dchInputMode c.val

/-- RXD is held in a Unit or Section reset (R326). -/
def State.receiveHeld (s : State) : Bool := s.mgt.resetting.flatten.any fun p => decide (p.sec = 6)

/-- The stage that feeds the tap is gated or stopped (R326). -/
def State.sourceGone (s : State) (c : ChainId) : Bool :=
  let tap := s.cfgN Param.dchTap c.val
  if tap ≤ 11 then
    decide (2 ≤ s.deviceState) || (decide (4 ≤ tap) && s.receiveHeld)
  else !s.ldtOn

/-- A new detector window: the three detectors restart (R329, R331). -/
def Chain.restart (k : Chain) : Chain :=
  { k with peakMax := 0, peakN := 0, rmsSum := 0, rmsN := 0, envNum := 0, envExp := 0, fresh := true }

/-- The capture is armed or running. -/
def Capture.live (k : Capture) : Bool := decide (k.state = 1 ∨ k.state = 2)

/-- Abort a capture (R345). -/
def abortCapture (cause : Nat) (s : State) : State :=
  if s.mon.cap.live then
    raise 200 { s with mon.cap.state := 4, mon.cap.abortCause := cause, mon.cap.endPos := s.mon.cap.pos }
  else s

/-- The chain that a capture takes its data from (Table 10.6). -/
def State.capturedChain (s : State) : Option ChainId :=
  let src := s.cfgN Param.capSource
  match h : decide (4 ≤ src ∧ src ≤ 11) with
  | true => some ⟨src - 4, by have := of_decide_eq_true h; omega⟩
  | false => none

/-- The chain is cleared and not settled (R325, R331): its output reads 0x8000_0000, its detectors hold their levels, and a
capture of it is aborted. -/
def unsettle (c : ChainId) (s : State) : State :=
  let s := s.onChain c fun k =>
    { k.restart with settled := false, conf := s.chainConf c, since := s.now, out := 0x80000000, index := 0,
                     ints := List.replicate 5 0, combs := List.replicate 5 0, phase := 0, fir := [] }
  if s.capturedChain = some c then abortCapture 4 s else s

/-- Judge a chain after a change: a changed configuration, a source that has gone and one that has come back (R325,
R326). -/
def judgeChain (c : ChainId) (s : State) : State :=
  let k := s.chain c
  let s := if k.conf = s.chainConf c then s else unsettle c s
  let gone := s.sourceGone c
  if gone && !k.noSource then
    let s := if s.capturedChain = some c then abortCapture 3 s else s
    raiseFor 194 c.val ((unsettle c s).onChain c fun k => { k with noSource := true })
  else if !gone && k.noSource then unsettle c (s.onChain c fun k => { k with noSource := false })
  else s

/-- Judge every chain. -/
def judgeChains (s : State) : State := overAll (indices 8) judgeChain s

/-- The settling time of a chain in µs. -/
def State.settlingUs (s : State) (c : ChainId) : Nat := settlingCycles (s.cfgN Param.dchPreset c.val) * 1000 / s.coreKHz

/-- `CHAIN_SETTLED` (R325): the settling count has elapsed. -/
def execChainSettled (chain : Fin 8) (s : State) : Result :=
  let k := s.chain chain
  if s.cfgB Param.dchEnable chain.val = false ∨ k.settled ∨ s.sourceGone chain ∨ s.deviceState = 4 then .next s
  else
    let s := s.reach (k.since + s.settlingUs chain)
    .next (s.onChain chain fun k => { k with settled := true, conf := s.chainConf chain })

/-! ### Detectors (R328 to R331) -/

/-- Fields of the detector words in force (Table 10.11). -/
def Chain.field (w : Word) (lo len : Nat) : Nat := bits w.toNat lo len
def Chain.signedField (w : Word) (lo : Nat) : Int := intOfNat 8 (bits w.toNat lo 8)

/-- Compare a new level with the thresholds (R330). -/
def judgeCrossing (c : ChainId) (level : Int) (s : State) : State :=
  let k := s.chain c
  if Chain.field k.thresh 18 1 = 0 then s
  else
    let above := decide (50 * Chain.signedField k.thresh 0 < level)
    let below := decide (level < 50 * Chain.signedField k.thresh 8)
    let up := above && !k.above && !k.fresh
    let down := below && !k.below && !k.fresh
    let s := s.onChain c fun k =>
      { k with above := above, below := below, fresh := false, crossUp := k.crossUp || up, crossDown := k.crossDown || down }
    let onTrigger := fun (s : State) => decide (s.cfgN Param.capTriggerChain = c.val)
    let s := if up then raiseFor 192 c.val (if onTrigger s then fireCapture 1 s else s) else s
    if down then raiseFor 193 c.val (if onTrigger s then fireCapture 2 s else s) else s

/-- The peak detector takes an output; the second component is a new level. -/
def Chain.takePeak (k : Chain) (square : Bool) (a draw : Nat) : Chain × Option Int :=
  let m := max k.peakMax a
  if 2 ^ Chain.field k.window 0 5 ≤ k.peakN + 1 then
    let l := detectorLevel square (if square then m else m * m) 1 draw
    ({ k with peakMax := 0, peakN := 0, peak := some l }, some l)
  else ({ k with peakMax := m, peakN := k.peakN + 1 }, none)

/-- The RMS detector takes an output. -/
def Chain.takeRms (k : Chain) (square : Bool) (y : Int) (draw : Nat) : Chain × Option Int :=
  let sum := k.rmsSum + if square then y else y * y
  let n := 2 ^ Chain.field k.window 8 5
  if n ≤ k.rmsN + 1 then
    let l := detectorLevel square sum n draw
    ({ k with rmsSum := 0, rmsN := 0, rms := some l }, some l)
  else ({ k with rmsSum := sum, rmsN := k.rmsN + 1 }, none)

/-- The envelope detector takes an output: e becomes e + (|y| - e) / 2^a exactly. -/
def Chain.takeEnv (k : Chain) (square : Bool) (a draw : Nat) : Chain × Option Int :=
  let rises := decide (k.envNum < a * 2 ^ k.envExp)
  let sh := if rises then Chain.field k.window 16 4 else Chain.field k.window 24 5
  let num := k.envNum * 2 ^ sh + a * 2 ^ k.envExp - k.envNum
  let ex := k.envExp + sh
  let l := detectorLevel square (if square then num else num * num) (if square then 2 ^ ex else 2 ^ ex * 2 ^ ex) draw
  ({ k with envNum := num, envExp := ex, env := some l }, some l)

/-- The three detectors of a chain take an output, and the one that `SOURCE` names is compared. -/
def detect (c : ChainId) (y : Int) (s : State) : State :=
  let square := s.chainSquare c
  let a := y.natAbs
  let p := (s.chain c).takePeak square a s.free
  let r := p.1.takeRms square y (s.free + 1)
  let e := r.1.takeEnv square a (s.free + 2)
  let s := { (s.onChain c fun _ => e.1) with free := s.free + 3 }
  let level := match Chain.field e.1.thresh 16 2 with
    | 0 => p.2
    | 1 => r.2
    | _ => e.2
  match level with
  | some l => judgeCrossing c l s
  | none => s

/-- The queue of a chain (Table 14.7). -/
def chainQueue (c : ChainId) : QueueId := ⟨16 + c.val, by omega⟩

/-- Write bytes into the capture region at the running position, circularly (R344). -/
def captureBytesAt (bs : List Byte) (s : State) : State :=
  let size := s.captureBytes
  let k := s.mon.cap
  if k.live = false ∨ (k.state = 2 ∧ k.left = 0) then s
  else
    let s := bulkStore (captureBase + k.pos) bs 2 s
    { s with mon.cap.pos := (k.pos + bs.length) % size,
             mon.cap.left := if k.state = 2 then k.left - bs.length else k.left }

/-- A settled output goes to the detectors, `DCH_OUT`, the stream queue and a capture of the chain (R327, R330). -/
def deliverOutput (chain : ChainId) (y : BitVec 32) (s : State) : State :=
  let k := s.chain chain
  let s1 := detect chain y.toInt (s.onChain chain fun k => { k with out := y, index := k.index + 1 })
  let s1 :=
    if s1.cfgB Param.dchStream chain.val then
      let q := chainQueue chain
      let w := BitVec.ofNat 64 (y.toNat + fieldAt k.index 32 32)
      let r := hwPush q [w] s1
      if r.1 then r.2 else r.2.onChain chain fun k => { k with drops := satInc 32 k.drops }
    else s1
  if s1.capturedChain = some chain then captureBytesAt (leBytes 4 y.toNat) s1 else s1

/-- The input of a chain in a core cycle of its tap (R322, R326): zero without a source, else the tap's value, or its power. -/
def State.chainInputOf (s : State) (c : ChainId) (cycle : TapCycle) : Int :=
  if s.sourceGone c then 0
  else
    let v := match tapValue (s.cfgN Param.dchSampleIndex c.val) cycle with
      | some v => tapScaled (s.cfgN Param.dchTap c.val) v
      | none => saturateTo 16 (Config.emptyTap s.free 0)
    chainInput (s.chainSquare c) v

/-- One core cycle of a chain: an output is suppressed unless the chain is settled and has a source (R322 to R327). -/
def chainCycle (c : ChainId) (s : State) (cycle : TapCycle) : State :=
  let r := (s.chain c).cycle (s.cfgN Param.dchPreset c.val) (s.chainInputOf c cycle)
  let s1 := { (s.onChain c fun _ => r.1) with free := s.free + 1 }
  match r.2 with
  | some y => if r.1.settled && !r.1.noSource then deliverOutput c y s1 else s1
  | none => s1

/-- `CHAIN_OUTPUT` (R322 to R327): core cycles of the chain's tap pass through the chain, and each output that falls in them is delivered
(DESIGN CHOICE, log entries 5, 77). -/
def execChainOutput (chain : Fin 8) (cycles : List TapCycle) (s : State) : Result :=
  if s.cfgB Param.dchEnable chain.val = false ∨ s.deviceState = 4 then .next s
  else .next (cycles.foldl (chainCycle chain) s)

/-- A field of a shadow word cut to the largest value of its range (R329). -/
def cutField (w lo len top : Nat) : Nat := fieldAt (min (bits w lo len) top) lo len

/-- The window and threshold words that the shadow words apply. -/
def appliedWindow (w : Word) : Word :=
  BitVec.ofNat 32 (cutField w.toNat 0 5 24 + cutField w.toNat 8 5 20 + cutField w.toNat 16 4 15 + cutField w.toNat 24 5 23)
def appliedThresh (w : Word) : Word :=
  BitVec.ofNat 32 (cutField w.toNat 0 8 255 + cutField w.toNat 8 8 255 + cutField w.toNat 16 2 2 + cutField w.toNat 18 1 1)

/-- `DET_APPLY` (R329, R73): a write with `APPLY` = 1 copies the shadow words and restarts the detectors. -/
def execDetApply (seat : SeatId) (chain : Fin 8) (value : Word) (s : State) : Result :=
  whenOpen seat ⟨12, 1, 0⟩ true (.detApply seat chain value) s <|
  .next (unitWrite seat ⟨12, 1, 0⟩ s fun s =>
    if value.getLsbD 0 = false then s
    else s.onChain chain fun k =>
      { k.restart with window := appliedWindow k.windowSh, thresh := appliedThresh k.threshSh })

/-! ### Capture (R343 to R345) -/

/-- The parameters and the chain configuration whose change aborts a capture (R345). -/
def State.captureConf (s : State) : List Int :=
  [s.cfg Param.capRegionKib, s.cfg Param.capSource, s.cfg Param.capTrigger, s.cfg Param.capTriggerChain,
    s.cfg Param.capTriggerEvent, s.cfg Param.capPretriggerPct, s.cfg Param.capHistLog2Cycles] ++
    (s.capturedChain.map s.chainConf).getD []

/-- The stage that feeds sources 0 to 3 and 12 is gated (R326, Table 10.7). -/
def State.captureGated (s : State) : Bool :=
  let src := s.cfgN Param.capSource
  if 4 ≤ src ∧ src ≤ 11 then decide (s.deviceState = 4)
  else decide (2 ≤ s.deviceState) || (decide (src = 3) && !s.ldtOn) || (decide (src = 1 ∨ src = 2) && s.receiveHeld)

/-- Judge a running capture (R345, Table 10.7). -/
def judgeCapture (s : State) : State :=
  if s.mon.cap.live = false then s
  else if s.mon.cap.conf ≠ s.captureConf then abortCapture 2 s
  else if s.captureGated then abortCapture 3 s
  else match s.capturedChain with
    | some c => if (s.chain c).noSource then abortCapture 3 s else if (s.chain c).settled then s else abortCapture 4 s
    | none => s

/-- `CAP_ARM` (R344): a capture starts afresh. -/
def execCapArm (req : Request) (s : State) : Result :=
  .next (serveTarget req s [(12, 3)] true fun s =>
    if req.payload ≠ [] then respond req (refusal stBadValue) s
    else
      let s1 := { s with mon.cap := { count := s.mon.cap.count, state := 1, conf := s.captureConf } }
      respond req okReply (judgeCapture s1))

/-- `CAP_STOP` (R345). -/
def execCapStop (req : Request) (s : State) : Result :=
  .next (serveTarget req s [(12, 3)] true fun s =>
    if req.payload ≠ [] then respond req (refusal stBadValue) s else respond req okReply (abortCapture 1 s))

/-- `CAP_TRIGGER` (R344): trigger 0, ignored while no capture is armed or another trigger is set (DEDUCED, log entry 78). -/
def execCapTrigger (req : Request) (s : State) : Result :=
  .next (serveTarget req s [(12, 3)] true fun s =>
    if req.payload ≠ [] then respond req (refusal stBadValue) s else respond req okReply (fireCapture 0 s))

/-- Values as bytes, limited to signed 8 bits. -/
def signedBytes (vs : List Int) : List Byte := vs.map fun v => BitVec.ofInt 8 (saturateTo 8 v)

/-- The bytes that one core cycle of a source adds to the capture region (Table 10.6): the samples channel by channel, and for positions the
valid mask in 32 bytes and 96 zero bytes. -/
def captureCycleBytes (c : CaptureCycle) (positions : Bool) : List Byte :=
  if positions then
    let mask := (List.range 32).map fun i =>
      BitVec.ofNat 8 ((List.range 8).map fun j => bit (c.valid.getD (8 * i + j) false) * 2 ^ j).sum
    ((List.range 4).flatMap fun ch => signedBytes ((List.range 224).map fun i => (c.samples.getD ch []).getD i 0)) ++ mask ++
      List.replicate 96 0
  else (List.range 4).flatMap fun ch => signedBytes ((List.range 256).map fun i => (c.samples.getD ch []).getD i 0)

/-- The ADC code histograms, 4 channels of 256 bins, with some more core cycles: every sample is counted by its unsigned code (Table 10.6,
R344). -/
def histogramAdd (counts : List Nat) (cs : List CaptureCycle) : List Nat :=
  (List.range 1024).map fun i => counts.getD i 0 +
    (cs.map fun c => ((c.samples.getD (i / 256) []).filter fun v => decide (v + 128 = ((i % 256 : Nat) : Int))).length).sum

/-- The capture is complete (R344). -/
def finishCapture (s : State) : State :=
  raise 199 { s with mon.cap.state := 3, mon.cap.endPos := s.mon.cap.pos, mon.cap.count := satInc 32 s.mon.cap.count }

/-- Core cycles of sources 0 to 3 are written, circularly, from the arming on, and the histograms of source 12 accumulate from the trigger on
(R344). -/
def captureCycles (cycles : List CaptureCycle) (s : State) : State :=
  let src := s.cfgN Param.capSource
  if src = 12 then
    if s.mon.cap.state ≠ 2 then s
    else
      let cs := cycles.take s.mon.cap.left
      let counts := histogramAdd s.mon.cap.hist cs
      let s := bulkStore captureBase (counts.flatMap (leBytes 8)) 2 s
      { s with mon.cap.hist := counts, mon.cap.left := s.mon.cap.left - cs.length, mon.cap.pos := 8192 }
  else cycles.foldl (fun s c => captureBytesAt (captureCycleBytes c (decide (2 ≤ src))) s) s

/-- `CAPTURE_DONE` (R343, R344): what the engine writes up to now, and the end of the capture if the part after the trigger is complete. For
chain outputs the engine has written output by output. For the other sources `cycles` are their core cycles since the arming or since the last
such command; `before` of them came first whose samples later ones have overwritten (DESIGN CHOICE, log entry 77). -/
def execCaptureDone (before : Nat) (cycles : List CaptureCycle) (s : State) : Result :=
  if s.mon.cap.live = false then .next s
  else
    let skipped := if s.mon.cap.state = 1 ∧ s.cfgN Param.capSource ≤ 3 then before * 1024 else 0
    let s := if s.capturedChain.isSome then s
      else captureCycles cycles { s with mon.cap.pos := (s.mon.cap.pos + skipped) % s.captureBytes }
    .next (if s.mon.cap.state = 2 ∧ s.mon.cap.left = 0 then finishCapture s else s)

/-! ### The gain loop of CNV (R112 to R116) -/

/-- The channels of a gain set (R114); a set that `link` does not form has none. -/
def State.gainSet (s : State) (i : Fin 4) : List (Fin 4) :=
  match s.cfgN Param.agcLink with
  | 0 => [i]
  | 1 => if i = 0 then [0, 1] else if i = 1 then [2, 3] else []
  | _ => if i = 0 then [0, 1, 2, 3] else []

/-- The chain that the loop reads for a channel (R113). -/
def State.gainChain (s : State) (ch : Fin 4) : Option ChainId :=
  let n := s.cfgN Param.agcChainBase + ch.val
  match h : decide (n < 8) with
  | true => some ⟨n, of_decide_eq_true h⟩
  | false => none

/-- The chain can be used for its channel (R116). -/
def State.gainUsable (s : State) (ch : Fin 4) : Bool :=
  match s.gainChain ch with
  | none => false
  | some c => (s.chain c).settled && decide (s.cfgN Param.dchTap c.val = ch.val)

/-- The RMS level that the loop reads, in 0.01 dBFS. -/
def State.gainLevel (s : State) (ch : Fin 4) : Option Int := (s.gainChain ch).bind fun c => (s.chain c).rms

/-- The upper and lower level of the reserved crossing pair (R113). -/
def State.gainUpper (s : State) : Int := 50 * s.cfg Param.agcTargetDbfsX2 + 25 * s.cfg Param.agcHysteresisDbX2
def State.gainLower (s : State) : Int := 50 * s.cfg Param.agcTargetDbfsX2 - 25 * s.cfg Param.agcHysteresisDbX2

/-- The decision period in µs (R114). -/
def State.gainPeriod (s : State) (set : Fin 4) : Nat :=
  ((s.gainSet set).filterMap fun ch => (s.gainChain ch).map s.settlingUs).foldl max (s.cfgN Param.agcDwellUs)

/-- Move the gain of a channel by one step if it is not at its limit; the second component says that it was. -/
def stepGain (up : Bool) (g : Nat) : Nat × Bool :=
  if up then (if g < 24 then (g + 1, false) else (g, true)) else (if 0 < g then (g - 1, false) else (g, true))

/-- Set or clear channels in a mask. -/
def maskWith (m : BitVec 4) (chs : List (Fin 4)) (on : Bool) : BitVec 4 :=
  let w := BitVec.ofNat 4 (chs.map fun c => 2 ^ c.val).sum
  if on then m ||| w else m &&& ~~~w

/-- A decision of a gain set (R106, R114 to R116). Where the channels of a set hold different gains each steps by itself, and one that is at its
limit marks the whole set (DESIGN CHOICE, log entry 98). -/
def decideGain (chs : List (Fin 4)) (s : State) : State :=
  if chs.all s.gainUsable = false then
    let was := chs.all fun c => s.cnv.held.getLsbD c.val
    let s1 := { s with cnv.held := maskWith s.cnv.held chs true }
    if was then s1 else raise 90 s1
  else
    let s := { s with cnv.held := maskWith s.cnv.held chs false }
    let falls := chs.any fun c => (s.gainLevel c).any fun l => decide (s.gainUpper < l)
    let rises := chs.all fun c => (s.gainLevel c).any fun l => decide (l < s.gainLower)
    if falls || rises then
      let gains := chs.foldl (fun (g : Vector Nat 4) (c : Fin 4) => vmod g c fun x => (stepGain (!falls) x).1) s.cnv.gains
      let limit := chs.any fun c => (stepGain (!falls) s.cnv.gains[c]).2
      let was := chs.any fun c => s.cnv.atLimit.getLsbD c.val
      let s1 := { setGains gains s with cnv.atLimit := maskWith s.cnv.atLimit chs limit }
      if limit && !was then raise 89 s1 else s1
    else { s with cnv.atLimit := maskWith s.cnv.atLimit chs false }

/-- `AGC_DECISION` (R114): in automatic mode each gain set makes one decision per decision period. -/
def execAgcDecision (set : Fin 4) (s : State) : Result :=
  if s.cfg Param.agcMode ≠ 0 ∨ s.gainSet set = [] ∨ 2 ≤ s.deviceState then .next s
  else
    let s := s.reach (s.cnv.agcAt[set] + s.gainPeriod set)
    .next (decideGain (s.gainSet set) { s with cnv.agcAt := s.cnv.agcAt.set set s.now })

/-! ### Commits, power states and resets (R325, R345, R346) -/

/-- MON after a commit. -/
def monCommitted (s : State) : State := judgeChains (judgeCapture s)

/-- MON on entry into a power state or on exit (Table 10.7): in P4 every chain stops. -/
def monPower (s : State) : State :=
  let s := judgeCapture (judgeChains s)
  if s.deviceState = 4 then abortCapture 3 (overAll (indices 8) unsettle s) else s

/-- A reset of one MON target (Table 10.7): a chain, or with `DET` every chain, is not settled; the bits of `DET_STATUS` are those of `DET`. -/
def resetMonTarget (p : Path) (s : State) : State :=
  match p.unit with
  | 0 =>
    let c : ChainId := ⟨p.inst % 8, Nat.mod_lt _ (by decide)⟩
    unsettle c (s.onChain c fun k =>
      { windowSh := k.windowSh, threshSh := k.threshSh, window := k.window, thresh := k.thresh, peak := k.peak, rms := k.rms,
        env := k.env, above := k.above, below := k.below, crossUp := k.crossUp, crossDown := k.crossDown, noSource := k.noSource })
  | 1 =>
    overAll (indices 8) unsettle { s with mon.chains := vmap s.mon.chains fun k =>
      { noSource := k.noSource, conf := k.conf, drops := k.drops } }
  | 2 => { s with mon.cleared := ⟨12, 2, 0⟩ :: s.mon.cleared }
  | _ => { s with mon.cap := {} }

end Sys2Proof.Machine
end

