-- ==== Sys2Proof/Machine/CommitRules.lean ====
section
/-!
DEFINITION. The rules that `COMMIT_CHECK` and `COMMIT_APPLY` evaluate (R13, R64 to R72, R590): which records change the
running configuration, what a commit would leave, for what it is refused, its category and its interruption. `cand` is the
state with the slate values in the running configuration.
-/
namespace Sys2Proof.Machine

/-! ### Parameters and directions (R22) -/

/-- The row that a parameter key names. -/
def keyRow (k : Nat) : Option ParamRow := findParam (keyPath k).sec (keyPath k).unit (keyNum k)

/-- The directions in which a parameter of a data-plane Unit acts (R22). `CNV.CAL`, `FEH.HKD` and `FEH.ABC` take the transmit
boundary. In HST the receivers carry the transmit direction of the line, and the transmitters the receive direction. -/
def paramDirs (p : ParamRow) : List Dir :=
  let both : List Dir := [.tx, .rx]
  match p.sec with
  | 5 => if p.unit < 4 ∨ p.unit = 10 then [.rx] else [.tx]
  | 6 => [.rx]
  | 7 => [.tx]
  | 8 => if p.unit = 0 ∨ p.unit = 2 then [.tx] else [.rx]
  | 9 =>
    if p.unit = 0 then (if p.num = 0 ∨ p.num = 2 ∨ p.num = 3 then [.tx] else if p.num = 8 then both else [.rx])
    else if p.unit = 1 ∧ p.num = 4 then [.rx] else both
  | 10 => if p.num = 2 then [.tx] else if 4 ≤ p.num ∧ p.num ≤ 6 then [.rx] else both
  | 11 => if p.unit = 0 then [.tx] else [.rx]
  | 13 =>
    if p.unit < 16 then
      (match p.num with
        | 1 | 2 | 7 | 8 | 9 | 10 => [.tx]
        | 4 | 5 | 6 => [.rx]
        | _ => both)
    else if p.unit = 16 then (match p.num with | 2 | 5 => [.tx] | 3 => [.rx] | _ => both)
    else both
  | _ => [.tx]

/-- The directions of a parameter key (DEDUCED, log entry 59). -/
def keyDirs (k : Nat) : List Dir := ((keyRow k).map paramDirs).getD []

/-- A parameter key belongs to a Unit whose commits cross a superframe boundary: the data plane but for `DOM.FLT` (R22). -/
def keyCrosses (k : Nat) : Bool := isDataPlane (keyPath k).sec (keyPath k).unit && decide ((keyPath k).sec ≠ 15)

/-- The running value of a parameter key. -/
def State.valueOf (s : State) (k : Nat) : Int := (nmGet s.mgt.running k).getD (keyDefault k)

/-! ### What a commit carries -/

/-- Every target for which a seat holds a non-empty slate, in ascending order. -/
def Seat.slateTargets (q : Seat) : List Path :=
  let ps := q.slate.map (fun e => keyPath e.1) ++ (if q.nleSlate = [] then [] else [⟨6, 2, 0⟩]) ++
    (if q.dpdSlate = [] then [] else [⟨7, 3, 0⟩])
  (ps.eraseDups).mergeSort fun a b => decide (a.key ≤ b.key)

/-- The slates of a seat for some targets. -/
def Seat.slatesFor (q : Seat) (ps : List Path) : SlateSet :=
  { recs := q.slate.filter fun e => ps.contains (keyPath e.1)
    nle := if ps.contains ⟨6, 2, 0⟩ then q.nleSlate else []
    dpd := if ps.contains ⟨7, 3, 0⟩ then q.dpdSlate else [] }

/-- The running pre-distortion coefficients with some replaced (DEDUCED, log entry 67). -/
def withDpd (old new : List DpdCoef) : List DpdCoef :=
  new.foldl (fun l c => l.filter (fun d => !(d.channel == c.channel && d.order == c.order && d.delay == c.delay)) ++ [c]) old

/-- A pre-distortion coefficient as it runs: unloaded ones are zero except that of order 1 and delay 0 (R182). -/
def dpdAt (l : List DpdCoef) (channel order delay : Nat) : Int :=
  match l.reverse.find? fun c => c.channel == channel && c.order == order && c.delay == delay with
  | some c => c.coef
  | none => if order = 1 ∧ delay = 0 then 16777216 else 0

/-- The part of the slates that differs from the running configuration (R67, R70). -/
def State.changes (s : State) (t : SlateSet) : SlateSet :=
  { recs := t.recs.filter fun e => decide (s.valueOf e.1 ≠ e.2)
    nle := if s.rxd.nleSeatList && !s.rxd.nleAdapting && s.rxd.nleCoefs.isNone && decide (t.nle = s.rxd.nleList) then [] else t.nle
    dpd := t.dpd.filter fun c => decide (dpdAt s.txd.dpdCoefs c.channel c.order c.delay ≠ c.coef) }

/-- The changes leave everything as it is (R70). -/
def SlateSet.empty (t : SlateSet) : Bool := t.recs.isEmpty && t.nle.isEmpty && t.dpd.isEmpty

/-- The targets whose running values change, in ascending order. -/
def SlateSet.targets (t : SlateSet) : List Path :=
  let ps := t.recs.map (fun e => keyPath e.1) ++ (if t.nle = [] then [] else [⟨6, 2, 0⟩]) ++
    (if t.dpd = [] then [] else [⟨7, 3, 0⟩])
  (ps.eraseDups).mergeSort fun a b => decide (a.key ≤ b.key)

/-- The state with the changed values running: what a commit would leave (R71). -/
def State.withRecs (s : State) (recs : NMap Int) : State :=
  { s with mgt.running := recs.foldl (fun m e => setValue m e.1 e.2) s.mgt.running }

/-- The state as it will run: what has been committed while CORE was stopped takes effect with it (R22). -/
def State.withStored (s : State) : State := s.withRecs s.mgt.stored

/-- Some changed key belongs to a parameter (DEDUCED, log entry 63). -/
def touches (recs : NMap Int) (p : ParamRow) : Bool :=
  recs.any fun e => decide ((keyPath e.1).sec = p.sec ∧ p.unit ≤ (keyPath e.1).unit ∧ (keyPath e.1).unit < p.unit + p.span ∧
    keyNum e.1 = p.num)

/-- Some changed key belongs to a pair group (Table 2.12). -/
def touchesPair (recs : NMap Int) (g : Nat) : Bool :=
  recs.any fun e => ((keyRow e.1).map fun p => p.pairs.contains g).getD false

/-! ### The transmit format (R168 to R170, R185) -/

/-- The matched entropy H_m of the running values. -/
def State.matched (s : State) : Nat :=
  matchedEntropy (s.cfgN Param.psfSymbolRateGbdX8) (payloadSymbols (s.cfgN Param.pltPilotSpacing)) (s.cfgN Param.beFec)
    (s.cfgN Param.lfrCapacity25g) (s.cfgN Param.shpConstellation)

/-- H as the running values give it: H_m, a larger value, or that of uniform 16QAM in an interoperable mode. -/
def State.lineEntropy (s : State) : Nat :=
  if s.txInterop then 256 else if s.cfg Param.shpEntropyX64 = 0 then s.matched else s.cfgN Param.shpEntropyX64

/-- The values that a hitless rate change alters, as the running configuration gives them. -/
def State.rateValues (s : State) : RateValues :=
  { capacity := s.cfgN Param.lfrCapacity25g, entropy := s.lineEntropy, pilots := s.cfgN Param.pltPilotSpacing }

/-- `PAIR_MISMATCH` 1 (R170); in an interoperable mode the values are not used (R185, R252). -/
def State.formatBad (s : State) : Bool :=
  !s.txInterop &&
    (!entropyFits (s.cfgN Param.shpConstellation) s.lineEntropy ||
      (decide (s.cfg Param.shpEntropyX64 ≠ 0) && decide (s.cfgN Param.shpEntropyX64 < s.matched)) ||
      decide (4 * s.cfgN Param.lfrOtucN < s.cfgN Param.lfrCapacity25g))

/-! ### Values that fail a check (R590) -/

/-- R128: a dispersion that the commit writes, changed or not, or one that value mode uses, beyond D_max. -/
def dispersionBad (written recs : NMap Int) (c : State) : Bool :=
  let d := Param.cdeDispersionPsNm
  decide ((maxDispersion c.rxSymbolRate).toNat < (c.cfg d).natAbs) &&
    (touches written d || (decide (c.cfg Param.cdeCdMode = 0) &&
      (touches recs Param.cdeCdMode || touches recs Param.trcSymbolRateGbdX8 || touches recs Param.bdeFec)))

/-- R181: the sum of one channel's taps. -/
def State.tapsBad (s : State) : Bool :=
  (List.range 4).any fun c =>
    decide (65536 < ((List.range 33).map fun t => (s.cfg Param.psfPreemphTaps 0 (33 * c + t)).natAbs).sum)

/-- The units of a used row are those of its type (Table 7.3). -/
def State.unitsBad (s : State) (c : Nat) : Bool :=
  let u := s.unitsOf c
  match s.clientType c with
  | 1 | 7 => decide (u ≠ 4)
  | 2 => decide (u ≠ 8)
  | 3 => decide (u ≠ 16)
  | 4 => decide (u ≠ 32)
  | 5 => decide (u ≠ 64)
  | 6 | 8 => decide (64 < u)
  | _ => decide (u % 5 ≠ 0 ∨ 125 < u)

/-- The units of two used rows overlap. -/
def State.unitsOverlap (s : State) : Bool :=
  s.usedClients.any fun a => s.usedClients.any fun b =>
    decide (a < b ∧ s.firstUnit a < s.firstUnit b + s.unitsOf b ∧ s.firstUnit b < s.firstUnit a + s.unitsOf a)

/-- Ports in use. -/
def State.usedPorts (s : State) : List Nat := (List.range 16).filter fun p => decide (s.portType p ≠ 0)

/-- R353: an Ethernet port off its grid, two ports that overlap, or a port beyond lane 15. -/
def State.portsBad (s : State) : Bool :=
  s.usedPorts.any fun p =>
    let n := s.portLanes p
    decide (16 < p + n) || (decide (s.portType p ≠ 13) && decide (p % n ≠ 0)) ||
      s.usedPorts.any fun q => decide (p < q ∧ q < p + n)

/-- The port and type of a physical lane by that order, if it has one. -/
def State.lanePort (s : State) (l : Nat) : Option Nat :=
  let n := physical s.heldReversed l
  s.usedPorts.find? fun p => decide (p ≤ n ∧ n < p + s.portLanes p)

/-- R353: a lane of a port at another rate than its type requires; a Transparent Lane Mode lane runs at rates 1 to 4. -/
def State.laneRateBad (s : State) (l : Nat) : Bool :=
  match s.lanePort l with
  | none => false
  | some p =>
    let r := s.cfgN Param.lnRate 0 0 l
    match (portShape (s.portType p) 1).2.1 with
    | some want => decide (r ≠ want)
    | none => decide (r = 0)

/-- The PHYs of a FlexE group: ports of types 2, 3, 5, 6, 8 and 9 that name it (R356). -/
def State.phyPorts (s : State) (g : Nat) : List Nat :=
  (List.range 16).filter fun p => s.isPhy p g

/-- R356: PHYs of different rates in a group, or more than eight (DEDUCED, log entry 65). -/
def State.physBad (s : State) : Bool :=
  (List.range 4).any fun g =>
    let rates := (s.phyPorts g).map fun p => (portShape (s.portType p) 1).2.2
    decide (8 < rates.length) || rates.any fun r => decide (rates.head? ≠ some r)

/-- R358: `ssc_accept` on a Transparent Lane Mode lane or beside `timing_transparent`. -/
def State.sscBad (s : State) (l : Nat) : Bool :=
  s.cfgB Param.lnSscAccept 0 0 l &&
    (s.cfgB Param.lnTimingTransparent 0 0 l || ((s.lanePort l).map fun p => decide (s.portType p = 13)).getD false)

/-- R360: the sum of the magnitudes of a lane's FFE taps. -/
def State.ffeBad (s : State) (l : Nat) : Bool :=
  decide (64 < ((List.range 6).map fun e => (s.cfg Param.lnTxFfe 0 e l).natAbs).sum)

/-- The region of a spill queue in KiB: offset and end (R449). -/
def State.regionSpan (s : State) (q : Nat) : Nat × Nat :=
  let o := s.cfgN Param.spqRegionOffsetKib q
  (o, o + 64 * 2 ^ s.cfgN Param.spqRegionKib q)

/-- R455: a region that overlaps another or leaves the spill area. -/
def State.regionBad (s : State) (q : Nat) : Bool :=
  let a := s.regionSpan q
  decide (6144 < a.2) || (List.range 24).any fun r =>
    decide (r ≠ q ∧ (s.regionSpan r).1 < a.2 ∧ a.1 < (s.regionSpan r).2)

/-- R469: a comparator window with its limits reversed. -/
def State.windowBad (s : State) : Bool :=
  (List.range 8).any fun n => decide (s.cfg Param.hkaCompUpper 0 n < s.cfg Param.hkaCompLower 0 n)

/-- R474: a code outside its limits, or limits reversed. -/
def State.codesBad (s : State) : Bool :=
  (List.range 12).any fun n =>
    decide (s.cfg Param.hkdCode 0 n < s.cfg Param.hkdLimitLow 0 n ∨ s.cfg Param.hkdLimitHigh 0 n < s.cfg Param.hkdCode 0 n)

/-- R536: a client in two groups. -/
def State.groupsBad (s : State) : Bool :=
  (List.range 64).any fun c =>
    decide (1 < ((List.range 3).map fun e => bits (s.cfgN Param.pstGroupClients 0 e) c 1).sum)

/-- C of the transmit line as the running values give it (R252). -/
def State.lineCapacity (s : State) : Nat :=
  if s.txInterop then zrCapacity (s.cfg Param.beFec) else s.cfgN Param.lfrCapacity25g

/-- The values of a commit that fail a check: the target whose path `DETAIL` names (R590), each check made only if the commit
changes a value that takes part in it; `written` is all that the slates write. Targets are in ascending order (DEDUCED, log entry 63). -/
def badValues (written recs : NMap Int) (s c : State) : List Path :=
  let t := touches recs
  let mapTouched := t Param.mapClientType || t Param.mapFirstUnit || t Param.mapUnits
  let hstTouched := t Param.pcsPortType || t Param.pcsTlmLanes || t Param.lnRate || t Param.pcsRxLaneOrder
  let xtalUsed := (s.clk.muxes[(1 : Fin 3)].sel || s.clk.muxes[(2 : Fin 3)].sel)
  let one := fun (cond : Bool) (p : Path) => if cond then [p] else []
  one (t Param.pstGroupClients && c.groupsBad) ⟨1, 1, 0⟩ ++
  one (t Param.oscXtalBEnable && !c.cfgB Param.oscXtalBEnable && xtalUsed) ⟨2, 0, 0⟩ ++
  (if t Param.spqRegionKib || t Param.spqRegionOffsetKib then
    ((List.range 24).filter c.regionBad).map fun q => ⟨4, 2, q⟩ else []) ++
  one (dispersionBad written recs c) ⟨6, 0, 0⟩ ++
  one ((t Param.trcSymbolRateGbdX8 || t Param.psfSymbolRateGbdX8) &&
    decide (c.cfg Param.trcSymbolRateGbdX8 ≠ c.cfg Param.psfSymbolRateGbdX8)) ⟨6, 3, 0⟩ ++
  one (t Param.psfPreemphTaps && c.tapsBad) ⟨7, 2, 0⟩ ++
  one ((t Param.beFec || t Param.bdeFec) && decide (c.cfg Param.beFec ≠ c.cfg Param.bdeFec) &&
    (c.txInterop || c.rxInterop)) ⟨8, 0, 0⟩ ++
  one ((mapTouched || t Param.lfrCapacity25g || t Param.beFec) &&
    c.usedClients.any fun k => decide (c.lineCapacity < c.firstUnit k + c.unitsOf k)) (if c.txInterop then ⟨8, 0, 0⟩ else ⟨9, 0, 0⟩) ++
  one (mapTouched && (c.unitsOverlap || c.usedClients.any c.unitsBad)) ⟨9, 1, 0⟩ ++
  (if hstTouched || t Param.lnTxFfe || t Param.lnSscAccept || t Param.lnTimingTransparent then
    ((List.range 16).filter fun l => (hstTouched && c.laneRateBad l) || (t Param.lnTxFfe && c.ffeBad l) ||
      c.sscBad l).map fun l => ⟨13, l, 0⟩ else []) ++
  one ((hstTouched && c.portsBad) || ((hstTouched || t Param.pcsFlexeGroup) && c.physBad)) ⟨13, 16, 0⟩ ++
  one ((t Param.hkaCompLower || t Param.hkaCompUpper) && c.windowBad) ⟨14, 0, 0⟩ ++
  one ((t Param.hkdCode || t Param.hkdLimitLow || t Param.hkdLimitHigh) && c.codesBad) ⟨14, 1, 0⟩ ++
  one ((t Param.fltNpGroup || t Param.fltPairEnable) && c.cfgB Param.fltNpGroup && c.cfgB Param.fltPairEnable) ⟨15, 2, 0⟩

/-! ### Pair groups 3 and 4 (R247, R252, R253, R291, R354, R370, R372) -/

/-- The rate in kb/s that a Transparent Lane Mode client's type and units fix (R246, R370). -/
def State.tlmKbps (s : State) (c : Nat) : Nat :=
  match s.clientType c with
  | 7 => 104794446
  | 8 => s.unitsOf c * 26204000
  | _ => s.unitsOf c / 5 * 105258138

/-- The committed calendar slots of a FlexE client. -/
def State.committedSlots (s : State) (k : Nat) : Nat :=
  (s.mgt.running.filter fun e => decide (keyPath e.1 = ⟨13, 17, 0⟩ ∧ keyNum e.1 = Param.fxeCalendar.num ∧ e.2 = (k : Int))).length

/-- A used row whose `host_port` is not a port of the right kind, or does not fit it (R354, R370, R372). -/
def State.hostPortBad (s : State) (c : Nat) : Bool :=
  let h := s.hostPort c
  let t := s.clientType c
  if t ≤ 5 then
    decide (16 ≤ h) || decide (s.portType h = 0 ∨ s.portType h = 13) ||
      decide ((portShape (s.portType h) 1).2.2 ≠ 2 ^ (t - 1)) || s.cfgB Param.pcsFlexeGroup 0 h
  else if t = 6 then
    decide (h < 16 ∨ 48 ≤ h) || decide (s.committedSlots (h - 16) ≠ 5 * s.unitsOf c)
  else
    let p := h - 48
    decide (h < 48) || decide (s.portType p ≠ 13) ||
      decide (s.portLanes p * laneKbps (s.cfgN Param.lnRate 0 0 (physical s.heldReversed p)) * 2097152 < s.tlmKbps c * 2099377)

/-- The client map of an interoperable mode holds the client of the agreement in row 0 and no other (R252). -/
def State.zrMapBad (s : State) : Bool :=
  s.usedClients.any fun c =>
    decide (c ≠ 0 ∨ s.clientType 0 ≠ (if s.cfg Param.beFec = 4 then 3 else 4) ∨ s.firstUnit 0 ≠ 0 ∨
      s.unitsOf 0 ≠ zrCapacity (s.cfg Param.beFec))

/-- `PAIR_MISMATCH` 3. -/
def State.mapBad (s : State) : Bool :=
  s.usedClients.any s.hostPortBad || decide (16 < (s.class0.map s.unitsOf).sum) || (s.txInterop && s.zrMapBad)

/-- `PAIR_MISMATCH` 4 (R291). -/
def State.cipherMapBad (s : State) : Bool :=
  (List.range 64).any fun i =>
    let c := s.cfgN Param.cipClient i
    (decide (c ≠ 255) && (!s.clientUsed c || (List.range i).any fun j => decide (s.cfgN Param.cipClient j = c))) ||
      (s.cfgB Param.cipMode i && decide (c = 255))

/-- Encryption is asked for where there is none: in KQ3200-N-FB900 (R289), or in an interoperable mode (R252). -/
def cipherAbsent (recs : NMap Int) (c : State) : Bool :=
  (touches recs Param.cipMode || touches recs Param.beFec || touches recs Param.bdeFec) &&
    (!c.fuses.encEnabled || c.txInterop || c.rxInterop) && (List.range 64).any fun i => c.cfgB Param.cipMode i

/-! ### Ownership of pair groups (R72) -/

/-- The targets that hold a member of a pair group, in ascending order. -/
def pairTargets (g : Nat) : List Path :=
  let rows := paramTable.filter fun p => p.pairs.contains g
  let ps := rows.flatMap fun p => (List.range p.span).flatMap fun u => unitTargets p.sec (p.unit + u)
  (ps.eraseDups).mergeSort fun a b => decide (a.key ≤ b.key)

/-- The first target that the seat does not own, among those listed and those of the pair groups that change. -/
def firstUnowned (s : State) (i : SeatId) (listed : List Path) (recs : NMap Int) : Option Path :=
  match listed.find? fun p => !s.owns i p with
  | some p => some p
  | none =>
    let groups := [1, 2, 3, 4].filter (touchesPair recs)
    ((groups.flatMap pairTargets).filter fun p => !s.owns i p).foldl
      (fun m p => match m with
        | none => some p
        | some q => if p.key < q.key then some p else some q) none

/-- For what the values of a commit are refused (R71, R590): `NOT_SUPPORTED`, then `BAD_VALUE`, then the pair groups in
ascending number. `none` if for nothing (DEDUCED, log entries 6, 63). -/
def commitRefusal (written recs : NMap Int) (s : State) : Option Reply :=
  let c := s.withRecs recs
  let t := touches recs
  if cipherAbsent recs c then some (refusal stNotSupported)
  else match badValues written recs s c with
    | p :: _ => some (refusal stBadValue p.word)
    | [] =>
      if touchesPair recs 1 && c.formatBad then some (refusal stPairMismatch 1)
      else if (touchesPair recs 3 || t Param.beFec || t Param.lnRate || t Param.pcsRxLaneOrder) && c.mapBad then
        some (refusal stPairMismatch 3)
      else if touchesPair recs 4 && c.cipherMapBad || t Param.cipMode && c.cipherMapBad then some (refusal stPairMismatch 4)
      else none

/-! ### Category and interruption (R13, R67, R134, R138, R157, R184, R190, R248) -/

/-- 30 ms of initial calibration if the sample rate in use changes (R157, R190). -/
def calibrationUs (s c : State) : Nat :=
  if sampleRateOf s.symbolRate = sampleRateOf c.symbolRate then 0 else 30000

/-- The reacquisition of the receive chain (R157). -/
def receiveUs (s c : State) : Nat :=
  (match c.cfgN Param.cdeCdMode with
    | 0 => 4300
    | 1 => 250000
    | _ => c.cfgN Param.cdeSeedWaitMs * 1000 + 250000) + calibrationUs s c

/-- The restart of some lanes (Table 11.11) (DEDUCED, log entry 64). -/
def lanesUs (c : State) (ls : List Nat) : Nat :=
  (ls.map fun l =>
    if c.cfgB Param.lnTraining 0 0 l ∧ 1 ≤ c.cfgN Param.lnRate 0 0 l ∧ c.cfgN Param.lnRate 0 0 l ≤ 3 ∧
        ((c.lanePort l).map c.portType).getD 0 ≠ 13 then 626000 else 126000).foldl max 0

/-- The lanes that a Restart of HST touches: the lane, those of the port as it was or will be, those of a FlexE group, or
those of every port (DEDUCED, log entry 64). -/
def restartedLanes (s c : State) (k : Nat) : List Nat :=
  let lanesOfPort := fun (s : State) (p : Nat) => (List.range 16).filter fun l => decide (s.lanePort l = some p)
  let u := (keyPath k).unit
  if u < 16 then [u]
  else if u = 16 then
    (match keyNum k with
      | 2 | 3 => (List.range 16).filter fun l => (s.lanePort l).isSome || (c.lanePort l).isSome
      | _ => lanesOfPort s (keyElem k) ++ lanesOfPort c (keyElem k))
  else
    let g := if keyNum k = 0 then keyElem k + 1 else c.cfgN Param.pcsFlexeGroup 0 (keyElem k)
    if g = 0 then [] else (c.phyPorts (g - 1)).flatMap (lanesOfPort c)

/-- The interruption of a Restart by the target that changes; the spec gives none for `SEC.CIP.role`
(DESIGN CHOICE, log entry 23; DEDUCED, log entry 65). -/
def restartUs (s c : State) (k : Nat) : Nat :=
  match (keyPath k).sec with
  | 5 => if (keyPath k).unit < 4 then receiveUs s c else 350000
  | 6 => receiveUs s c
  | 8 => if (keyPath k).unit = 1 then receiveUs s c else 350000 + calibrationUs s c
  | 9 => if keyNum k = 1 then receiveUs s c else 350000 + calibrationUs s c
  | 10 => Config.roleRestartUs
  | 13 => lanesUs c (restartedLanes s c k)
  | _ => 350000 + calibrationUs s c

/-- A row of the client map that changes nothing but `units`, on a used row of type 6 or 8 (Table 7.4). -/
def resizesRow (s c : State) (r : Nat) : Bool :=
  decide (s.clientType r = c.clientType r ∧ (s.clientType r = 6 ∨ s.clientType r = 8) ∧ s.firstUnit r = c.firstUnit r ∧
    s.hostPort r = c.hostPort r ∧ s.unitsOf r ≠ c.unitsOf r)

/-- The category and interruption of one changed parameter; those of pair group 1 that a rate change may alter are judged
apart (R190). Categories are 0 Hitless, 1 Hit, 2 Restart (DEDUCED, log entry 65). -/
def keyCategory (s c : State) (k : Nat) : Nat × Nat :=
  match keyRow k with
  | none => (0, 0)
  | some p =>
    let r := keyElem k
    match p.cat with
    | .hitless => (0, 0)
    | .hit us => (1, us)
    | .restart => (2, restartUs s c k)
    | .byRule =>
      match p.sec, p.unit, p.num with
      | 6, 0, _ =>
        let v := if c.cfg Param.cdeCdMode = 0 then c.cfg Param.cdeDispersionPsNm else s.rxd.cdValue
        if s.rxd.rxState = .locked ∧ (v - s.rxd.cdValue).natAbs ≤ 1 then (0, 0) else (2, receiveUs s c)
      | 6, 1, 0 => if c.cfg p < s.cfg p then (1, 50) else (0, 0)
      | 6, 1, _ => if c.cfg p < s.cfg p then (1, 50) else (0, 0)
      | 7, 2, 1 => (1, 100)
      | 7, 2, _ => if 512 < (c.valueOf k - s.valueOf k).natAbs then (1, 100) else (0, 0)
      | 7, 4, _ => if 20 < (c.valueOf k - s.valueOf k).natAbs then (1, 100) else (0, 0)
      | 9, 1, _ =>
        if s.clientUsed r = false ∨ c.clientUsed r = false then (0, 0)
        else if p.num = 2 ∧ resizesRow s c r then (0, 0)
        else (1, 2000)
      | 9, 2, _ => if s.clientUsed r ∧ c.clientUsed r then (1, 5) else (0, 0)
      | _, _, _ => (0, 0)

/-- A changed key of pair group 1, and whether a rate change may alter it (R190). -/
def isPair1 (k : Nat) : Bool := ((keyRow k).map fun p => p.pairs.contains 1).getD false
def isRateKey (k : Nat) : Bool := isPair1 k && decide ((keyRow k).map ParamRow.cat = some .byRule)

/-- The conditions of R190 but for the partner's answer. -/
def canNegotiate (recs : NMap Int) (s c : State) : Bool :=
  (recs.all fun e => !isPair1 e.1 || isRateKey e.1) && entropyFits s.txd.constellation c.lineEntropy &&
    decide (s.deviceState ≤ 1) && decide (s.rxd.rxState = .locked) && decide (s.lodMode = 2) && s.lod.identified &&
    !s.txInterop && !s.rxInterop && s.txd.pending.isNone

/-- The accepted answer still holds for some values (R193). -/
def State.accepted (s : State) (v : RateValues) : Bool :=
  s.txd.accepted.any fun a => decide (a.values = v) && decide (s.now ≤ a.since + s.cfgN Param.shpRateHoldMs * 1000)

/-- The `CHANGE_ID` under which the partner has accepted some values. -/
def State.acceptedAs (s : State) (v : RateValues) : Option Nat :=
  (s.txd.accepted.find? fun a => decide (a.values = v)).map Accepted.changeId

/-- What `COMMIT_CHECK` finds: category, interruption in µs, that the commit carries a hitless rate change, and that only the
partner's answer decides. -/
structure Evaluation where
  category : Nat
  us : Nat
  rate : Bool
  undecided : Bool
deriving DecidableEq, Repr

/-- Evaluate the changes of a commit (R13, R190). `refused` says that the partner has just refused or not answered. -/
def evaluate (t : SlateSet) (refused : Bool) (s : State) : Evaluation :=
  let c := s.withRecs t.recs
  let parts := (t.recs.filter fun e => !isRateKey e.1).map fun e => keyCategory s c e.1
  let changesRate := t.recs.any fun e => isRateKey e.1
  let can := changesRate && canNegotiate t.recs s c
  let agreed := can && s.accepted c.rateValues
  let parts := if changesRate && !agreed then (2, 350000 + calibrationUs s c) :: parts else parts
  let worst := (parts.map Prod.fst).foldl max 0
  { category := worst
    us := ((parts.filter fun p => decide (p.1 = worst)).map Prod.snd).foldl max 0
    rate := agreed
    undecided := can && !agreed && !refused }

end Sys2Proof.Machine
end

