-- ==== Sys2Proof/Machine/DomOps.lean ====
section
/-!
DEFINITION. The shared operations of DOM: frames, reachability, authority, the Flint decision and the 1:N selection (R490
to R515).
-/
namespace Sys2Proof.Machine

/-! ### Frames (R490, R491) -/

/-- A Tvedry port, and a change of it. -/
abbrev TvlId := Fin 2
def State.tvl (s : State) (p : TvlId) : TvlPort := s.dom.ports[p]
def State.onTvl (s : State) (p : TvlId) (f : TvlPort → TvlPort) : State := { s with dom.ports := vmod s.dom.ports p f }

/-- The `n` bytes of a number, most significant byte first (R490) (DEDUCED, log entry 85). -/
def beBytesOf (n v : Nat) : List Byte := (leBytes n v).reverse

/-- The number that bytes spell, most significant byte first. -/
def beNatOf (bs : List Byte) : Nat := leNat bs.reverse

/-- A field of a Tvedry payload. -/
def beAt (p : List Byte) (i n : Nat) : Nat := beNatOf ((p.drop i).take n)

/-- The device's domain ID. -/
def State.domainId (s : State) : Nat := s.cfgN Param.dauDomainId

/-- The device takes part in the domain. -/
def State.isMember (s : State) : Bool := s.cfgB Param.dauMember

/-- The port is on. -/
def State.tvlOn (s : State) (p : TvlId) : Bool := s.cfgB Param.tvlEnable p.val

/-- The Bedrock set: the entries that name an ID (R490, R517). -/
def State.bedrock (s : State) : List Nat :=
  (((List.range 7).map fun i => s.cfgN Param.dauBedrock 0 i).filter fun x => decide (x < 1024)).eraseDups

/-- The Bedrock digest: the low 16 bits of the CRC-32C of the 14 bytes, each entry most significant byte first. -/
def State.bedrockDigest (s : State) : Nat :=
  crc32c ((List.range 7).flatMap fun i => beBytesOf 2 (s.cfgN Param.dauBedrock 0 i)) % 65536

/-- The flags of a `HELLO` (Table 16.3). -/
def State.helloFlags (s : State) : Nat :=
  bit s.dom.authority + 2 * bit s.dom.holdover + 4 * bit (s.bedrock.contains s.domainId) + 8 * bit s.dom.isolated

/-- A frame of this device. -/
def State.ownFrame (s : State) (type dest : Nat) (payload : List Byte) : TvlFrame :=
  { ethertype := s.cfgN Param.dauEthertype, type, tag := s.cfgN Param.dauDomainTag, source := s.domainId, dest,
    epoch := s.dom.epoch, seq := s.dom.seq, payload }

/-- The multicast address of Tvedry frames (R490). -/
def tvlAddress : List Byte := [0x03, 0x00, 0x00, 0x54, 0x56, 0x00]

/-- A Tvedry frame from its destination address to its fill (R489, R490, Table 16.2): the header and payload most significant byte first,
filled with zeros to 64 bytes with the FCS (PRESUMED, log entry 85). -/
def tvlBody (p : TvlId) (f : TvlFrame) : List Byte :=
  let source := if f.sender = [] then [0x02, 0x54, 0x56] ++ beBytesOf 2 f.source ++ beBytesOf 1 p.val else f.sender
  let header := beBytesOf 1 f.version ++ beBytesOf 1 f.type ++ beBytesOf 2 f.tag ++ beBytesOf 2 f.source ++ beBytesOf 2 f.dest ++
    beBytesOf 4 f.epoch ++ beBytesOf 2 f.seq ++ beBytesOf 2 f.payload.length ++ beBytesOf 1 f.hops ++ [f.last]
  let body := tvlAddress ++ source ++ beBytesOf 2 f.ethertype ++ header ++ f.payload
  body ++ List.replicate (60 - body.length) 0

/-- A Tvedry frame on the wire, with its FCS (R490) (PRESUMED, log entry 85). -/
def tvlBytes (p : TvlId) (f : TvlFrame) : List Byte := tvlBody p f ++ fcs32 (tvlBody p f)

/-- What the bytes of a frame say (R489, R490, Table 16.2): a frame is good to the MAC with 64 to 1,518 bytes, a good FCS, no VLAN tag, and if
it is no PAUSE frame; its `LENGTH` matches if nothing but the fill to 64 bytes follows the payload (PRESUMED, log entry 85). -/
def tvlOf (bytes : List Byte) : TvlFrame :=
  let body := bytes.take (bytes.length - 4)
  let h := body.drop 14
  let et := beAt body 12 2
  let n := beAt h 14 2
  { macOk := decide (64 ≤ bytes.length ∧ bytes.length ≤ 1518) && !([0x8100, 0x88A8, 0x8808].contains et) &&
      decide (bytes.drop (bytes.length - 4) = fcs32 body)
    ethertype := et, version := beAt h 0 1, type := beAt h 1 1, tag := beAt h 2 2, source := beAt h 4 2, dest := beAt h 6 2
    epoch := beAt h 8 4, seq := beAt h 12 2, lengthOk := decide (h.length = max 46 (18 + n)), hops := beAt h 16 1
    last := h.getD 17 0, sender := (body.drop 6).take 6, payload := (h.drop 18).take n }

/-- Send a frame out of a port that is on. -/
def sendOut (p : TvlId) (f : TvlFrame) (s : State) : State :=
  if s.tvlOn p then (s.onTvl p fun q => { q with txFrames := satInc 32 q.txFrames }).send (.tvedry p.val (tvlBytes p f)) else s

/-- Flood a frame of this device out of both ports (R491). Only a member that is not isolated sends (R499). -/
def floodFrame (type dest : Nat) (payload : List Byte) (s : State) : State :=
  if s.isMember = false ∨ s.dom.isolated = true then s
  else
    let f := s.ownFrame type dest payload
    let s := sendOut 1 f (sendOut 0 f s)
    { s with dom.seq := (s.dom.seq + 1) % 65536 }

/-- The 128 bytes of a roster (Table 16.3). -/
def rosterBytes (r : List Nat) : List Byte :=
  (List.range 128).map fun k => BitVec.ofNat 8 ((List.range 8).map fun n => if r.contains (8 * k + n) then 2 ^ n else 0).sum

/-- The roster that 128 bytes spell, in ascending order. -/
def rosterOf (bs : List Byte) : List Nat := (List.range 1024).filter fun i => (bs.getD (i / 8) 0).getLsbD (i % 8)

/-- Put an ID into an ascending list. -/
def insertId : List Nat → Nat → List Nat
  | [], x => [x]
  | y :: ys, x => if x < y then x :: y :: ys else if x = y then y :: ys else y :: insertId ys x

/-! ### Reachability and authority (R493 to R498) -/

/-- The reachable set H in ascending order: the device itself and the members heard, but for one whose Bedrock digest
differs (Table 16.5). -/
def State.reachSet (s : State) : List Nat :=
  insertId ((s.dom.members.filter fun e => e.2.reachable && e.2.digestOk).map Prod.fst) s.domainId

/-- The Bedrock members in the roster (R494). -/
def State.bedrockQuorum (s : State) : List Nat := s.bedrock.filter fun x => s.dom.roster.contains x

/-- The evaluation of R494. -/
def authorityOf (bq roster h : List Nat) : Bool :=
  if bq ≠ [] then
    let n := (bq.filter fun x => h.contains x).length
    decide (bq.length < 2 * n) || (decide (2 * n = bq.length) && bq.min?.any fun x => h.contains x)
  else roster.all fun x => h.contains x

/-- The epoch keeper of a part that holds authority (R495). -/
def keeperOf (bedrock bq h : List Nat) : Nat :=
  if bq = [] then h.min?.getD 0 else (bedrock.filter fun x => h.contains x).min?.getD 0

/-- This device is the epoch keeper. -/
def State.isKeeper (s : State) : Bool := decide (keeperOf s.bedrock s.bedrockQuorum s.reachSet = s.domainId)

/-- Judge authority (R494, R496, R497): frozen while firmware is not ready (Table 16.11); an isolated device holds none, and so is in domain holdover,
and one that is no member holds none (DEDUCED, log entry 87). -/
def judgeAuthority (s : State) : State :=
  if s.isMember = false then followInputs { s with dom.authority := false, dom.holdover := false }
  else if s.mgt.fwReady = false ∧ s.dom.isolated = false then s
  else
    let a := !s.dom.isolated && authorityOf s.bedrockQuorum s.dom.roster s.reachSet
    let s1 := { s with dom.authority := a, dom.holdover := !a }
    let s2 := if a && !s.dom.authority then raise 245 s1 else if !a && !s.dom.holdover then raise 244 s1 else s1
    followInputs s2

/-- The roster and epoch change (R495): members of it that are out of H count from now, `EV246`. -/
def setRoster (r : List Nat) (epoch : Nat) (s : State) : State :=
  let h := s.reachSet
  let out := (r.filter fun x => !h.contains x).map fun x => (x, (nmGet s.dom.outSince x).getD s.now)
  raise 246 { s with dom.roster := r, dom.epoch := epoch % 2 ^ 32, dom.outSince := out }

/-- The largest epoch seen in H (R498), with the local one. -/
def State.epochSeen (s : State) : Nat :=
  (s.dom.members.filter fun e => e.2.reachable && e.2.digestOk).foldl (fun m e => max m e.2.epoch) s.dom.epoch

/-- The keeper gives a new roster with an epoch and floods it (R495) (DEDUCED, log entry 87). -/
def keeperRoster (r : List Nat) (epoch : Nat) (s : State) : State :=
  let s := setRoster r epoch s
  floodFrame 0x02 0xFFFF (rosterBytes s.dom.roster) s

/-- A change of H or of the roster (R494, R495): authority is judged, and the keeper adds reachable devices that the roster
lacks. -/
def domainChanged (s : State) : State :=
  let s := judgeAuthority s
  let new := s.reachSet.filter fun x => !s.dom.roster.contains x
  if s.dom.authority && s.isKeeper && decide (new ≠ []) && s.mgt.fwReady then
    judgeAuthority (keeperRoster (new.foldl insertId s.dom.roster) (s.dom.epoch + 1) s)
  else s

/-- A member leaves H (R493, R494): a roster member that leaves declares a partition; an isolated device takes no part in this (R499). -/
def memberLeaves (id : Nat) (s : State) : State :=
  if s.dom.isolated = false ∧ s.dom.roster.contains id = true then
    domainChanged (raise 243 { s with dom.partitions := satInc 16 s.dom.partitions, dom.outSince := nmPut s.dom.outSince id s.now })
  else domainChanged s

/-! ### Flint (R505 to R510) -/

/-- The pair is on, and the device is the secondary. -/
def State.pairOn (s : State) : Bool := s.cfgB Param.fltPairEnable
def State.isSecondary (s : State) : Bool := s.cfgB Param.fltPairRole

/-- Change the Flint part. -/
def State.onFlint (s : State) (f : Flint → Flint) : State := { s with dom.flint := f s.dom.flint }

/-- `HEALTHY` (R506, Table 16.11). -/
def State.isHealthy (s : State) : Bool :=
  decide (s.rxd.rxState = .locked) && !s.rxd.los && !s.rxd.losf && !s.lineFail && !s.clk.safeState &&
    decide (s.deviceState < 2) &&
    (!(s.fuses.encEnabled && (List.range 64).any fun c => s.cfgB Param.cipMode c) || s.sec.released)

/-- `DEGRADED` (R506). -/
def State.isDegraded (s : State) : Bool := s.cod.degrade || s.cod.ifdDegrade

/-- `READY` (R506). -/
def State.isReady (s : State) : Bool :=
  s.isHealthy && (indices 4).all fun g => !s.flintGroup g || decide (s.pwr.groups[g].state ≤ 1)

/-- The decision of R507: whether the secondary is wanted, and the cause as the primary sees it. `p` is the primary's word
and `q` the secondary's, `cur` that the secondary is active now. -/
def flintDecision (p q : FlintWord) (sdSwitch revertive expired cur : Bool) : Bool × Nat :=
  let sReady := q.healthy && q.ready
  if p.request = 3 ∨ q.request = 3 then (false, 6)
  else if p.request = 1 ∧ sReady = true then (true, 5)
  else if p.request = 2 ∧ p.healthy = true then (false, 5)
  else if q.request = 2 ∧ sReady = true then (true, 5)
  else if q.request = 1 ∧ p.healthy = true then (false, 5)
  else if p.healthy = false ∧ sReady = true then (true, 1)
  else if q.healthy = false ∧ p.healthy = true then (false, 2)
  else if sdSwitch = true ∧ p.degraded = true ∧ q.degraded = false ∧ sReady = true then (true, 3)
  else if sdSwitch = true ∧ q.degraded = true ∧ p.degraded = false ∧ p.healthy = true then (false, 4)
  else if cur = true ∧ revertive = true ∧ expired = true then (false, 7)
  else (cur, 0)

/-- The cause as the other side sees it: local and partner change places (DEDUCED, log entry 90). -/
def otherCause (c : Nat) : Nat :=
  match c with
  | 1 => 2 | 2 => 1 | 3 => 4 | 4 => 3 | n => n

/-- The lane carries a client that Flint protects. -/
def State.flintLane (s : State) (l : LaneId) : Bool :=
  ((s.portOf l).map s.portClients).any fun cs => cs.any fun c => decide (bits (s.cfgN Param.fltClientMask) c 1 = 1)

/-- A standby mutes the lanes that carry the protected clients (R509): it is the device that tolerates 10 µs. -/
def standbyLanes (s : State) : State :=
  { s with hst.lanes := vgen 16 fun l =>
      { s.hst.lanes[l] with flint := decide (s.pwr.flintTol = some 10) && s.flintLane l } }

/-- Host lanes and power follow the active state (R509): a standby mutes the lanes of the protected clients and tolerates
10 µs, an active device 0; `none` withdraws both. -/
def followActive (active : Option Bool) (s : State) : State :=
  refreshClients (judgeGroups (standbyLanes { s with pwr.flintTol := active.map fun a => if a then 0 else 10 }))

/-- The active indication is driven (R509). -/
def driveGpio (high : Bool) (s : State) : State :=
  if s.cfgN Param.fltActiveGpio < 16 then s.send (.gpio (s.cfgN Param.fltActiveGpio) high) else s

/-- A change of local or partner health, or a switch, is on its way to HK (R467). -/
def noteForHk (changed : Bool) (s : State) : State := if changed then s.onFlint fun f => { f with hkDue := f.hkDue + 1 } else s

/-- The health that a word shows. -/
def FlintWord.health (w : FlintWord) : Bool × Bool × Bool := (w.healthy, w.degraded, w.ready)

/-- The local active state becomes `a` (R508). -/
def setActive (a : Bool) (cause : Nat) (s : State) : State :=
  if s.dom.flint.own.active = a then s
  else
    let s := s.onFlint fun f =>
      { f with own.active := a, switches := satInc 16 f.switches, cause := cause, switchAt := s.now % 2 ^ 32 }
    raise 250 (noteForHk true (driveGpio a (followActive (some a) s)))

/-- The wait-to-restore of the primary (R507). -/
def judgeWtr (s : State) : State :=
  let f := s.dom.flint
  let run := s.pairOn && !s.isSecondary && f.link && !f.own.active && f.own.healthy && !f.own.degraded &&
    decide (f.own.request = 0) && decide (f.partner.request = 0)
  s.onFlint fun f => { f with wtrAt := if run then some (f.wtrAt.getD s.now) else none, own.wtr := run }

/-- Each side decides (R507, R508). `expired` says that the wait-to-restore has just run out; `why` is the cause where the
rule itself gives none: link lost, link regained or commit. -/
def judgeFlint (expired : Bool) (why : Option Nat) (s : State) : State :=
  if s.pairOn = false then s
  else
    let f := s.dom.flint
    let sd := s.cfgB Param.fltSdSwitch
    let rev := s.cfgB Param.fltRevertive
    let s :=
      if f.link = false then
        let a := if s.isSecondary then f.own.healthy && !f.lockedOut else f.own.healthy || f.own.active
        setActive a (why.getD 1) s
      else if s.isSecondary then
        let d := flintDecision f.partner f.own sd rev false f.own.active
        setActive (!f.partner.active) (why.getD (if d.2 = 0 then 7 else otherCause d.2)) s
      else
        let d := flintDecision f.own f.partner sd rev expired (!f.own.active)
        setActive (!d.1) (why.getD d.2) s
    judgeWtr s

/-- The local health fields are computed anew (R506). The second component says that they have changed. -/
def refreshHealth (s : State) : Bool × State :=
  let w := s.dom.flint.own
  let s1 := s.onFlint fun f => { f with own.healthy := s.isHealthy, own.degraded := s.isDegraded, own.ready := s.isReady }
  (decide (w ≠ s1.dom.flint.own), noteForHk (decide (w.health ≠ s1.dom.flint.own.health)) s1)

/-! ### 1:N groups (R512 to R515) -/

/-- The device belongs to a 1:N group, and it is the arbiter. -/
def State.npOn (s : State) : Bool := s.cfgB Param.fltNpGroup
def State.isArbiter (s : State) : Bool := s.npOn && decide (s.cfg Param.fltNpMember = 0) && !s.cfgB Param.fltNpEnd

/-- Change the 1:N part. -/
def State.onNp (s : State) (f : NpGroup → NpGroup) : State := { s with dom.np := f s.dom.np }

/-- The digest of the client map (Table 16.10) (DEDUCED, log entry 91). -/
def State.npDigest (s : State) : Nat :=
  crc32c ((List.range 64).flatMap fun c =>
    [s.cfgN Param.mapClientType 0 c, s.cfgN Param.mapFirstUnit 0 c, s.cfgN Param.mapUnits 0 c, s.cfgN Param.latClass 0 c].map
      (BitVec.ofNat 8))

/-- The device's own status. -/
def State.npOwn (s : State) : NpStatus :=
  { member := s.cfgN Param.fltNpMember, endB := s.cfgB Param.fltNpEnd
    health := bit s.isHealthy + 2 * bit s.isDegraded + 4 * bit s.isReady, request := s.dom.np.request, digest := s.npDigest }

/-- The latest statuses of the group, the device's own among them. -/
def State.npAll (s : State) : List NpStatus :=
  s.npOwn :: s.dom.np.statuses.filter fun x => decide (x.member ≠ s.npOwn.member ∨ x.endB ≠ s.npOwn.endB)

/-- The status of a member at an end. -/
def statusOf (xs : List NpStatus) (m : Nat) (b : Bool) : Option NpStatus := xs.find? fun x => decide (x.member = m ∧ x.endB = b)

/-- The request of a working member (R513): 3 force, 2 not healthy at either end, 1 degraded, 0 none. -/
def npLevel (xs : List NpStatus) (m : Nat) : Nat :=
  let ys := xs.filter fun x => decide (x.member = m)
  if ys.any fun x => decide (x.request = 1) then 3
  else if ys.any fun x => decide (bits x.health 0 1 = 0) then 2
  else if ys.any fun x => decide (bits x.health 1 1 = 1) then 1
  else 0

/-- Statuses of working members whose digest differs from that of the protection device at their end (R513). -/
def npMismatched (xs : List NpStatus) : List NpStatus :=
  xs.filter fun x => decide (x.member ≠ 0) && (statusOf xs 0 x.endB).any fun p => decide (p.digest ≠ x.digest)

/-- The working member with the highest request, the lowest number among equals; none without a request (R513 rule 2)
(DEDUCED, log entry 91). -/
def npWinner (xs : List NpStatus) : Option Nat :=
  let bad := (npMismatched xs).map NpStatus.member
  let ms := (List.range 16).filter fun m => decide (m ≠ 0 ∧ npLevel xs m ≠ 0) && !bad.contains m
  ms.foldl (fun w m => match w with
    | none => some m
    | some k => if npLevel xs k < npLevel xs m then some m else some k) none

/-- Rule 1 of R513: a lockout, or a protection device that is not ready. -/
def npBlocked (xs : List NpStatus) : Bool :=
  (xs.any fun x => decide (x.request = 2)) ||
    [false, true].any fun b => !(statusOf xs 0 b).any fun p => decide (bits p.health 2 1 = 1)

/-- A selection takes effect on this device (R514): the working device that is named drives its indication low, the
protection device high while a member is selected (DEDUCED, log entry 91). -/
def npApply (m : Nat) (s : State) : State :=
  let own := s.cfgN Param.fltNpMember
  let a := if own = 0 then decide (m ≠ 0) else decide (m ≠ own)
  let affected := if own = 0 then decide (m ≠ s.dom.np.selected) else decide (a ≠ s.dom.flint.own.active)
  let s := s.onNp fun n => { n with selected := m }
  let s := (driveGpio a s).onFlint fun f => { f with own.active := a }
  let s := if own = 0 then followActive (some a) s else s
  if affected then raise 254 (noteForHk true s) else s

/-- The arbiter selects (R513): counted, and taken by the device itself (DEDUCED, log entry 91). -/
def npSelect (m : Nat) (s : State) : State :=
  if s.dom.np.selected = m then s
  else npApply m (s.onNp fun n => { n with switches := satInc 32 n.switches })

/-- The arbiter evaluates R513; not in domain holdover (R515). -/
def judgeNp (s : State) : State :=
  if s.isArbiter = false then s
  else
    let s := s.onNp fun n => { n with frozen := s.dom.holdover }
    if s.dom.holdover then s
    else
      let xs := s.npAll
      let bad := npMismatched xs
      let fresh := bad.filter fun x => !(s.dom.np.flagged.any fun y => decide (y.member = x.member ∧ y.endB = x.endB ∧ y.digest = x.digest))
      let s := fresh.foldl (fun s _ => raise 255 s) (s.onNp fun n => { n with flagged := bad })
      if npBlocked xs then npSelect 0 s
      else
        match npWinner xs with
        | some m => npSelect m (s.onNp fun n => { n with quietSince := none })
        | none => s.onNp fun n => { n with quietSince := some (n.quietSince.getD s.now) }

/-- The whole of DOM is judged after a change of the local health, of H or of the roster. -/
def judgeDomain (s : State) : State := judgeNp (domainChanged s)

/-! ### Commits and resets (R517, Table 16.11) -/

/-- A commit to `TVL` or `DAU`: while no epoch has been agreed, the roster is B together with the device (R494); a new
domain ID ends isolation (R499); a port that is switched off loses block lock (R492), and its neighbours age out (DEDUCED, log entry 87). -/
def domCommitted (idChanged : Bool) (s : State) : State :=
  let s := if idChanged then { s with dom.isolated := false } else s
  let s := if s.dom.epoch = 0 then { s with dom.roster := s.bedrock.foldl insertId [s.domainId] } else s
  judgeDomain (overAll (indices 2)
    (fun p s =>
      if s.tvlOn p ∨ (s.tvl p).link = false then s
      else raiseAt 242 0 p.val (s.onTvl p fun q => { q with link := false, linkDowns := satInc 16 q.linkDowns })) s)

/-- A commit to `FLT` (Table 16.7): the link counts as lost until valid frames match; `pairChanged` says that role, ID or
enable changed. -/
def fltCommitted (pairChanged : Bool) (s : State) : State :=
  let s := if pairChanged then
      noteForHk (decide (s.dom.flint.partner.health ≠ FlintWord.health {}))
        (s.onFlint fun f => { f with link := false, partner := {}, lockedOut := false, wtrAt := none })
    else s
  let s := (refreshHealth s).2
  if s.pairOn then
    let s := judgeFlint false (some 10) s
    driveGpio s.dom.flint.own.active (followActive (some s.dom.flint.own.active) s)
  else if s.npOn then judgeNp (npApply s.dom.np.selected s)
  else
    let s := s.onFlint fun f => { f with own.active := false, own.wtr := false }
    driveGpio false (followActive none s)

/-- A `TVL` port restarts (Table 16.11): its neighbours are lost and its block lock with them, each with its event, and the counters
start at zero (DEDUCED, log entry 87). -/
def restartPort (p : TvlId) (s : State) : State :=
  let q := s.tvl p
  let s := q.neighbours.foldl (fun s _ => raiseFor 241 p.val s) (s.onTvl p fun _ => {})
  followInputs (if q.link then raiseAt 242 0 p.val s else s)

/-- A Unit reset inside DOM (Table 16.11); the lanes of the former `client_mask` have been muted (DEDUCED, log entry 90). -/
def resetDomTarget (p : Path) (s : State) : State :=
  match p.unit with
  | 0 => restartPort ⟨p.inst % 2, Nat.mod_lt _ (by decide)⟩ s
  | 1 =>
    domCommitted true { s with
      dom.seq := 0, dom.seen := [], dom.members := [], dom.epoch := 0, dom.authority := false, dom.holdover := false
      dom.partitions := 0, dom.outSince := [], dom.nakAt := [] }
  | _ =>
    let s := { s with hst.lanes := vmap s.hst.lanes fun k => { k with flint := false } }
    refreshClients (judgeGroups { s with dom.flint := {}, dom.np := {}, pwr.flintTol := none })

end Sys2Proof.Machine
end

