-- ==== Sys2Proof/Machine/DeviceOps.lean ====
section
/-!
DEFINITION. What commits, power states and start-up share: the transmit arbiter (R186 to R189), the transmit format in use,
cancelling a rate change (R196), the thermal level (R544), and what follows from a change of the device state (R537).
-/
namespace Sys2Proof.Machine

/-! ### Arbiter (R186 to R189) -/

/-- The superframe is reserved. -/
def isReserved (taken : List Reservation) (sf : Nat) : Bool := taken.any fun r => r.sf == sf

/-- The search of R186: the first free superframe from `slot` on, looking at no more than `n` further ones. -/
def freeFrom (taken : List Reservation) : Nat → Nat → Nat
  | 0, slot => slot
  | n + 1, slot => if isReserved taken slot then freeFrom taken n (slot + 1) else slot

/-- The first free superframe from `earliest` on. -/
def freeSlot (taken : List Reservation) (earliest : Nat) : Nat := freeFrom taken taken.length earliest

/-- Reserve the first free transmit superframe from `earliest` on (R186). -/
def reserveTx (h : Holder) (earliest : Nat) (s : State) : Nat × State :=
  let slot := freeSlot s.txd.reserved earliest
  (slot, { s with txd.reserved := s.txd.reserved ++ [⟨slot, h⟩] })

/-- The received superframes at which something takes effect: reservations and the announced change (R188). -/
def State.rxTaken (s : State) : List Reservation :=
  s.txd.rxReserved ++ (s.rxd.announced.map fun a => (⟨a.sf, .partner⟩ : Reservation)).toList

/-- Reserve the first free received superframe (R188). -/
def reserveRx (h : Holder) (earliest : Nat) (s : State) : Nat × State :=
  let slot := freeSlot s.rxTaken earliest
  (slot, { s with txd.rxReserved := s.txd.rxReserved ++ [⟨slot, h⟩] })

/-- A request that was deferred by `n` superframes takes effect (R189) (DEDUCED, log entry 60). -/
def noteDeferral (n : Nat) (s : State) : State :=
  if n = 0 then s else raise 117 { s with txd.deferrals := satInc 32 s.txd.deferrals }

/-- `OK`, or `DEFERRED` with the deferral (R189), with a payload (DEDUCED, log entry 60). -/
def deferredReply (n : Nat) (p : List Byte) : Reply :=
  if n = 0 then okWith p else { status := stDeferred, detail := min n (2 ^ 24 - 1), payload := p }

/-- The next transmit superframe; before the count has started, superframe 0 (R178). -/
def State.nextTx (s : State) : Nat := if s.txd.counting then s.txd.sf + 1 else s.txd.sf

/-! ### Format in use (R168 to R170, R185) -/

/-- The coupled chain starts anew at the present superframe: the block that is open is closed as a termination block, where the encoder has been
sending one (R205, R211, R226). -/
def restartChain (s : State) : State :=
  let s1 := { s with cod.chainSf := s.txd.sf, cod.chainBlock := 0 }
  if s.sendsMain && !s.txd.zr && decide (0 < s.chainPeriods.2) then s1.send (.termination s.chainPeriods.2) else s1

/-- The transmit values in use become those of the running configuration; a new entropy, pilot spacing or capacity restarts the coupled chain
(R173, R205). -/
def takeFormat (s : State) : State :=
  let zr := s.txInterop
  let same := decide (s.txd.entropy = s.lineEntropy) && decide (s.txd.pilots = s.cfgN Param.pltPilotSpacing) &&
    decide (s.txd.capacity = s.cfgN Param.lfrCapacity25g) && decide (s.txd.constellation = s.cfgN Param.shpConstellation)
  let s := if zr || same then s else restartChain s
  let c := if zr then 1 else s.cfgN Param.shpConstellation
  { s with
    txd.constellation := c
    txd.entropy := s.lineEntropy
    txd.shaped := !zr && isShaped c s.lineEntropy
    txd.zr := zr
    txd.pilots := s.cfgN Param.pltPilotSpacing
    txd.capacity := if zr then zrCapacity (s.cfg Param.beFec) else s.cfgN Param.lfrCapacity25g
    frm.txCapacity := s.cfgN Param.lfrCapacity25g
    txd.symbolRate := s.cfgN Param.psfSymbolRateGbdX8
    txd.rolloff := s.cfgN Param.psfRolloffX100 }

/-! ### Cancelling (R78, R187, R196) -/

/-- Remove a commit that has not taken effect; its reservations become free. -/
def dropCommit (id : Nat) (s : State) : State :=
  let keep := fun (r : Reservation) => decide (r.holder ≠ .commit id)
  let resizes := match s.frm.resizes.filter fun r => decide (r.commit ≠ id) with
    | [] => []
    | r :: rs => if s.frm.resizes.head? = some r then r :: rs else { r with since := s.now } :: rs
  { s with
    mgt.commits := s.mgt.commits.filter fun c => decide (c.id ≠ id)
    txd.reserved := s.txd.reserved.filter keep
    txd.rxReserved := s.txd.rxReserved.filter keep
    frm.resizes := resizes
    frm.resized := s.frm.resized.filter fun r => decide (r.commit ≠ id) }

/-- Answer an applied commit, unless a seat reset or a control restart has cancelled its response (R78). -/
def answerCommit (c : Commit) (rep : Reply) (s : State) : State := if c.silent then s else respond c.req rep s

/-- The pending rate change has not reached s0. -/
def State.rateBeforeS0 (s : State) : Bool :=
  s.txd.pending.any fun p => decide (p.stage = .resizingDown ∨ p.stage = .placed)

/-- Some of a commit has taken effect: a part of it, or what crosses no boundary. -/
def Commit.landedInPart (c : Commit) : Bool := c.parts.any CommitPart.done || (c.landing && c.recs.any fun e => !keyCrosses e.1)

/-- A commit of which some has taken effect loses its rate change, and the resizes that belong to it; the rest of it lands in silence. -/
def withdrawRate (id : Nat) (s : State) : State :=
  let resizes := s.frm.resizes.filter fun r => decide (r.commit ≠ id)
  { s with
    mgt.commits := s.mgt.commits.map fun c =>
      if c.id = id then { c with rate := false, rateRecs := [], plan := [.land], silent := true } else c
    frm.resizes := match resizes with
      | [] => []
      | r :: rs => if s.frm.resizes.head? = some r then r :: rs else { r with since := s.now } :: rs }

/-- All that such a commit still held has landed. -/
def Commit.rateWithdrawn (c : Commit) : Bool :=
  c.landing && c.silent && !c.rate && decide (c.plan = [.land]) && c.parts.all CommitPart.done

/-- Cancel the pending rate change (R196): `EV118`; its apply is answered as given, if at all. What else of the commit has begun to take effect
completes (DEDUCED, log entry 38). -/
def cancelRate (answer : Option Reply) (s : State) : State :=
  match s.txd.pending with
  | none => s
  | some p =>
    let mine := s.mgt.commits.find? fun c => c.id == p.commit
    let s := if mine.any Commit.landedInPart then withdrawRate p.commit s else dropCommit p.commit s
    let s := { s with txd.pending := none, txd.countdown := 0,
                      txd.reserved := s.txd.reserved.filter fun r => decide (r.holder ≠ .rate) }
    let s := match answer, mine with
      | some a, some c => answerCommit c a s
      | _, _ => s
    raise 118 s

/-! ### Throttling and thermal level (R147, R526, R544) -/

/-- Two failed phases on a rail force throttling (R526). -/
def State.railThrottle (s : State) : Bool := s.pwr.phasesFailed.toList.any fun n => decide (2 ≤ n)

/-- The thermal level after the present Tj, in 0.125 °C (Table 17.9). -/
def State.nextLevel (s : State) : Nat :=
  let tj := s.pwr.tj
  let warn : Int := 8 * s.cfgN Param.thmWarnC
  let throttle := decide (920 ≤ tj) || s.railThrottle || (decide (s.pwr.level = 2) && decide (896 ≤ tj))
  let warned := decide (warn < tj) || (decide (1 ≤ s.pwr.level) && decide (warn - 24 ≤ tj))
  if throttle then 2 else if warned then 1 else 0

/-- Judge the thermal level: `EV025`, `EV023` and `EV024`; `NLE` follows the throttling. -/
def judgeThermal (s : State) : State :=
  let old := s.pwr.level
  let new := s.nextLevel
  if new = old then s
  else
    let s := { s with pwr.level := new }
    let s := if old = 0 ∧ decide (8 * (s.cfgN Param.thmWarnC : Int) < s.pwr.tj) then raise 25 s else s
    let s := if new = 2 then raise 23 s else if old = 2 then raise 24 s else s
    if new = 2 ∨ old = 2 then judgeGates (rxdCommitted 2 [] [] s) else s

/-! ### The device state (R537, R542) -/

/-- What follows from a change of the device state from `old`: the line side, the sections that the tables of the power states
name, and the rate change that a deeper state cancels (R196, R542). -/
def followDevice (old : Nat) (s : State) : State :=
  let new := s.deviceState
  if new = old then s
  else
    let s := settleInjectionAs (s.cod.released && decide (old ≤ 1) && !s.txInterop) s
    let s := if 2 ≤ new ∧ s.rateBeforeS0 then cancelRate (some (refusal stNotPermitted)) s else s
    let s :=
      if old < new then
        let s := if 2 ≤ new then rxdEnter new (cnvEnter new s) else s
        let s := if 2 ≤ new then decoderLoses s else s
        let s := frmEnter new s
        let s := if new = 4 then { s with clk.locked := s.clk.locked &&& 0xC, clk.ready := s.clk.ready &&& 0x3CF } else s
        s
      else
        let s := if 2 ≤ old then cnvExit old s else s
        frmEnter new s
    judgeGates (judgeCap (lodEnter new (monPower (timPower (fehPower s)))))

/-- What follows from a change of the groups' states or of the clients in them: lanes, clients, and the device state. -/
def followPower (old : Nat) (s : State) : State := followDevice old (refreshClients (hstPower s))

end Sys2Proof.Machine
end

