-- ==== Sys2Proof/Machine/CommitOps.lean ====
section
/-!
DEFINITION. The commit engine: what follows from values that have taken effect, the stages of an applied commit (R69, R193,
R249, R372), its placing by the arbiters (R186 to R188), and the landing of what a transmit or received superframe holds.
-/
namespace Sys2Proof.Machine

/-! ### What follows from values that have taken effect -/

/-- Some key belongs to a Section, or to a Unit. -/
def inSec (ks : List Nat) (sec : Nat) : Bool := ks.any fun k => (keyPath k).sec == sec
def inUnit (ks : List Nat) (sec unit : Nat) : Bool := ks.any fun k => (keyPath k).sec == sec && (keyPath k).unit == unit

/-- CNV and TXD: the format in use (R168), the initial calibration of another sample rate, and the pre-distortion, which
ramps (R182). A running injection is counted up to a change of the encoder's mode (R226, R229). -/
def followTransmit (old : State) (ks : List Nat) (dpd : List DpdCoef) (s : State) : State :=
  let s := if old.txInterop != s.txInterop then settleInjectionAs old.encoding s else s
  let s := if ks.any isPair1 || inUnit ks 7 2 then takeFormat s else s
  let s := cnvCommitted old.symbolRate s
  let s := if s.cfgB Param.obsEnable then s else { s with cnv.obsActive := false }
  if inUnit ks 7 3 || decide (dpd ≠ []) then
    { s with txd.dpdCoefs := withDpd s.txd.dpdCoefs dpd, txd.dpdEnabled := s.cfgB Param.dpdEnable, txd.dpdRamping := true }
  else s

/-- RXD: the running values are taken, and a Restart of the receive chain begins its acquisition anew (R157). -/
def followReceive (old : State) (ks : List Nat) (nle : List NleTriplet) (s : State) : State :=
  let new := s
  let s := overAll [0, 1, 2, 5]
    (fun u s => if inUnit ks 6 u || (u == 2 && decide (nle ≠ [])) then rxdCommitted u ks nle s else s) s
  let s := if old.rxInterop != s.rxInterop then judgeDemapper s else s
  let chain := fun k => decide ((keyPath k).sec = 6 ∨ (keyPath k).sec = 5 ∧ (keyPath k).unit < 4)
  if (ks.any fun k => chain k && (keyCategory old new k).1 == 2) || old.rxInterop != new.rxInterop then rxdRestart s else s

/-- The line frame, the cipher channels and Lodestone (R243, R274, R275, R298). `all` are the keys with a value in force in
either direction. -/
def followFrame (old : State) (ks all : List Nat) (s : State) : State :=
  let s := if ks.contains (paramKey ⟨9, 0, 0⟩ Param.lfrRxOtucN.num 0) then
      noteDefects s { s with frm.oof := true, frm.oofSince := s.now, frm.fasBad := 0, frm.fasGood := 0,
                             frm.mfasBad := Vector.replicate 32 0 }
    else s
  let s := if old.rxInterop != s.rxInterop then refreshClients (dropOverhead s) else s
  let s := if inSec ks 9 then resignal old (frmCommitted s) else s
  let s := if ks.any fun k => decide ((keyPath k).sec = 10 ∧ keyNum k = Param.cipRole.num) then
      { s with sec.channels := vmap s.sec.channels Channel.resync }
    else s
  let s := if inSec all 10 || inUnit all 9 1 then secCommitted s else s
  lodCommitted s

/-- HST: the ports whose lanes a Restart touches leave the up state, the lanes start their bring-up anew (Table 11.11), and a new receive order
is found (R363, R378). -/
def followHost (old : State) (ks : List Nat) (s : State) : State :=
  if inSec ks 13 = false then s
  else
    let new := s
    let rs := ks.filter fun k => decide ((keyPath k).sec = 13 ∧ (keyCategory old new k).1 = 2)
    let s := if ks.contains (paramKey ⟨13, 16, 0⟩ Param.pcsRxLaneOrder.num 0) then
        { s with hst.orderLocked := false, hst.reversed := false, hst.tryAt := s.now }
      else s
    let ls := (indices 16).filter fun l => rs.any fun k => (restartedLanes old new k).contains l.val
    let ends := (indices 16).filter fun p => (s.port p).up && (old.lanesOf old.rxReversed p).any ls.contains
    followClients (followInputs (judgeSteps (overAll ls restartLane (overAll ends portDown s))))

/-- The Units outside the data plane, and `FEH` (R22). -/
def followOthers (ks : List Nat) (s : State) : State :=
  let s := if inSec ks 2 then clkCommitted s else s
  let s := if inSec ks 3 then timCommitted ks s else s
  let s := if inSec ks 4 then memCommitted ks s else s
  let s := if inSec ks 8 then codCommitted s else s
  let s := if inUnit ks 14 0 then hkaCommitted ks s else s
  let s := if inUnit ks 14 1 || inUnit ks 14 2 then biasCommitted ks s else s
  let s := if inUnit ks 14 3 then itlCommitted s else s
  let s := if inSec ks 9 || inSec ks 13 then standbyLanes s else s
  let s := if inUnit ks 15 0 || inUnit ks 15 1 then domCommitted (changedParam ks 15 1 Param.dauDomainId.num 0) s else s
  if inUnit ks 15 2 then
    fltCommitted ([Param.fltPairEnable, Param.fltPairRole, Param.fltPairId].any fun p => changedParam ks 15 2 p.num 0) s
  else s

/-- The groups, the thermal level and the core voltage (R536, R539, R544, R528), and what a change of the device state
brings. -/
def followGroups (old : State) (ks : List Nat) (s : State) : State :=
  let s := if inSec ks 1 || inUnit ks 9 1 || inUnit ks 15 2 then judgeGroups s else s
  let s := if inSec ks 1 then judgeThermal s else s
  let s := if s.cfgB Param.regAvsEnable || !inSec ks 1 then s else { s with pwr.coreMv := 800, pwr.avsLimited := false }
  if inSec ks 1 || inUnit ks 9 1 then followPower old.deviceState s else s

/-- Everything that follows when the keys `ks` have taken their new values in full, and the keys `all` in one direction at
least. `old` is the state before, `nle` and `dpd` what is loaded with them. -/
def followKeys (old : State) (ks all : List Nat) (nle : List NleTriplet) (dpd : List DpdCoef) (s : State) : State :=
  monCommitted (judgeHostClients (judgeDummy (judgeGates (followGroups old ks (followOthers ks (followHost old ks (followFrame old ks all
    (followReceive old ks nle (followTransmit old ks dpd s)))))))))

/-! ### Commits in progress -/

/-- An applied commit. -/
def State.commit (s : State) (id : Nat) : Option Commit := s.mgt.commits.find? fun c => c.id == id

/-- Change an applied commit. -/
def State.onCommit (s : State) (id : Nat) (f : Commit → Commit) : State :=
  { s with mgt.commits := s.mgt.commits.map fun c => if c.id = id then f c else c }

/-- Make values run, and act on them. -/
def runValues (recs : NMap Int) (s : State) : State :=
  let ks := recs.map Prod.fst
  let s1 := if ks.contains (paramKey ⟨8, 1, 0⟩ Param.bdeFec.num 0) then decoderLoses s else s
  followKeys s ks ks [] [] ((settleReplaced s1).withRecs recs)

/-- A superframe's values land for some parts of a commit, all in one direction or at one boundary (R22, R69): a value that
acts in both directions runs once both have landed, and until then is in force in its direction only. -/
def landParts (c : Commit) (ps : List CommitPart) (s : State) : State :=
  let mine := fun (p : CommitPart) => c.recs.filter fun e =>
    decide (keyPath e.1 = p.path) && keyCrosses e.1 && (keyDirs e.1).contains p.dir
  let complete := fun (k : Nat) => decide ((keyDirs k).length ≤ 1) ||
    c.parts.all fun q => decide (q.path ≠ keyPath k) || q.done || ps.contains q
  let es := ps.flatMap mine
  let ks := ((es.map Prod.fst).filter complete).eraseDups
  let s1 := if ks.contains (paramKey ⟨8, 1, 0⟩ Param.bdeFec.num 0) then decoderLoses s else s
  let s1 := ps.foldl
    (fun s p => (mine p).foldl
      (fun s e =>
        if complete e.1 then
          { s with mgt.running := setValue s.mgt.running e.1 e.2, mgt.earlyTx := nmDel s.mgt.earlyTx e.1,
                   mgt.earlyRx := nmDel s.mgt.earlyRx e.1 }
        else match p.dir with
          | .tx => { s with mgt.earlyTx := nmPut s.mgt.earlyTx e.1 e.2 }
          | .rx => { s with mgt.earlyRx := nmPut s.mgt.earlyRx e.1 e.2 }) s) (settleReplaced s1)
  let nle := if ps.any fun p => decide (p.path = ⟨6, 2, 0⟩) then c.nle else []
  let dpd := if ps.any fun p => decide (p.path = ⟨7, 3, 0⟩) then c.dpd else []
  followKeys s ks (es.map Prod.fst) nle dpd s1

/-- Take the applied slates out of a seat's slates; what the seat has written since stays (R69) (DEDUCED, log entry 61). -/
def Seat.clearApplied (q : Seat) (t : SlateSet) : Seat :=
  { q with
    slate := q.slate.filter fun e => decide (nmGet t.recs e.1 ≠ some e.2)
    nleSlate := if t.nle.isPrefixOf q.nleSlate then q.nleSlate.drop t.nle.length else q.nleSlate
    dpdSlate := if t.dpd.isPrefixOf q.dpdSlate then q.dpdSlate.drop t.dpd.length else q.dpdSlate }

/-- The payload of a `COMMIT_APPLY` response (Table 2.19). -/
def Commit.payload (c : Commit) : List Byte :=
  leBytes 8 c.txSf ++ leBytes 8 c.rxSf ++ leBytes 2 c.changed ++ leBytes 1 (bit c.rxLocal) ++ leBytes 1 0

/-- Every target has taken effect (R69): the response, the slates, `EV009`. -/
def finishCommit (c : Commit) (s : State) : State :=
  let s := answerCommit c (deferredReply c.deferral c.payload) (dropCommit c.id s)
  raise 9 (if c.silent then s else s.onSeat c.req.seat fun q => q.clearApplied c.applied)

/-! ### Placing (R22, R186 to R188, R193) -/

/-- Place a rate change: s0 is the next superframe, the change `announce_superframes` later or at the next free one, and s0
follows it if it lies more than 65,535 superframes ahead. -/
def placeRate (id : Nat) (s : State) : State :=
  match s.txd.pending with
  | none => s
  | some p =>
    if p.commit ≠ id ∨ p.stage ≠ .resizingDown then s
    else
      let s0 := s.nextTx
      let earliest := s0 + s.cfgN Param.pltAnnounceSuperframes
      let r := reserveTx .rate earliest s
      { r.2 with txd.pending := some { p with stage := .placed, s0 := max s0 (r.1 - 65535), change := r.1,
                                              deferral := r.1 - earliest } }

/-- Place the parts of a commit in one direction, each direction of a Hit commit counted once (R186, R188) (DEDUCED, log entry 60). -/
def placeDir (c : Commit) (d : Dir) (s : State) : State :=
  let mine := fun (q : CommitPart) => decide (q.dir = d) && !q.done
  if c.parts.any mine then
    let onTx := decide (d = .tx) || !s.rxd.sfLock
    let earliest := if onTx then s.nextTx else s.rxd.sf + 1
    let r := if c.hit = false then (earliest, s)
      else if onTx then reserveTx (.commit c.id) earliest s
      else reserveRx (.commit c.id) earliest s
    let put := fun (q : CommitPart) =>
      if mine q then { q with onTx := onTx, deferral := r.1 - earliest, due := r.1 } else q
    r.2.onCommit c.id fun c => { c with parts := c.parts.map put }
  else s

/-- Receive parts whose superframe lock is lost before their superframe lose their reservation and are placed anew by the
transmit arbiter, those of one moment by ascending seat number (R187, R188) (DEDUCED, log entry 60). -/
def replaceLost (s : State) : State :=
  if s.rxd.sfLock then s
  else
    let cs := s.mgt.commits.filter fun c => c.landing && c.parts.any fun p => decide (p.dir = .rx) && !p.onTx && !p.done
    let free := fun (c : Commit) (s : State) =>
      { s with txd.rxReserved := s.txd.rxReserved.filter fun r => decide (r.holder ≠ .commit c.id) }
    overAll (cs.mergeSort fun a b => decide (a.req.seat.val ≤ b.req.seat.val)) (fun c s => placeDir c .rx (free c s)) s

/-- With CORE stopped a committed slate is stored at once, and runs when CORE does (R22). -/
def storeCommit (c : Commit) (s : State) : State :=
  let recs : NMap Int := (c.recs.filter fun e => keyCrosses e.1) ++ c.rateRecs
  let s := { s with
    mgt.stored := recs.foldl (fun (m : NMap Int) (e : Nat × Int) => nmPut m e.1 e.2) s.mgt.stored
    mgt.storedNle := if c.nle = [] then s.mgt.storedNle else c.nle
    mgt.storedDpd := s.mgt.storedDpd ++ c.dpd
    txd.pending := if c.rate then none else s.txd.pending }
  s.onCommit c.id fun (c : Commit) =>
    { c with parts := c.parts.map fun (q : CommitPart) => { q with done := true }, rate := false }

/-- CORE runs again: what has been committed meanwhile takes effect (R22). -/
def takeStored (s : State) : State :=
  if s.coreOff || (decide (s.mgt.stored = []) && decide (s.mgt.storedNle = []) && decide (s.mgt.storedDpd = [])) then s
  else
    let ks := s.mgt.stored.map Prod.fst
    let s1 := if ks.contains (paramKey ⟨8, 1, 0⟩ Param.bdeFec.num 0) then decoderLoses s else s
    followKeys s ks ks s.mgt.storedNle s.mgt.storedDpd
      { (settleReplaced s1).withStored with mgt.stored := [], mgt.storedNle := [], mgt.storedDpd := [] }

/-- Start the landing of a commit: the Units that cross no boundary take effect at once; the other parts are stored with CORE stopped,
and else placed (DEDUCED, log entry 59). -/
def placeCommit (c : Commit) (s : State) : State :=
  let now := c.recs.filter fun e => !keyCrosses e.1
  let s := s.onCommit c.id fun c => { c with landing := true }
  let s := if now = [] then s else takeStored (runValues now s)
  if s.coreOff then storeCommit c s
  else placeDir c .rx (placeDir c .tx (placeRate c.id (replaceLost s)))

/-! ### Stages -/

/-- Start the first resize of a list (R249). -/
def startResizes (id : Nat) (items : List (Nat × Nat × Nat)) (s : State) : State :=
  let rs := items.map fun x => ({ client := x.1, from_ := x.2.1, to_ := x.2.2, since := s.now, commit := id } : Resize)
  let s1 := { s with frm.resizes := s.frm.resizes ++ rs }
  match s.frm.resizes, rs with
  | [], r :: _ => { s1 with frm.resizeClient := r.client, frm.resizeTarget := r.to_ }
  | _, _ => s1

/-- The FlexE group of a calendar element, if its port is in one (R356). -/
def State.calGroup (s : State) (k : Nat) : Option Nat :=
  (List.range 4).find? (s.isPhy (keyElem k / 80))

/-- Put calendar elements into operation; the standby calendar takes the values that they replace (DEDUCED, log entry 67). -/
def takeCalendar (recs : NMap Int) (s : State) : State :=
  let put := fun (old new : NMap Nat) => recs.foldl (fun m e => nmSet 255 m (keyElem e.1) ((nmGet new (keyElem e.1)).getD 255)) old
  let new := recs.foldl (fun m e => nmSet 255 m (keyElem e.1) e.2.toNat) s.hst.calendar
  runValues recs { s with hst.calendar := new, hst.standby := put s.hst.standby s.hst.calendar }

/-- Write the standby calendar and send the calendar request of each group; slots of ports in no group change at once (R372) (DEDUCED, log
entry 67). The groups that must acknowledge. -/
def startCalendar (c : Commit) (s : State) : List Nat × State :=
  let gs := (indices 4).filter fun g => c.calRecs.any fun e => decide (s.calGroup e.1 = some g.val)
  let free := c.calRecs.filter fun e => !(gs.any fun g => decide (s.calGroup e.1 = some g.val))
  let s := if free = [] then s else takeCalendar free s
  let standby := c.calRecs.foldl
    (fun m e => if free.contains e then m else nmSet 255 m (keyElem e.1) e.2.toNat) s.hst.standby
  let s := { s with hst.standby := standby, hst.calAt := s.now }
  (gs.map Fin.val, overAll gs
    (fun g s => (s.send (.flexeRequest g.val)).onFlexe g fun k => { k with switching := true }) s)

/-- Carry a commit on from the head of its plan, through the stages that are complete, to its end (R69). -/
def advanceCommit : Nat → Nat → State → State
  | 0, _, s => s
  | n + 1, id, s =>
    match s.commit id with
    | none => s
    | some c =>
      let drop := fun (s : State) => advanceCommit n id (s.onCommit id fun c => { c with plan := c.plan.tail })
      match c.plan with
      | [] => finishCommit c s
      | .resize items :: _ => if items = [] then drop s else startResizes id items s
      | .calendar _ :: rest =>
        let r := startCalendar c s
        if r.1 = [] then drop r.2 else r.2.onCommit id fun c => { c with plan := .calendar r.1 :: rest }
      | .land :: _ =>
        let s := if c.landing then s else placeCommit c s
        if (s.commit id).any fun c => c.parts.all CommitPart.done && !c.rate then drop s else s

/-- Carry a commit on. -/
def continueCommit (id : Nat) (s : State) : State := advanceCommit 8 id s

/-- The stage at the head of a commit's plan is complete. -/
def stageDone (id : Nat) (s : State) : State := continueCommit id (s.onCommit id fun c => { c with plan := c.plan.tail })

/-! ### Failed stages (R249, R372) -/

/-- A calendar switch is at the head of the commit's plan. -/
def Commit.switches (c : Commit) : Bool :=
  match c.plan with
  | .calendar _ :: _ => true
  | _ => false

/-- Reverse the steps that a commit has made, end its rate change, and answer it, if at all. -/
def undoCommit (id : Nat) (answer : Option Reply) (s : State) : State :=
  match s.commit id with
  | none => s
  | some c =>
    let made := (s.frm.resized.filter fun r => decide (r.commit = id)).map fun r =>
      (paramKey ⟨9, 1, 0⟩ Param.mapUnits.num r.client, (r.from_ : Int))
    let s := if made = [] then s else runValues made s
    let back := c.calOld.filter fun e => decide (s.valueOf e.1 ≠ e.2)
    let s := if back = [] then s else takeCalendar back s
    let s := if c.switches then
        { s with hst.groups := vmap s.hst.groups fun (g : FlexeGroup) => { g with switching := false } }
      else s
    let rate := s.txd.pending.any fun p => decide (p.commit = id)
    if rate && s.rateBeforeS0 then cancelRate answer s
    else
      let s := dropCommit id (if rate then { s with txd.pending := none } else s)
      match answer with
      | some a => answerCommit c a s
      | none => s

/-- A stage of a commit has failed: it is undone and answered `NOT_SUPPORTED`. -/
def failCommit (id : Nat) (s : State) : State := undoCommit id (some (refusal stNotSupported)) s

/-- The first of the waiting resizes is now in progress (DEDUCED, log entry 67). -/
def showResize (s : State) : State :=
  match s.frm.resizes with
  | [] => s
  | r :: rs => { s with frm.resizes := { r with since := s.now } :: rs, frm.resizeClient := r.client,
                        frm.resizeTarget := r.to_ }

/-- The resize in progress has failed: `RESIZE_FAIL`, `EV156`. -/
def resizeFails (s : State) : State :=
  match s.frm.resizes with
  | [] => s
  | r :: _ => showResize (failCommit r.commit (raise 156 { s with frm.resizeFail := true }))

/-! ### Landing (R22, R69, R187, R193, R278) -/

/-- The parts of a commit that are due at a superframe of one clock. -/
def Commit.dueAt (c : Commit) (onTx : Bool) (sf : Nat) : List CommitPart :=
  if c.landing then c.parts.filter fun p => !p.done && p.onTx == onTx && p.due == sf else []

/-- What of a commit is due at a superframe takes effect; a deferral is reported then (R189) (DEDUCED, log entry 59). -/
def landCommit (onTx : Bool) (sf id : Nat) (s : State) : State :=
  match s.commit id with
  | none => s
  | some c =>
    let ps := c.dueAt onTx sf
    if ps = [] then (if c.rateWithdrawn then continueCommit id s else s)
    else
      let late := (ps.map CommitPart.deferral).foldl max 0
      let s := landParts c ps (noteDeferral late s)
      let s := s.onCommit id fun c =>
        { c with
          parts := c.parts.map fun q => if ps.contains q then { q with done := true } else q
          txSf := if ps.any fun p => decide (p.dir = .tx) then sf else c.txSf
          rxSf := if ps.any fun p => decide (p.dir = .rx) then sf else c.rxSf
          rxLocal := if ps.any fun p => decide (p.dir = .rx) then onTx else c.rxLocal
          deferral := max c.deferral late }
      continueCommit id s

/-- s0 of the pending rate change: the headers start to announce it, `EV114` (R193). -/
def announceRate (s : State) : State :=
  match s.txd.pending with
  | some p =>
    if p.stage = .placed ∧ p.s0 = s.txd.sf then
      raise 114 { s with txd.pending := some { p with stage := .announced }, txd.targetSf := p.change % 2 ^ 32,
                         txd.countdown := p.change - p.s0 }
    else s
  | none => s

/-- The change superframe (R193 step 4): the new values take effect in `SHP`, `PLT` and `FRM`, `EV115`. -/
def landRate (s : State) : State :=
  match s.txd.pending with
  | some p =>
    if p.stage = .announced ∧ p.change = s.txd.sf then
      let more := (s.commit p.commit).any fun c => c.plan.tail.any fun x => match x with | .resize _ => true | _ => false
      let recs := ((s.commit p.commit).map Commit.rateRecs).getD []
      let s := noteDeferral p.deferral s
      let s := { s with txd.pending := if more then some { p with stage := .resizingUp } else none, txd.countdown := 0,
                        txd.accepted := s.txd.accepted.filter fun a => decide (a.values ≠ p.values), txd.changes := satInc 16 s.txd.changes }
      let s := class0Step (raise 115 (runValues recs s))
      let s := judgeDummy (s.onCommit p.commit fun c =>
        { c with rate := false, txSf := p.change, deferral := max c.deferral p.deferral })
      continueCommit p.commit s
    else s
  | none => s

/-- A key changeover at its superframe (R272, R278): slot, epoch and counter, `EV164`, `EV170`, and the response. -/
def landKey (c : ChannelId) (s : State) : State :=
  match (s.channel c).pending with
  | none => s
  | some p =>
    if p.sf ≠ s.txd.sf then s
    else
      let epoch := match (s.channel c).txEpoch with
        | none => 0
        | some e => e + 1
      let s := noteDeferral p.deferral s
      let s := s.onChannel c fun k =>
        { k with txSlot := p.slot, txUsing := true, txEpoch := some epoch, txCounter := 0, txNoKey := false, pending := none }
      let s := raiseFor 164 c.val s
      let s := if epoch = 0xFFFF00 then raiseFor 170 c.val s else s
      answerActivation c (deferredReply p.deferral (leBytes 8 p.sf)) s

/-- Everything that a transmit superframe holds takes effect, in the order of R187; its reservation is over. -/
def landTx (s : State) : State :=
  let n := s.txd.sf
  let s := { s with txd.reserved := s.txd.reserved.filter fun r => decide (n < r.sf) }
  let s := overAll (indices 64) landKey (landRate (announceRate s))
  overAll (s.mgt.commits.map Commit.id) (landCommit true n) s

/-- The transmit superframes at which something takes effect. -/
def State.dueTx (s : State) : List Nat :=
  (match s.txd.pending with
    | some p => if p.stage = .placed then [p.s0, p.change] else if p.stage = .announced then [p.change] else []
    | none => []) ++
  (indices 64).filterMap (fun c => (s.channel c).pending.map KeyChange.sf) ++
  s.mgt.commits.flatMap fun c => (c.parts.filter fun p => c.landing && !p.done && p.onTx).map CommitPart.due

/-- The two announcement words of the present superframe (Table 5.5). Without a change announced, the fields of the next
format repeat the one in use (DEDUCED, log entry 62). -/
def State.announcement (s : State) : WordA × WordB :=
  let p := s.txd.pending.filter fun p => decide (p.stage = .announced)
  let next := (p.map PendingRate.values).getD ⟨s.txd.capacity, s.txd.entropy, s.txd.pilots⟩
  ({ sf := s.txd.sf % 2 ^ 32, entropy := s.txd.entropy, pilots := s.txd.pilots, capacity := s.txd.capacity,
     pending := p.isSome },
   { countdown := (p.map fun p => p.change - s.txd.sf).getD 0, nextEntropy := next.entropy, nextPilots := next.pilots,
     nextCapacity := next.capacity, changeId := (p.map PendingRate.changeId).getD s.txd.changeId })

/-- Send the header of the present superframe, where there is one (R177, R185, R297, Table 5.8). -/
def sendHeader (s : State) : State :=
  if s.sendsMain && !s.txInterop then
    s.send (.header s.txd.sf (announceCode s.announcement.1.toNat) (announceCode s.announcement.2.toNat))
  else s

/-- A transmit superframe begins: the count takes its number, what it holds lands, and its header is sent (DEDUCED, log entry 62). -/
def enterTx (n : Nat) (s : State) : State :=
  let s := { s with txd.sf := n, txd.countdown := match s.txd.pending with
    | some p => if p.stage = .announced then p.change - n else 0
    | none => 0 }
  sendHeader (landTx s)

/-- Let transmit superframes go by up to a target, stopping at each one that holds something; `fuel` bounds the stops. -/
def advanceTo : Nat → Nat → State → State
  | 0, target, s => enterTx target s
  | fuel + 1, target, s =>
    match (s.dueTx.filter fun n => decide (s.txd.sf < n ∧ n < target)).min? with
    | none => enterTx target s
    | some n => advanceTo fuel target (enterTx n s)

/-- Let the transmit superframe count reach a target (R178): it runs once started, and not while CORE is stopped. -/
def advanceTx (target : Nat) (s : State) : State :=
  if s.txd.counting = false ∨ s.coreOff ∨ target ≤ s.txd.sf then s
  else
    let s := replaceLost s
    advanceTo (s.dueTx.length + 1) target s

/-! ### Commits that a reset meets (R77, R78, Table 2.15) -/

/-- A commit has crossed a boundary: one of its targets has taken effect, or its rate change is announced. -/
def State.crossed (s : State) (c : Commit) : Bool :=
  c.landedInPart || s.txd.pending.any fun p => decide (p.commit = c.id) && !s.rateBeforeS0

/-- Cancel a commit that has crossed no boundary: a rate change as R196 says, keeping the decreases made; another is undone. -/
def cancelCommit (c : Commit) (answer : Option Reply) (s : State) : State :=
  if s.txd.pending.any fun p => decide (p.commit = c.id) then cancelRate answer s else undoCommit c.id answer s

/-- A seat reset or a control restart: a rate change before s0 is cancelled (R196); else a commit that has crossed a boundary completes without
response, and another is cancelled (R78). -/
def abandonCommit (c : Commit) (s : State) : State :=
  if s.rateBeforeS0 && s.txd.pending.any (fun p => decide (p.commit = c.id)) then cancelRate none s
  else if s.crossed c then s.onCommit c.id fun c => { c with silent := true } else cancelCommit c none s

/-- A Unit reset: a commit that names a reset target is answered `RESET_REQUIRED`; if it has crossed a boundary elsewhere, its
other targets complete (DEDUCED, log entry 37). An announced rate change lands with all its values (R196). -/
def interruptCommit (ps : List Path) (c : Commit) (s : State) : State :=
  let answer := refusal stResetRequired
  if s.crossed c then
    let left := fun (m : NMap Int) => m.filter fun e => !ps.contains (keyPath e.1)
    let announced := s.txd.pending.any fun p => decide (p.commit = c.id ∧ p.stage = .announced)
    let s := (answerCommit c answer s).onCommit c.id fun c =>
      { c with
        silent := true
        recs := left c.recs
        rateRecs := if announced then c.rateRecs else left c.rateRecs
        calRecs := left c.calRecs
        parts := c.parts.filter fun q => !ps.contains q.path }
    if c.landing then continueCommit c.id s else s
  else cancelCommit c (some answer) s

/-- Requests that wait for a later step lose their responses at a seat reset or a control restart: what they have started goes
on (Tables 2.15 and 8.6), except a policy exchange (DEDUCED, log entry 37). -/
def forgetWaiting (mine : Waiting → Bool) (s : State) : State :=
  { s with mgt.waiting := s.mgt.waiting.filter fun w => !mine w }

/-- Requests that wait for a later step are answered; an activation among them is cancelled. -/
def refuseWaiting (mine : Waiting → Bool) (answer : Reply) (s : State) : State :=
  overAll (s.mgt.waiting.filter mine) (fun w s =>
    let s := { s with mgt.waiting := s.mgt.waiting.erase w }
    let s := match w with
      | .keyActivate _ c => if h : c < 64 then cancelActivation ⟨c, h⟩ s else s
      | _ => s
    respond w.req answer s) s

end Sys2Proof.Machine
end

