-- ==== Sys2Proof/Machine/Seats.lean ====
section
/-!
DEFINITION. Seats: attach, presence and reset (R36, R44 to R47, R77), the rings and their dispatcher (R42, R45, R54, R74 to
R76, R589), and the writes that no Unit takes (R75).
-/
namespace Sys2Proof.Machine

/-- What a seat writes to its own registers and rings: nothing is taken while MGMT is stopped (R422), nor from a quarantined
seat (R76). -/
def seatWrite (i : SeatId) (s : State) (act : State → State) : Result :=
  if s.clk.mgmtStopped ∨ (s.seat i).quarantined then .next s else .next (act s)

/-! ### Dispatcher (R54, R589) -/

/-- The index in the firmware memory of word `k` of a seat's request ring. -/
def ringWord (i : SeatId) (k : Nat) : Nat := 1024 * i.val + k % 1024

/-- Read words of a request ring through the checker (R440, Table 14.4): whether one is uncorrectable or poisoned, the bytes,
and what the reads leave (DEDUCED, log entry 34). -/
def readRingWords (i : SeatId) : Nat → Nat → State → Bool × List Byte × State
  | 0, _, s => (false, [], s)
  | n + 1, k, s =>
    let w := ringWord i k
    let r := readWord 1 w 0 false s
    let v := leNat (readBytes (s.seat i).reqRing (8 * (k % 1024)) 8) ^^^ (r.2.mem.flipsOf 1 w % 2 ^ 64)
    let rest := readRingWords i n (k + 1) r.2
    let bad := match r.1 with
      | .good => false
      | .bad _ => true
    (bad || rest.1, leBytes 8 v ++ rest.2.1, rest.2.2)

/-- The opcodes that may be Urgent (Table 2.11). -/
def urgentCapable (opcode : Nat) : Bool := [0x0030, 0x0040, 0x0A20, 0x0C10, 0x0F10, 0x0F11].contains opcode

/-- Check 5 of R589, for the Urgent class. -/
def urgentRefusal (h : Header) (out : Nat) : Option Reply :=
  if h.cls ≠ 0 then none
  else if urgentCapable h.opcode = false ∨ h.entries ≠ 0 then some (refusal stNotUrgent)
  else if 4 ≤ out then some (refusal stUrgentLimit)
  else none

/-- Checks 1, 3 and 4 of R589 in their places: what is wrong with a header whose request may use `avail` entries, before the
CRC and after it. -/
def extentFault (h : Header) (avail : Nat) : Option Nat :=
  if 1004 < h.length then some 32 else if h.entries + 1 ≠ entriesFor h.length ∨ avail < h.entries + 1 then some 24 else none

def fieldFault (h : Header) (raw : Nat) : Option Nat := if h.cls = 3 then some 16 else firstRsvBit raw

/-- The answer of the dispatcher to a request (DEDUCED, log entry 34). -/
def answerHeader (i : SeatId) (h : Header) (rep : Reply) (s : State) : State :=
  post i { opcode := h.opcode, cls := h.cls, quiet := h.quiet, tag := h.tag, seq := h.seq, reply := rep } s

/-- The first doorbell has failed: its later requests are discarded (R75). -/
def failDoorbell (i : SeatId) (s : State) : State :=
  s.onSeat i fun q => match q.doorbells with
    | [] => q
    | d :: ds => { q with doorbells := { d with failed := true } :: ds }

/-- Check one request, the one at the head, and answer it or pass it to its channel; `d` is its doorbell (R589) (DEDUCED, log entry 34). -/
def examine (i : SeatId) (d : Doorbell) (s : State) : State :=
  let q := s.seat i
  let head := q.reqHead
  let avail := (d.tail - head).toNat
  let first := 16 * (head.toNat % 64)
  let r := readRingWords i 2 first s
  let raw := leNat r.2.1
  let h := Header.ofNat raw
  let move := fun (s : State) => s.onSeat i fun q => { q with reqHead := head + BitVec.ofNat 7 (min (h.entries + 1) avail) }
  let fail := fun (kind : Nat) (rep : Reply) (s : State) => failDoorbell i (violation i kind head.toNat (answerHeader i h rep s))
  if d.failed then move (answerHeader i h (refusal stDiscarded) r.2.2)
  else if r.1 then move (answerHeader i h (refusal stInternal) r.2.2)
  else match extentFault h avail with
    | some b => move (fail 4 (refusal stBadHeader b) r.2.2)
    | none =>
      let r2 := readRingWords i (16 * (h.entries + 1) - 2) (first + 2) r.2.2
      let body := (r.2.1 ++ r2.2.1).take (16 + h.length)
      let crc := leNat (((r.2.1 ++ r2.2.1).drop (16 + h.length)).take 4)
      let s := r2.2.2
      if r2.1 then move (answerHeader i h (refusal stInternal) s)
      else if crc32c body ≠ crc then move (fail 1 (refusal stBadCrc) s)
      else match fieldFault h raw with
        | some b => move (fail 4 (refusal stBadHeader b) s)
        | none =>
          if h.seq ≠ q.seqExpect.toNat then move (fail 2 (refusal stBadSequence (q.seqExpect.toNat % 2 ^ 24)) s)
          else
            let s := s.onSeat i fun q => { q with seqExpect := q.seqExpect + 1 }
            match urgentRefusal h q.urgentOut, classOfCode h.cls with
            | some rep, _ => move (answerHeader i h rep s)
            | none, none => move s
            | none, some c =>
              let req : Request :=
                { seat := i, cls := c, quiet := h.quiet, opcode := h.opcode, tag := h.tag, seq := h.seq, target := h.target,
                  payload := body.drop 16, doorbell := d.at_ }
              let s := s.onSeat i fun q => { q with urgentOut := if c = .urgent then q.urgentOut + 1 else q.urgentOut }
              move { s with mgt.channel := s.mgt.channel ++ [req] }

/-- Run the dispatcher of a seat: it works through its doorbells in order, and stops while the seat's responses have no room
(R74). -/
def dispatch : Nat → SeatId → State → State
  | 0, _, s => s
  | n + 1, i, s =>
    let q := s.seat i
    match q.doorbells with
    | [] => s
    | d :: ds =>
      if d.tail = q.reqHead then dispatch n i (s.onSeat i fun q => { q with doorbells := ds })
      else if q.rspFull ∨ q.rspWait ≠ [] then s
      else dispatch n i (examine i d s)

/-- Run the dispatcher until it has nothing to do or must stop (DEDUCED, log entry 34). -/
def runDispatcher (i : SeatId) (s : State) : State := dispatch (65 + (s.seat i).doorbells.length) i s

/-- The free entries of a seat's request ring. -/
def Seat.freeEntries (q : Seat) : Nat := 64 - (q.reqTail - q.reqHead).toNat

/-- `DOORBELL` (R45, R74, R589): a write of `MBX_REQ_TAIL`. `upsets` are the wrong bits of ring words, by word of the ring,
that have come up since the words were written. -/
def execDoorbell (seat : SeatId) (tail : BitVec 7) (upsets : List (Nat × Nat)) (s : State) : Result :=
  seatWrite seat s fun s =>
    let q := s.seat seat
    let s := upsets.foldl (fun s u => upset 1 (ringWord seat u.1) u.2 s) s
    if q.attached = false then refuseWrite seat s
    else if q.freeEntries < (tail - q.reqTail).toNat then
      let free := q.freeEntries
      violation seat 3 q.reqTail.toNat
        (post seat { opcode := 0, cls := 0, quiet := false, tag := 0, seq := 0, reply := refusal stRingOverrun free } s)
    else if tail = q.reqTail then s
    else runDispatcher seat (s.onSeat seat fun q =>
      { q with reqTail := tail, doorbells := q.doorbells ++ [{ tail := tail, at_ := s.now }] })

/-- `RSP_HEAD_WRITE` (R74): the seat frees response entries; what waits is posted, and the dispatcher goes on. -/
def execRspHeadWrite (seat : SeatId) (head : BitVec 7) (s : State) : Result :=
  seatWrite seat s fun s =>
    let s := s.onSeat seat fun q =>
      let full := decide ((q.rspTail - head).toNat = 64)
      { q with rspHead := head, rspFullSince := if full then q.rspFullSince else none, rspStalled := q.rspStalled && full }
    runDispatcher seat (flushPosts seat s)

/-- `RSP_RING_STALLED` (R74): the response ring has been full for 1 ms. -/
def execRspRingStalled (seat : SeatId) (s : State) : Result :=
  match (s.seat seat).rspFullSince with
  | none => .next s
  | some t =>
    if (s.seat seat).rspStalled then .next s
    else .next (raise 6 ((s.reach (t + 1000)).onSeat seat fun q => { q with rspStalled := true }))

/-- Write bytes of one word of a request ring (R441, R442): a whole word replaces the codeword, fewer bytes are a
read-modify-write. -/
def writeRingWord (i : SeatId) (k lo : Nat) (bs : List Byte) (s : State) : State :=
  let w := ringWord i k
  let put := fun (a : Nat) (bs : List Byte) (s : State) => s.onSeat i fun q => { q with reqRing := writeBytes q.reqRing a bs }
  if bs.length = 8 then put (8 * k) bs (setFlips 1 w 0 s)
  else
    let old := leNat (readBytes (s.seat i).reqRing (8 * k) 8)
    let r := partialWrite 1 w 2 s
    let s := if r.1 = 0 then r.2 else put (8 * k) (leBytes 8 (old ^^^ r.1)) r.2
    put (8 * k + lo) bs s

/-- Write bytes of a request ring from an offset upwards, word by word; what lies beyond the ring is not stored. -/
def writeRingBytes : Nat → SeatId → Nat → List Byte → State → State
  | 0, _, _, _, s => s
  | fuel + 1, i, a, bs, s =>
    if bs = [] ∨ 8192 ≤ a then s
    else
      let n := 8 - a % 8
      writeRingBytes fuel i (a + (bs.take n).length) (bs.drop n) (writeRingWord i (a / 8) (a % 8) (bs.take n) s)

/-- An access that R40 allows in a ring area: whole aligned 32-bit words, one of them, or for a PCIe seat a burst of up to 128 bytes. -/
def ringAccess (pcie : Bool) (off len : Nat) : Bool :=
  decide (off % 4 = 0 ∧ len % 4 = 0 ∧ 0 < len ∧ len ≤ if pcie then 128 else 4)

/-- `RING_ENTRY_WRITE` (R40, R441): a seat writes bytes of its request ring; `flips` are bits of the first word that have gone wrong
since it was last written. An access of another form than R40 allows writes nothing (DESIGN CHOICE, log entry 96). -/
def execRingEntryWrite (seat : SeatId) (offset : Fin 8192) (bytes : List Byte) (flips : Nat) (s : State) : Result :=
  seatWrite seat s fun s =>
    if ringAccess (isPcieSeat s.mapB seat) offset.val bytes.length = false then s
    else writeRingBytes (bytes.length + 1) seat offset.val bytes (upset 1 (ringWord seat (offset.val / 8)) flips s)

/-! ### Attach, presence and reset -/

/-- What a seat reset leaves of a seat's own part (Table 2.15) (DEDUCED, log entry 35). -/
def Seat.afterReset (q : Seat) : Seat :=
  { q with
    quarantined := false
    violTimes := []
    rspStalled := false
    reqTail := 0, reqHead := 0, rspTail := 0, rspHead := 0
    seqExpect := 0
    reqRing := []
    rspRing := []
    doorbells := []
    rspWait := []
    rspFullSince := none
    urgentOut := 0
    events := { sticky := q.events.sticky, overflow := q.events.overflow, lost := q.events.lost }
    failedClaim := none
    slate := [], nleSlate := [], dpdSlate := []
    keyStage := Vector.replicate 8 0
    shadowPair := none, shadowHi := 0 }

/-- A seat reset (R77, R78, Table 2.15): `EV004` (DEDUCED, log entry 35). -/
def seatReset (i : SeatId) (s : State) : State :=
  let others := fun (r : Request) => decide (r.seat ≠ i)
  let s := { s with mgt.channel := s.mgt.channel.filter others, mon.waiting := s.mon.waiting.filter others,
                    mon.atBoundary := s.mon.atBoundary.filter others }
  let s := forgetWaiting (fun w => decide (w.req.seat = i)) s
  let s := overAll (s.mgt.commits.filter fun c => decide (c.req.seat = i)) abandonCommit s
  let lo := faultKey 1 (ringWord i 0)
  let s := seatResetQueues i (s.onSeat i Seat.afterReset)
  raise 4 { s with mem.flips := s.mem.flips.filter fun e => decide (e.1 < lo ∨ lo + 1024 ≤ e.1) }

/-- Detach a seat (R47): its tolerances are dropped (R539), it is reset, and `EV001` is raised if it was attached (DEDUCED, log entry 35). -/
def detachSeat (i : SeatId) (s : State) : State :=
  let was := (s.seat i).attached
  let s := { s with pwr.tolerances := s.pwr.tolerances.set i (Vector.replicate 4 none) }
  let s := s.onSeat i fun q => { q with attached := false, absent := false, detached := q.detached || was }
  let s := seatReset i s
  judgeGroups (if was then raise 1 s else s)

/-- A reset by the PCIe link takes the MSI-X table with it (Table 2.15) (PRESUMED, log entry 26). -/
def resetMsix (i : SeatId) (s : State) : State :=
  s.onSeat i fun q => { q with msix := Vector.replicate 64 {}, msixPending := 0 }

/-- `FUNCTION_LEVEL_RESET` (R36). -/
def execFunctionLevelReset (pf : Fin 2) (s : State) : Result :=
  let i := seatOfFunction s.mapB pf
  .next (resetMsix i (seatReset i s))

/-- `PCIE_PERST` (R36): the endpoint is held in reset; both PCIe seats are reset and then detached. -/
def execPciePerst (s : State) : Result :=
  .next (overAll [seatOfFunction s.mapB 0, seatOfFunction s.mapB 1] (fun i s => detachSeat i (resetMsix i (seatReset i s)))
    { s with mgt.perst := true })

/-- `PCIE_PERST_RELEASE` (R532): the endpoint trains. -/
def execPciePerstRelease (s : State) : Result := .next { s with mgt.perst := false }

/-- `ATTACH` (R44): a write of `SEAT_ATTACH` (DEDUCED, log entry 35). -/
def execAttach (seat : SeatId) (value : Word) (s : State) : Result :=
  seatWrite seat s fun s =>
    if bits value.toNat 16 8 ≠ 1 then refuseWrite seat s
    else
      let s := if (s.seat seat).detached ∨ (s.seat seat).absent then seatReset seat s else s
      judgeGroups (raise 0 (s.onSeat seat fun q =>
        { q with
          attached := true, absent := false, detached := false
          attachReg := bits value.toNat 0 24
          nonceEcho := bits value.toNat 0 16
          seqExpect := 0
          hbStart := s.now }))

/-- `SEAT_RESET` (R77): taken from a quarantined seat also (R76). -/
def execSeatReset (seat : SeatId) (s : State) : Result := if s.clk.mgmtStopped then .next s else .next (seatReset seat s)

/-- `DETACH` (R47). -/
def execDetach (seat : SeatId) (s : State) : Result := seatWrite seat s (detachSeat seat)

/-- `HEARTBEAT` (R46): any write restarts the absence timer. -/
def execHeartbeat (seat : SeatId) (beat : Word) (s : State) : Result :=
  seatWrite seat s fun s => s.onSeat seat fun q => { q with beat := beat.toNat, hbStart := s.now }

/-- `SEAT_HB_TIMEOUT_WRITE` (R46, Table 2.6). -/
def execSeatHbTimeoutWrite (seat : SeatId) (value : Word) (s : State) : Result :=
  seatWrite seat s fun s =>
    let ms := bits value.toNat 0 16
    if ms = 0 ∨ (10 ≤ ms ∧ ms ≤ 60000) then s.onSeat seat fun q => { q with hbTimeoutMs := ms, hbStart := s.now }
    else refuseWrite seat s

/-- `SEAT_ABSENT` (R46): the absence timer has reached `TIMEOUT_MS`. -/
def execSeatAbsent (seat : SeatId) (s : State) : Result :=
  let q := s.seat seat
  if q.attached = false ∨ q.absent ∨ q.hbTimeoutMs = 0 then .next s
  else .next (raise 2 ((s.reach (q.hbStart + 1000 * q.hbTimeoutMs)).onSeat seat fun q => { q with absent := true }))

/-- The seat may write the firmware image through the capture window: PCIe boot mode, before `FW_READY` first sets (R533)
(DEDUCED, log entry 43). -/
def State.bootWindow (s : State) (i : SeatId) : Bool :=
  decide (i = seatOfFunction s.mapB 0) && s.mgt.seq.straps.getLsbD 4 && !s.mgt.seq.everReady

/-- `UNMAPPED_WRITE` (R39, R41, R75): a write to an unmapped offset, or to the capture window at the offset given (DEDUCED, log entry 43). -/
def execUnmappedWrite (seat : SeatId) (capture : Option Nat) (bytes : List Byte) (s : State) : Result :=
  seatWrite seat s fun s =>
    if s.bootWindow seat && capture.any fun a => decide (a + bytes.length ≤ 4194304) then
      { s with mem.image := writeBytes s.mem.image (capture.getD 0) bytes }
    else refuseWrite seat (violation seat 5 0 s)

end Sys2Proof.Machine
end

