-- ==== Sys2Proof/Machine/Ownership.lean ====
section
/-!
DEFINITION. The Gound opcodes of MGT that concern ownership, slates and seats (R59 to R66, Table 2.19), with `MUTE` (R111,
R374) and `EVENT_ACK` (R561).
-/
namespace Sys2Proof.Machine

/-! ### Lists of paths (R53, R61) -/

/-- One result of a list: status code and detail byte (Table 2.19). -/
def resultBytes (st : Nat) (detail : Nat := 0) : List Byte := leBytes 1 st ++ leBytes 1 detail

/-- Decide each path of a list in order, and gather the results. -/
def eachPath (f : Path → State → List Byte × State) : List Path → State → List Byte × State
  | [], s => ([], s)
  | p :: ps, s =>
    let r := f p s
    let rest := eachPath f ps r.2
    (r.1 ++ rest.1, rest.2)

/-- Serve a request that carries a list after `skip` bytes: it must name `MGT.MBX.0`, and its list must be well formed
(DEDUCED, log entry 6). -/
def serveList (req : Request) (skip : Nat) (s : State) (act : List Path → State → State) : Result :=
  .next (serve req s fun s =>
    if req.target ≠ ⟨0, 4, 0⟩ then respond req (refusal stBadTarget) s
    else match readPaths (req.payload.drop skip) false with
      | .bad d => respond req (refusal stBadValue d) s
      | .ok ws => act (ws.map Path.ofWord) s)

/-- Answer a request with the results of its list. -/
def answerEach (req : Request) (f : Path → State → List Byte × State) (ps : List Path) (s : State) : State :=
  let r := eachPath f ps s
  respond req (okWith r.1) r.2

/-- The detail of `OWNED`: the owner, with bit 7 set if it is absent. -/
def ownedDetail (s : State) (o : SeatId) : Nat := o.val + 128 * bit (s.seat o).absent

/-- A target that belongs to another seat for good: `MGT.SEATn` of that seat (R62). -/
def foreignSeat (i : SeatId) (p : Path) : Bool := decide (p.sec = 0 ∧ p.unit < 4 ∧ p.unit ≠ i.val)

/-- The seat's own `MGT.SEATn` (R62). -/
def ownSeat (i : SeatId) (p : Path) : Bool := decide (p.sec = 0 ∧ p.unit = i.val)

/-- One target of `CLAIM` (R62, R63) (DEDUCED, log entry 36). -/
def claimOne (i : SeatId) (p : Path) (s : State) : List Byte × State :=
  if p.isTarget = false then (resultBytes stBadTarget, s)
  else if s.resetRequired p then (resultBytes stResetRequired, s)
  else match s.ownerOf p with
    | none => (resultBytes stOk, setOwner p (some i) s)
    | some o => if o = i then (resultBytes stOk, s) else (resultBytes stOwned (ownedDetail s o), s)

/-- The targets of a list that a claim by a seat finds owned. -/
def ownedTargets (i : SeatId) (ps : List Path) (s : State) : List Nat :=
  (ps.filter fun p => p.isTarget && !s.resetRequired p && (s.ownerOf p).any fun o => decide (o ≠ i)).map Path.key

/-- A repeat of a failed claim (R63): it names a target that was owned in the seat's most recent failed claim, and its
doorbell arrives within 100 µs of the posting of that claim's response. A doorbell that came before the posting counts as within them, in
the same doorbell or while the response waits for room (DESIGN CHOICE, log entry 95). -/
def isRepeat (req : Request) (ps : List Path) (s : State) : Bool :=
  (s.seat req.seat).failedClaim.any fun f =>
    (f.postedAt.all fun t => decide (req.doorbell ≤ t + 100)) && ps.any fun p => f.targets.contains p.key

/-- The failed claim that a `CLAIM` has just become (R63): its response is posted now unless it waits for room. A response that `QUIET`
suppresses counts as posted when it is suppressed (DESIGN CHOICE, log entry 95). -/
def failedClaimOf (req : Request) (owned : List Nat) (s : State) : FailedClaim :=
  { targets := owned, seq := req.seq,
    postedAt := if (s.seat req.seat).rspWait.any fun p => p.opcode == req.opcode && p.seq == req.seq then none else some s.now }

/-- `CLAIM` (R63, Table 2.13). -/
def execClaim (req : Request) (s : State) : Result :=
  serveList req 0 s fun ps s =>
    if isRepeat req ps s then raise 7 (respond req (refusal stRetryTooSoon) s)
    else
      let owned := ownedTargets req.seat ps s
      let s := answerEach req (claimOne req.seat) ps s
      if owned = [] then s else s.onSeat req.seat fun q => { q with failedClaim := some (failedClaimOf req owned s) }

/-- One target of `RELEASE` or `DELEGATE`, which gives it the owner `o` (R61, R62). -/
def handOver (i : SeatId) (o : Option SeatId) (p : Path) (s : State) : List Byte × State :=
  if p.isTarget = false then (resultBytes stBadTarget, s)
  else if s.resetRequired p then (resultBytes stResetRequired, s)
  else if ownSeat i p then (resultBytes stNotPermitted, s)
  else if s.owns i p = false then (resultBytes stNotOwner (ownerDetail (s.ownerOf p)), s)
  else (resultBytes stOk, setOwner p o s)

/-- `RELEASE` (R61). -/
def execRelease (req : Request) (s : State) : Result :=
  serveList req 0 s fun ps s => answerEach req (handOver req.seat none) ps s

/-- `DELEGATE` (R61, Table 2.19): word 0 names the seat, which must be attached (DEDUCED, log entry 6). -/
def execDelegate (req : Request) (s : State) : Result :=
  .next (serve req s fun s =>
    let w := u32At req.payload 0
    let taker : SeatId := ⟨w % 4, Nat.mod_lt _ (by decide)⟩
    if req.target ≠ ⟨0, 4, 0⟩ then respond req (refusal stBadTarget) s
    else if req.payload.length < 4 ∨ 4 ≤ w then respond req (refusal stBadValue 0xFFFFFF) s
    else match readPaths (req.payload.drop 4) false with
      | .bad d => respond req (refusal stBadValue d) s
      | .ok ws =>
        if (s.seat taker).attached = false then respond req (refusal stNotPermitted) s
        else answerEach req (handOver req.seat (some taker)) (ws.map Path.ofWord) s)

/-- One target of `OWNER_QUERY` (Table 2.19). -/
def queryOne (p : Path) (s : State) : List Byte × State :=
  if p.isTarget = false then (leBytes 1 0xFF ++ leBytes 1 0x80, s)
  else match s.ownerOf p with
    | none => (leBytes 1 0xFF ++ leBytes 1 0, s)
    | some o =>
      let q := s.seat o
      (leBytes 1 o.val ++ leBytes 1 (bit q.absent + 2 * bit q.detached + 4 * bit q.quarantined), s)

/-- `OWNER_QUERY` (R61). -/
def execOwnerQuery (req : Request) (s : State) : Result := serveList req 0 s (answerEach req queryOne)

/-- The owner of a target keeps it against `RECLAIM`: it is attached, not absent and not quarantined (R65, Table 2.11)
(DEDUCED, log entry 36). -/
def Seat.holds (q : Seat) : Bool := q.attached && !q.absent && !q.quarantined

/-- One target of `RECLAIM` (R62, R65); a target that no seat owns is taken (DEDUCED, log entry 36). -/
def reclaimOne (i : SeatId) (p : Path) (s : State) : List Byte × State :=
  if p.isTarget = false then (resultBytes stBadTarget, s)
  else if s.resetRequired p then (resultBytes stResetRequired, s)
  else if foreignSeat i p || (s.ownerOf p).any fun o => (s.seat o).holds then (resultBytes stNotPermitted, s)
  else (resultBytes stOk, setOwner p (some i) s)

/-- `RECLAIM` (R65): reserved to `SEAT0` (DEDUCED, log entry 6). -/
def execReclaim (req : Request) (s : State) : Result :=
  .next (serve req s fun s =>
    if req.seat ≠ 0 then respond req (refusal stNotPermitted) s
    else if req.target ≠ ⟨0, 4, 0⟩ then respond req (refusal stBadTarget) s
    else match readPaths req.payload false with
      | .bad d => respond req (refusal stBadValue d) s
      | .ok ws => answerEach req (reclaimOne req.seat) (ws.map Path.ofWord) s)

/-- `NOP` (Table 2.19): the protocol version, and the `VERSION` and `BUILD` of the running image. -/
def execNop (req : Request) (s : State) : Result :=
  .next (serve req s fun s =>
    match targetCheck s req false with
    | some rep => respond req rep s
    | none =>
      if req.payload ≠ [] then respond req (refusal stBadValue) s
      else respond req (okWith (leBytes 1 1 ++ leBytes 1 0 ++ leBytes 2 s.mgt.seq.version ++ leBytes 4 s.mgt.build)) s)

/-! ### Slates (R60, R66) -/

/-- Serve a request that acts on its own target (DEDUCED, log entry 6). -/
def serveOwn (req : Request) (needOwner : Bool) (s : State) (act : State → State) : Result :=
  .next (serve req s fun s =>
    match targetCheck s req needOwner with
    | some rep => respond req rep s
    | none => act s)

/-- A parameter row that `SEC.CIP` has in instance 0 only (R291). -/
def deviceWide (p : Path) (num : Nat) : Bool := decide (p.sec = 10 ∧ p.unit = 0 ∧ p.inst ≠ 0 ∧ 7 ≤ num ∧ num < 10)

/-- The value that a record writes, if the record names an element of a parameter of the target and its value is in the
parameter's own range (R60). -/
def ParamRecord.value (r : ParamRecord) (p : Path) : Option Int :=
  match findParam p.sec p.unit r.num with
  | none => none
  | some row =>
    let v : Int := if row.signed then intOfNat 64 r.raw else r.raw
    if r.elem < row.count ∧ row.inRange v then some v else none

/-- `SLATE_WRITE` (R60): all records of the request, or none. A payload that is not a whole number of records is refused with the number of
its whole records, the index of the one cut short, as `DETAIL` (DESIGN CHOICE, log entry 6). -/
def execSlateWrite (req : Request) (s : State) : Result :=
  serveOwn req true s fun s =>
    let rs := (records 12 req.payload).map ParamRecord.ofBytes
    if req.payload.length % 12 ≠ 0 ∨ 83 < rs.length then respond req (refusal stBadValue rs.length) s
    else if rs.any fun r => deviceWide req.target r.num then respond req (refusal stBadTarget) s
    else match rs.findIdx? fun r => (r.value req.target).isNone with
      | some i => respond req (refusal stBadValue i) s
      | none =>
        respond req okReply (s.onSeat req.seat fun q =>
          { q with slate := rs.foldl (fun m r => match r.value req.target with
              | some v => nmPut m (paramKey req.target r.num r.elem) v
              | none => m) q.slate })

/-- The records of a seat's slate for a target, in ascending parameter number and element. -/
def Seat.recordsFor (q : Seat) (p : Path) : NMap Int := q.slate.filter fun e => decide (keyPath e.1 = p)

/-- `SLATE_READ` (Table 2.19). -/
def execSlateRead (req : Request) (s : State) : Result :=
  serveOwn req true s fun s =>
    if req.payload.length ≠ 2 then respond req (refusal stBadValue) s
    else
      let rs := (s.seat req.seat).recordsFor req.target
      let shown := (rs.drop (u16At req.payload 0)).take 83
      respond req (okWith (leBytes 2 rs.length ++ leBytes 2 0 ++
        shown.flatMap fun e => recordBytes (keyNum e.1) (keyElem e.1) e.2)) s

/-- `SLATE_CLEAR` (Table 2.19). -/
def execSlateClear (req : Request) (s : State) : Result :=
  serveOwn req true s fun s =>
    if req.payload ≠ [] then respond req (refusal stBadValue) s
    else respond req okReply (s.onSeat req.seat fun q => q.clearSlate req.target)

/-- One item of `PARAM_READ`: the record of the running value, if the parameter has such an element. -/
def readItem (s : State) (p : Path) (b : List Byte) : Option (List Byte) :=
  let num := u16At b 0
  let elem := u16At b 2
  match findParam p.sec p.unit num with
  | none => none
  | some row => if elem < row.count then some (recordBytes num elem (runValue s.mgt.running row p elem)) else none

/-- `PARAM_READ` (Table 2.19). A payload that is not a whole number of items is refused with the number of its whole items as `DETAIL`
(DESIGN CHOICE, log entry 6). -/
def execParamRead (req : Request) (s : State) : Result :=
  serveOwn req false s fun s =>
    let items := records 4 req.payload
    if req.payload.length % 4 ≠ 0 ∨ 83 < items.length then respond req (refusal stBadValue items.length) s
    else if items.any fun b => deviceWide req.target (u16At b 0) then respond req (refusal stBadTarget) s
    else match items.findIdx? fun b => (readItem s req.target b).isNone with
      | some i => respond req (refusal stBadValue i) s
      | none => respond req (okWith ((items.filterMap (readItem s req.target)).flatten)) s

/-! ### `MUTE` and `EVENT_ACK` -/

/-- `MUTE` (R111, R374): a lane's transmitter, or the line output of a DAC channel (DEDUCED, log entry 6). -/
def execMute (req : Request) (s : State) : Result :=
  serveOwn req true s fun s =>
    let t := req.target
    let v := u32At req.payload 0
    let on := decide (v = 1)
    let bad := decide (req.payload.length ≠ 4) || decide (1 < v)
    match h : decide (t.sec = 13 ∧ t.unit < 16), h' : decide (t.sec = 5 ∧ 4 ≤ t.unit ∧ t.unit < 8) with
    | true, _ =>
      if bad then respond req (refusal stBadValue) s
      else respond req okReply (muteLane ⟨t.unit, (of_decide_eq_true h).2⟩ on s)
    | false, true =>
      if bad then respond req (refusal stBadValue) s
      else respond req okReply (muteDac ⟨t.unit - 4, by have := of_decide_eq_true h'; omega⟩ on s)
    | false, false => respond req (refusal stBadTarget) s

/-- The 32 bytes of an event register, event 8k + n in bit n of byte k (R561). -/
def eventBytes (m : BitVec 256) : List Byte := leBytes 32 m.toNat

/-- `EVENT_ACK` (R561): clears the named bits of the seat's `EVT_STICKY` and returns what remains. -/
def execEventAck (req : Request) (s : State) : Result :=
  serveOwn req false s fun s =>
    if req.payload.length ≠ 32 then respond req (refusal stBadValue) s
    else
      let s := s.onSeat req.seat fun q =>
        { q with events.sticky := q.events.sticky &&& ~~~ (BitVec.ofNat 256 (leNat req.payload)) }
      respond req (okWith (eventBytes (s.seat req.seat).events.sticky)) s

end Sys2Proof.Machine
end

