-- ==== Sys2Proof/Machine/Commit.lean ====
section
/-!
DEFINITION. `COMMIT_CHECK`, `COMMIT_APPLY` and the negotiation of a rate change that they wait for (R67 to R72, R190, R191).
-/
namespace Sys2Proof.Machine

/-! ### Negotiation (R191) -/

/-- The map of the capacity units that carry clients, as 16 bytes (Table 5.6). -/
def State.slotMap (s : State) : List Byte :=
  let on := fun (u : Nat) => s.usedClients.any fun c => decide (s.firstUnit c ≤ u ∧ u < s.firstUnit c + s.unitsOf c)
  (List.range 16).map fun b => BitVec.ofNat 8 (((List.range 8).map fun i => bit (on (8 * b + i)) * 2 ^ i).sum)

/-- The payload of a `RATE_PROPOSE` (Table 5.6); `new` is the state that the commit would leave. -/
def proposePayload (id : Nat) (s new : State) : List Byte :=
  let v := new.rateValues
  leBytes 2 id ++ leBytes 2 (s.cfgN Param.psfSymbolRateGbdX8) ++ leBytes 1 (s.cfgN Param.beFec) ++
    leBytes 1 (s.cfgN Param.lfrOtucN) ++ leBytes 1 (s.cfgN Param.shpConstellation) ++ leBytes 1 v.pilots ++
    leBytes 2 v.entropy ++ leBytes 1 v.capacity ++ new.slotMap

/-- A commit that only the partner's answer decides: it waits for the answer to the outstanding proposal if its values are
those proposed, and is refused if they differ; with none outstanding, `RATE_PROPOSE` is handed to Lodestone, `EV112`
(DEDUCED, log entry 61). -/
def negotiate (req : Request) (apply : Bool) (recs : NMap Int) (s : State) : State :=
  let new := s.withRecs recs
  let wait := fun (s : State) => { s with mgt.waiting := s.mgt.waiting ++ [.negotiate req apply] }
  match s.txd.proposal with
  | some p => if p.values = new.rateValues then wait s else respond req (refusal stNotPermitted) s
  | none =>
    let id := (s.txd.proposals + 1) % 2 ^ 16
    raise 112 (wait { s with
      txd.changeId := id
      txd.proposals := id
      txd.proposal := some ⟨id, new.rateValues, s.now⟩
      lod.propose := some (proposePayload id s new) })

/-! ### Applying (R69) -/

/-- The parts of an applied commit: one for each target and direction in which a parameter that it changes acts. -/
def commitParts (recs : NMap Int) (nle dpd : Bool) : List CommitPart :=
  let crossing := recs.filter fun e => keyCrosses e.1
  let ds := crossing.flatMap (fun e => (keyDirs e.1).map fun d => (keyPath e.1, d)) ++
    (if nle then [(⟨6, 2, 0⟩, .rx)] else []) ++ (if dpd then [(⟨7, 3, 0⟩, .tx)] else [])
  ds.eraseDups.map fun x => { path := x.1, dir := x.2, onTx := true, due := 0 }

/-- The order in which a commit takes its stages (R193, R194, R249, R372): a FlexE client that grows is resized up before its
calendar and one that shrinks down after it; a rate change lands between the decreases and the increases (DEDUCED, log entry 59). -/
def commitPlan (rate cal : Bool) (ups downs : List (Nat × Nat × Nat)) : List CommitStage :=
  if rate then
    if cal && decide (ups ≠ []) then [.resize downs, .land, .resize ups, .calendar []]
    else if cal then [.calendar [], .resize downs, .land, .resize ups]
    else [.resize downs, .land, .resize ups]
  else if cal then [.resize ups, .calendar [], .resize downs, .land]
  else [.resize downs, .resize ups, .land]

/-- Apply a commit whose changes `ch` have been evaluated as `e`; `all` are its slates, `targets` their targets. -/
def launch (req : Request) (targets : List Path) (all ch : SlateSet) (e : Evaluation) (s : State) : State :=
  let new := s.withStored.withRecs ch.recs
  let rows := (List.range 64).filter (resizesRow s new)
  let sizeKeys := rows.map fun c => paramKey ⟨9, 1, 0⟩ Param.mapUnits.num c
  let item := fun (c : Nat) => (c, s.unitsOf c, new.unitsOf c)
  let ups := (rows.filter fun c => decide (s.unitsOf c < new.unitsOf c)).map item
  let downs := (rows.filter fun c => decide (new.unitsOf c < s.unitsOf c)).map item
  let isCal := fun (k : Nat) => decide (keyPath k = ⟨13, 17, 0⟩ ∧ keyNum k = Param.fxeCalendar.num)
  let calRecs := ch.recs.filter fun x => isCal x.1
  let rateRecs := if e.rate then ch.recs.filter fun x => isRateKey x.1 else []
  let recs := ch.recs.filter fun x => !sizeKeys.contains x.1 && !isCal x.1 && !(e.rate && isRateKey x.1)
  let id := s.mgt.nextCommit
  let c : Commit :=
    { id, req, targets, recs, rateRecs, calRecs, calOld := calRecs.map fun x => (x.1, s.valueOf x.1), applied := all,
      nle := ch.nle, dpd := ch.dpd, plan := commitPlan e.rate (decide (calRecs ≠ [])) ups downs,
      parts := commitParts recs (decide (ch.nle ≠ [])) (decide (ch.dpd ≠ [])), hit := decide (e.category = 1), rate := e.rate,
      values := new.rateValues, changed := ch.targets.length }
  let s := { s with mgt.commits := s.mgt.commits ++ [c], mgt.nextCommit := id + 1 }
  let s := if e.rate then
      let change := (s.acceptedAs c.values).getD s.txd.changeId
      { s with txd.changeId := change
               txd.pending := some { commit := id, changeId := change, stage := .resizingDown, values := c.values } }
    else s
  continueCommit id s

/-- The payload of a `COMMIT_CHECK` response (Table 2.19). -/
def checkPayload (e : Evaluation) (targets : List Path) : List Byte :=
  leBytes 1 e.category ++ leBytes 3 0 ++ leBytes 4 e.us ++ leBytes 2 targets.length ++ leBytes 2 0 ++
    (targets.take 248).flatMap fun p => leBytes 4 p.word

/-! ### The two requests (R67, R68, R70 to R72, R590) -/

/-- What a commit of some targets comes to, once they are known to exist and to be owned: nothing in its slates, a no-op, a
refusal, a negotiation, a report, or an apply. `refused` says that the partner has just refused or not answered. -/
def judgeSlates (apply refused : Bool) (quoted : Nat) (listed : List Path) (req : Request) (s : State) : State :=
  let all := (s.seat req.seat).slatesFor listed
  let base := s.withStored
  let ch := base.changes all
  if all.empty then respond req (refusal stSlateEmpty) s
  else if ch.empty then
    if apply then
      if quoted ≠ 0 then respond req (refusal stCategoryMismatch 0) s
      else respond req (okWith (leBytes 20 0)) (s.onSeat req.seat fun q => q.clearApplied all)
    else respond req (okWith (checkPayload ⟨0, 0, false, false⟩ [])) s
  else match firstUnowned s req.seat listed ch.recs with
    | some p => respond req (refusal stNotOwner (ownerDetail (s.ownerOf p))) s
    | none =>
      if apply && s.txd.pending.isSome && touchesPair ch.recs 1 then respond req (refusal stNotPermitted) s
      else match commitRefusal all.recs ch.recs base with
        | some r => respond req r s
        | none =>
          let e := evaluate ch refused base
          if e.undecided then negotiate req apply ch.recs s
          else if apply = false then respond req (okWith (checkPayload e ch.targets)) s
          else if e.category ≠ quoted then respond req (refusal stCategoryMismatch e.category) s
          else launch req listed all ch e s

/-- The targets of a commit request: those listed, or with none listed those for which the seat holds a slate (R67). -/
def commitTargets (apply : Bool) (req : Request) (s : State) : List Path :=
  match readPaths (if apply then req.payload.drop 4 else req.payload) true with
  | .ok [] => (s.seat req.seat).slateTargets
  | .ok ws => ws.map Path.ofWord
  | .bad _ => []

/-- `COMMIT_CHECK`, or with `apply` `COMMIT_APPLY`: the quoted category, the list of targets, and their ownership (DEDUCED, log entry 61). -/
def judgeCommit (apply refused : Bool) (req : Request) (s : State) : State :=
  let quoted := if apply then u32At req.payload 0 else 0
  let list := if apply then req.payload.drop 4 else req.payload
  if req.target ≠ ⟨0, 4, 0⟩ then respond req (refusal stBadTarget) s
  else if apply && (decide (req.payload.length < 4) || decide (2 < quoted)) then respond req (refusal stBadValue 0xFFFFFF) s
  else match readPaths list true with
    | .bad d => respond req (refusal stBadValue d) s
    | .ok _ =>
      let listed := commitTargets apply req s
      if listed.any fun p => !p.isTarget then respond req (refusal stBadTarget) s
      else if listed.any s.resetRequired then respond req (refusal stResetRequired) s
      else match listed.find? fun p => !s.owns req.seat p with
        | some p => respond req (refusal stNotOwner (ownerDetail (s.ownerOf p))) s
        | none => judgeSlates apply refused quoted listed req s

/-- `COMMIT_CHECK` (R67). -/
def execCommitCheck (req : Request) (s : State) : Result := .next (serve req s (judgeCommit false false req))

/-- `COMMIT_APPLY` (R68, R69). -/
def execCommitApply (req : Request) (s : State) : Result := .next (serve req s (judgeCommit true false req))

/-- The outstanding proposal has ended: everything that waits for it is judged again (R191) (DEDUCED, log entry 61). -/
def endNegotiation (refused : Bool) (s : State) : State :=
  let mine := fun (w : Waiting) => match w with
    | .negotiate _ _ => true
    | _ => false
  let ws := s.mgt.waiting.filter mine
  let s := { s with txd.proposal := none, mgt.waiting := s.mgt.waiting.filter fun w => !mine w }
  overAll ws (fun w s => match w with
    | .negotiate r a => judgeCommit a refused r s
    | _ => s) s

/-- A negotiation that has failed (R196): `REMOTE_RESULT`, `REJECTS`, `EV113`. -/
def rejectNegotiation (result : Nat) (s : State) : State :=
  endNegotiation true (raise 113 { s with txd.remoteResult := result, txd.rejects := satInc 16 s.txd.rejects })

end Sys2Proof.Machine
end

