-- ==== Sys2Proof/Machine/Transmit.lean ====
section
/-!
DEFINITION. TXD and what lands on superframes: transmit superframes and boundaries, received headers and format changes, rate
changes, key changeovers, Lodestone slots, ODUflex resizes and FlexE calendars (chapters 4, 5, 7, 8, 9 and 11).
-/
namespace Sys2Proof.Machine

/-! ### Transmit superframes and the start of the count (R22, R178) -/

/-- `TX_SUPERFRAME` (R178): one transmit superframe goes by, and what it holds lands. -/
def execTxSuperframe (s : State) : Result := .next (advanceTx (s.txd.sf + 1) s)

/-- The count starts at 0 at the end of the initial calibration that follows a cold reset: TXD takes its running format, and is released if COD
has been; superframe 0 holds what has waited for it (R107, R178, R298). -/
def startCounting (s : State) : State :=
  enterTx 0 (releaseTxd (judgeLodMode (takeFormat { s with txd.counting := true, cod.chainSf := 0, cod.chainBlock := 0 })))

/-- The count restarts at 0 with the release of `PLT` (R178, R196, R197): an announced rate change is cancelled; everything
placed on transmit superframes keeps its distance. -/
def restartCount (s : State) : State :=
  let n := s.txd.sf
  let earlier := fun (r : Reservation) => { r with sf := r.sf - n }
  let sooner := fun (k : Channel) => { k with pending := k.pending.map fun (p : KeyChange) => { p with sf := p.sf - n } }
  let move := fun (p : CommitPart) => if p.onTx && !p.done then { p with due := p.due - n } else p
  let moved := fun (c : Commit) => if c.landing then { c with parts := c.parts.map move } else c
  { s with
    txd.sf := 0
    txd.countdown := 0
    txd.pending := s.txd.pending.map fun (p : PendingRate) => { p with s0 := p.s0 - n, change := p.change - n }
    cod.chainSf := 0
    cod.chainBlock := 0
    txd.reserved := s.txd.reserved.map earlier
    lod.busyUntil := s.lod.busyUntil - n
    lod.lastSlot := none
    sec.channels := vmap s.sec.channels sooner
    mgt.commits := s.mgt.commits.map moved }

/-! ### Received superframes (R149 to R151, R179) -/

/-- The receive chain takes values in use: `CPR` and `DMP` the entropy and pilot spacing, FRM the capacity; a constellation
that cannot carry the entropy keeps the last valid one, with `EV110` (R151). -/
def takeReceived (v : RateValues) (s : State) : State :=
  let c := s.cfgN Param.dmpConstellation
  let s := { s with rxd.pilots := v.pilots, rxd.entropy := v.entropy, frm.rxCapacity := v.capacity,
                    rxd.changeSfs := (s.rxd.sf :: s.rxd.changeSfs).take 16 }
  let s := if entropyFits c v.entropy then judgeDemapper { s with rxd.dmpEntropy := some v.entropy } else raise 110 s
  refreshClients (judgeMsi s)

/-- The announced change lands in the receive chain (R179): a change superframe steps the delay of Class 0 (R255), and the decoder's chain
restarts after its termination block, with sync kept (R215). -/
def landReceived (s : State) : State :=
  match s.rxd.announced with
  | some a =>
    if a.sf ≤ s.rxd.sf then
      class0Step (takeReceived a.values { s with rxd.announced := none, cod.termDue := s.cod.sync && !s.rxInterop })
    else s
  | none => s

/-- A received superframe begins: a change announced for it, and the receive parts of commits placed on it, take effect. -/
def enterRx (n : Nat) (s : State) : State :=
  let s := { s with rxd.sf := n, txd.rxReserved := s.txd.rxReserved.filter fun r => decide (n < r.sf) }
  let s := landReceived s
  overAll (s.mgt.commits.map Commit.id) (landCommit false n) s

/-- The received superframes at which something takes effect. -/
def State.dueRx (s : State) : List Nat :=
  (s.rxd.announced.map FormatChange.sf).toList ++
    s.mgt.commits.flatMap fun c => (c.parts.filter fun p => c.landing && !p.done && !p.onTx).map CommitPart.due

/-- Let received superframes go by up to a target, stopping at each one that holds something. -/
def advanceRxTo : Nat → Nat → State → State
  | 0, target, s => enterRx target s
  | fuel + 1, target, s =>
    match (s.dueRx.filter fun n => decide (s.rxd.sf < n ∧ n < target)).min? with
    | none => enterRx target s
    | some n => advanceRxTo fuel target (enterRx n s)

/-- Let the received superframe number reach a target; it never goes back while the receiver holds superframe lock. -/
def advanceRx (target : Nat) (s : State) : State :=
  if target ≤ s.rxd.sf then s else advanceRxTo (s.dueRx.length + 1) target s

/-- A header is missing (R150): `losf_headers` in a row lose superframe lock, with `EV098`; the receive parts of commits
then go to the transmit arbiter (R188). -/
def missingHeader (s : State) : State :=
  let s := { s with rxd.headers := 0, rxd.missing := s.rxd.missing + 1 }
  let s := if s.rxd.sfLock then advanceRx (s.rxd.sf + 1) s else s
  if s.rxd.sfLock ∧ s.cfgN Param.cprLosfHeaders ≤ s.rxd.missing then
    let s := raise 98 { s with rxd.sfLock := false, rxd.losf := true, rxd.adopted := false, rxd.dmpEntropy := none, rxd.shaped := false,
                               rxd.losfCount := satInc 32 s.rxd.losfCount }
    let s := if s.rxd.los then s else { s with rxd.holdExpired := true }
    replaceLost (lineLoss s)
  else s

/-- The received superframe number whose low 32 bits a header shows: the next such number about the present one (DEDUCED, log entry 62). -/
def State.receivedNumber (s : State) (low : Nat) : Nat :=
  if s.rxd.adopted = false then low
  else
    let base := s.rxd.sf + 1
    let n := base - base % 2 ^ 32 + low
    if n + 2 ^ 31 < base then n + 2 ^ 32 else n

/-- A valid header (R179): the number and the values in use of its superframe, and the change that it announces
(DEDUCED, log entries 56, 62). -/
def validHeader (a : WordA) (b : WordB) (s : State) : State :=
  let n := s.receivedNumber a.sf
  let s := if s.rxd.adopted then advanceRx n s else { s with rxd.sf := n }
  let v : RateValues := ⟨a.capacity, a.entropy, a.pilots⟩
  let same := decide (v = ⟨s.frm.rxCapacity, s.rxd.entropy, s.rxd.pilots⟩)
  let s1 := if s.rxd.adopted && same then s
    else if s.rxd.adopted then class0Step (takeReceived v s)
    else takeReceived v s
  { s1 with rxd.adopted := true,
            rxd.announced := if a.pending then some ⟨n + b.countdown, ⟨b.nextCapacity, b.nextEntropy, b.nextPilots⟩⟩
                             else s1.rxd.announced }

/-- `SUPERFRAME_HEADER` (R149, R150, R179): a header is looked for at its expected position; `wordA` and `wordB` are the words
that decode. In an interoperable mode the framing of the agreement stands in its place, and shows no values (R185). -/
def execSuperframeHeader (found : Bool) (wordA wordB : Option Nat) (s : State) : Result :=
  if 2 ≤ s.deviceState then .next s
  else
    let s := replaceLost s
    if found = false ∨ s.rxd.los then .next (missingHeader s)
    else
      let s := { s with rxd.headers := s.rxd.headers + 1, rxd.missing := 0 }
      let next := if s.rxd.adopted then advanceRx (s.rxd.sf + 1) s else s
      if s.rxInterop then .next (judgeDemapper next)
      else match wordA.map WordA.ofNat, wordB.map WordB.ofNat with
        | some a, some b => if a.version = 1 then .next (validHeader a b s) else .next next
        | _, _ => .next next

/-- `RX_FORMAT_CHANGE` (R179): the received superframe of the scheduled change. -/
def execRxFormatChange (s : State) : Result :=
  match s.rxd.announced with
  | some a => .next (if a.sf ≤ s.rxd.sf then landReceived s else advanceRx a.sf s)
  | none => .next s

/-! ### Boundaries, rate changes and slots (R22, R193, R278, R302) -/

/-- `COMMIT_BOUNDARY` (R22): the boundary at which an applied slate takes effect in a target, in one direction. -/
def execCommitBoundary (path : Path) (dir : Dir) (s : State) : Result :=
  let s := replaceLost s
  let due := s.mgt.commits.findSome? fun c =>
    if c.landing then c.parts.find? fun p => decide (p.path = path ∧ p.dir = dir) && !p.done else none
  match due with
  | none => .next s
  | some p => .next (if p.onTx then advanceTx p.due s else advanceRx p.due s)

/-- `RATE_ANNOUNCE` (R193): superframe s0 of the placed rate change. -/
def execRateAnnounce (s : State) : Result :=
  match s.txd.pending with
  | some p => if p.stage = .placed then .next (advanceTx p.s0 s) else .next s
  | none => .next s

/-- `RATE_CHANGE` (R193): the change superframe. -/
def execRateChange (s : State) : Result :=
  match s.txd.pending with
  | some p => if p.stage = .placed ∨ p.stage = .announced then .next (advanceTx p.change s) else .next s
  | none => .next s

/-- `KEY_CHANGEOVER` (R278): the superframe at which the placed activation of a channel lands. -/
def execKeyChangeover (channel : Fin 64) (s : State) : Result :=
  match (s.channel channel).pending with
  | some p => .next (advanceTx p.sf s)
  | none => .next s

/-- `LOD_SLOT` (R302): the next superframe at which a frame may start comes, and `LMS` uses it. -/
def execLodSlot (s : State) : Result :=
  if s.txd.counting = false ∨ s.coreOff then .next s
  else
    let n := s.slotLength
    let here := decide (s.txd.sf % n = 0) && decide (s.lod.lastSlot ≠ some s.txd.sf)
    let s := if here then s else advanceTx ((s.txd.sf / n + 1) * n) s
    .next (slotAt s.txd.sf s)

/-! ### Negotiation messages (R190 to R193, R196) -/

/-- `RATE_ANSWER_RX` (R191, R313): an answer to the outstanding proposal; any other is ignored. Without an identified partner it is a protocol
error. -/
def execRateAnswerRx (s : State) : Result :=
  if s.mgt.restarting then .next s
  else match takeMessage (· == 0x21) s with
    | none => .next s
    | some (m, s) =>
      if s.lod.identified = false then .next (lodProtocolError s)
      else match s.txd.proposal with
      | none => .next s
      | some p =>
        if u16At m.payload 0 ≠ p.changeId then .next s
        else if byteAt m.payload 2 = 0 then
          .next (endNegotiation false { s with txd.remoteResult := 0, txd.accepted := s.txd.accepted ++ [⟨p.changeId, p.values, s.now⟩] })
        else .next (rejectNegotiation (byteAt m.payload 2) s)

/-- `NEGOTIATE_TIMEOUT` (R196): no answer within `negotiate_timeout_ms`. -/
def execNegotiateTimeout (s : State) : Result :=
  match s.txd.proposal with
  | none => .next s
  | some p => .next (rejectNegotiation 0xFF (s.reach (p.since + s.cfgN Param.shpNegotiateTimeoutMs * 1000)))

/-- `RATE_HOLD_EXPIRE` (R193): an accepted answer lapses after `rate_hold_ms`, the oldest first. -/
def execRateHoldExpire (s : State) : Result :=
  match s.txd.accepted with
  | [] => .next s
  | a :: as => .next { s.reach (a.since + s.cfgN Param.shpRateHoldMs * 1000) with txd.accepted := as }

/-- The partner's slot map covers the units of a client that is used on receive, all below the new C (DEDUCED, log entry 66). -/
def slotMapCovers (p : List Byte) (c : Nat) (s : State) : Bool :=
  s.usedClients.all fun k => s.rxOutside k || (List.range (s.unitsOf k)).all fun i =>
    let u := s.firstUnit k + i
    decide (u < c) && decide (bits (byteAt p (11 + u / 8)) (u % 8) 1 = 1)

/-- The result of a partner's proposal: the first of Table 5.7 that applies (DEDUCED, log entry 66). -/
def proposalResult (p : List Byte) (s : State) : Nat :=
  if s.cfgB Param.shpPartnerRatePolicy then 1
  else if s.txInterop || s.rxInterop then 8
  else if s.rxd.rxState ≠ .locked then 6
  else if s.rxd.announced.isSome then 7
  else if u16At p 2 ≠ s.cfgN Param.trcSymbolRateGbdX8 ∨ byteAt p 4 ≠ s.cfgN Param.bdeFec ∨
      byteAt p 5 ≠ s.cfgN Param.lfrRxOtucN then 5
  else if entropyFits (s.cfgN Param.dmpConstellation) (u16At p 8) = false then 2
  else if 4 * s.cfgN Param.lfrRxOtucN < byteAt p 10 then 3
  else if slotMapCovers p (byteAt p 10) s = false then 4
  else 0

/-- `RATE_PROPOSE_RX` (R192): a proposal from the identified partner is answered, `EV116`; without one it is a protocol error (R313)
(DEDUCED, log entry 66). -/
def execRateProposeRx (s : State) : Result :=
  if s.mgt.restarting then .next s
  else match takeMessage (· == 0x20) s with
    | none => .next s
    | some (m, s) =>
      if s.lod.identified = false then .next (lodProtocolError s)
      else
        let r := proposalResult m.payload s
        .next (raise 116 { s with
          txd.localResult := r
          lod.answers := s.lod.answers ++ [m.payload.take 2 ++ leBytes 1 r ++ leBytes 1 (s.cfgN Param.dmpConstellation)] })

/-- `RATE_ABORT` (R196, R199): cancels an applied rate change that has not reached s0. -/
def execRateAbort (req : Request) (s : State) : Result :=
  .next (serveTarget req s [(7, 0)] true fun s =>
    if req.payload ≠ [] then respond req (refusal stBadValue) s
    else if s.rateBeforeS0 then respond req okReply (cancelRate (some (refusal stNotPermitted)) s)
    else respond req (refusal stNotPermitted) s)

/-! ### Pre-emphasis, pre-distortion and skew (R181 to R184, R199, R200) -/

/-- The output of the pre-emphasis filter of a channel, in units of 2^-14 of its input, from the 33 input samples about it, the one at tap 0
first (R181). -/
def State.preEmphasised (s : State) (c : Fin 4) (window : List Int) : Int :=
  ((window.take 33).zipIdx.map fun x => s.cfg Param.psfPreemphTaps 0 (33 * c.val + x.2) * x.1).sum

/-- The output of `DPD` on a channel, in units of 2^-24, from its input samples, the present one first: orders 1, 3 and, with `order` = 1, 5,
at delays up to `memory` (R182). Switched off, the stage only delays (R167). -/
def State.predistorted (s : State) (c : Fin 4) (x : List Int) : Int :=
  if s.txd.dpdEnabled = false then 16777216 * x.headD 0
  else
    let orders := if s.cfg Param.dpdOrder = 1 then [1, 3, 5] else [1, 3]
    let at_ := fun (d : Nat) => x.getD d 0
    (orders.flatMap fun p => (List.range (s.cfgN Param.dpdMemory + 1)).map fun d =>
      dpdAt s.txd.dpdCoefs c.val p d * at_ d * ((at_ d).natAbs : Int) ^ (p - 1)).sum

/-- The delay that `SKW` gives a channel, in fs (R183). -/
def State.skewFs (s : State) (c : Fin 4) : Int := 50 * s.cfg Param.skwSkew50fs 0 c.val

/-- One record of `DPD_COEF_LOAD` (Table 5.10). -/
def DpdCoef.ofBytes (b : List Byte) : DpdCoef :=
  { channel := byteAt b 0, order := byteAt b 1, delay := byteAt b 2, coef := i32At b 4 }

/-- The record is well formed: channel 0 to 3, order 1, 3 or 5, delay 0 to 7, and a zero byte. -/
def dpdRecordOk (b : List Byte) : Bool :=
  decide (byteAt b 0 < 4) && [1, 3, 5].contains (byteAt b 1) && decide (byteAt b 2 < 8) && decide (byteAt b 3 = 0)

/-- `DPD_COEF_LOAD` (R199): up to 96 records go into the seat's slate for `DPD`. -/
def execDpdCoefLoad (req : Request) (s : State) : Result :=
  .next (serveTarget req s [(7, 3)] true fun s =>
    let rs := records 8 req.payload
    if req.payload.length % 8 ≠ 0 ∨ rs = [] ∨ 96 < rs.length then respond req (refusal stBadValue) s
    else match rs.findIdx? fun b => !dpdRecordOk b with
      | some i => respond req (refusal stBadValue i) s
      | none => respond req okReply
          (s.onSeat req.seat fun q => { q with dpdSlate := withDpd q.dpdSlate (rs.map DpdCoef.ofBytes) }))

/-- `DPD_COEF_READ` (R199): the 96 running coefficients, as records in ascending channel, order and delay (DEDUCED, log entry 67). -/
def execDpdCoefRead (req : Request) (s : State) : Result :=
  .next (serveTarget req s [(7, 3)] true fun s =>
    if req.payload ≠ [] then respond req (refusal stBadValue) s
    else
      let one := fun (c p d : Nat) => leBytes 1 c ++ leBytes 1 p ++ leBytes 1 d ++ leBytes 1 0 ++
        leBytes 4 (natOfInt 32 (dpdAt s.txd.dpdCoefs c p d))
      respond req (okWith ((List.range 4).flatMap fun c => [1, 3, 5].flatMap fun p => (List.range 8).flatMap (one c p))) s)

/-- `DPD_RAMP_DONE` (R182): the ramp of 4,096 core cycles ends. -/
def execDpdRampDone (s : State) : Result := .next { s with txd.dpdRamping := false }

/-- `DPD_CLIP_COUNT_READ` (R200): a read returns the count and clears it. -/
def execDpdClipCountRead (seat : SeatId) (s : State) : Result :=
  whenOpen seat ⟨7, 3, 0⟩ false (.dpdClipCountRead seat) s <|
  if s.clk.mgmtStopped then .next s
  else if s.resetRequired ⟨7, 3, 0⟩ then .next (readReturns seat 0 s)
  else .next (readReturns seat s.txd.dpdClips { s with txd.dpdClips := 0 })

/-- `OUTPUT_CLIP_CHECK` (R184, R201): the samples clipped at the DAC input in a window of 1 ms; more than 1 in 10,000 raises
`EV119`. -/
def execOutputClipCheck (clipped total : Nat) (s : State) : Result :=
  let s := { s with txd.dpdClips := satInc 32 s.txd.dpdClips clipped }
  .next (if total < 10000 * clipped then raise 119 s else s)

/-! ### ODUflex resizes and FlexE calendars (R249, R372) -/

/-- A client can take a size that the partner gives it (R249): it is used and of a type that is resized, no resize of an own commit has it,
and an increase finds free units directly above it, below C, and keeps Class 0 to its 16 units (R253) (DEDUCED, log entry 105). -/
def State.canFollow (s : State) (c units : Nat) : Bool :=
  s.clientUsed c && (s.clientType c == 6 || s.clientType c == 8) && decide (1 ≤ units ∧ units ≤ 64) &&
    !(s.frm.resizes.any fun r => r.client == c) && decide (s.firstUnit c + units ≤ s.txC) &&
    (decide (s.classOf c ≠ 0) || decide (((s.class0.filter fun k => k ≠ c).map s.unitsOf).sum + units ≤ 16)) &&
    !(s.usedClients.any fun k => decide (k ≠ c ∧ s.firstUnit k < s.firstUnit c + units ∧ s.firstUnit c < s.firstUnit k + s.unitsOf k))

/-- A step of a resize that the partner has started (R249): the first one resizes the link connection, the second one the bandwidth, after
which the client has its new size, `EV155`. Overhead that breaks G.7044 ends it with nothing taken, `EV156`; a size that the client cannot
take is not followed (DEDUCED, log entry 105). -/
def followResize (c : Fin 64) (units : Nat) (valid : Bool) (s : State) : State :=
  let f : Followed := ⟨c.val, units⟩
  if s.rxInterop || decide (2 ≤ s.deviceState) || s.canFollow c.val units = false then s
  else if valid = false then raiseFor 156 c.val { s with frm.following := none, frm.resizeFail := true }
  else if s.frm.following = some f then
    let s := { s with frm.following := none, frm.resizeFail := false }
    raiseFor 155 c.val (runValues [(paramKey ⟨9, 1, 0⟩ Param.mapUnits.num c.val, (units : Int))] s)
  else { s with frm.following := some f, frm.resizeClient := c.val, frm.resizeTarget := units }

/-- `ODUFLEX_RESIZE_STEP` (R249): the partner answers a step of the resize in progress; the link connection resize comes
first, then the bandwidth resize, after which the client has its new size, `EV155`. An answer that breaks G.7044 fails the
resize. Or it is a step of a resize that the partner has started. -/
def execOduflexResizeStep (step : ResizeStep) (s : State) : Result :=
  match step, s.frm.resizes with
  | .partner c units valid, _ => .next (followResize c units valid s)
  | .answer _, [] => .next s
  | .answer valid, r :: rs =>
    if valid = false then .next (resizeFails s)
    else if r.step = 0 then .next { s with frm.resizes := { r with step := 1, since := s.now } :: rs }
    else
      let s := { s with frm.resizes := rs, frm.resized := s.frm.resized ++ [r], frm.resizeFail := false }
      let s := raiseFor 155 r.client (runValues [(paramKey ⟨9, 1, 0⟩ Param.mapUnits.num r.client, (r.to_ : Int))] s)
      let s := showResize s
      .next (if rs.any fun x => x.commit == r.commit then s else stageDone r.commit s)

/-- `RESIZE_TIMEOUT` (R249): a step that the partner has not answered within 100 ms fails the resize. -/
def execResizeTimeout (s : State) : Result :=
  match s.frm.resizes with
  | [] => .next s
  | r :: _ => .next (resizeFails (s.reach (r.since + 100000)))

/-- The commit whose calendar switch is in progress. -/
def State.switchingCommit (s : State) : Option Commit := s.mgt.commits.find? Commit.switches

/-- `FLEXE_CAL_ACK` (R372): the host acknowledges the request of a group, and its calendar switches at the next overhead
multiframe, `EV221`. -/
def execFlexeCalAck (group : Fin 4) (s : State) : Result :=
  match s.switchingCommit with
  | none => .next s
  | some c =>
    if s.hst.groups[group].switching = false then .next s
    else
      let mine := c.calRecs.filter fun e => decide (s.calGroup e.1 = some group.val)
      let s := takeCalendar mine (s.onFlexe group fun k => { k with switching := false, calB := !k.calB })
      let s := raiseAt 221 17 group.val { s with hst.switches := satInc 32 s.hst.switches }
      let more := (indices 4).any fun g => s.hst.groups[g].switching
      .next (if more then s else stageDone c.id s)

/-- `FLEXE_CAL_TIMEOUT` (R372): no acknowledgement within 10 ms: the steps made are reversed, the apply is answered
`NOT_SUPPORTED`, `CAL_MISMATCH` sets, `EV220`. -/
def execFlexeCalTimeout (s : State) : Result :=
  match s.switchingCommit with
  | none => .next s
  | some c =>
    let s := s.reach (s.hst.calAt + 10000)
    let gs := (indices 4).filter fun g => s.hst.groups[g].switching
    let s := overAll gs (fun g s => s.onFlexe g fun k => { k with calMismatch := true }) s
    let s := overAll gs (fun g s => raiseAt 220 17 g.val s) s
    .next (failCommit c.id s)

/-! ### Key activation (R278) -/

/-- `KEY_ACTIVATE` (R278): the checks of Table 8.5; then the arbiter places the changeover at the target superframe, or the
next one, and the response waits for it (DEDUCED, log entry 67). -/
def execKeyActivate (req : Request) (s : State) : Result :=
  .next (serveTarget req s [(10, 1)] true fun s =>
    let i := slotOfPath req.target
    let c := slotChannel i
    let target := u64At req.payload 0
    if s.cipherFused then respond req (refusal stNotSupported) s
    else if req.payload.length ≠ 8 ∨ (s.slot i).usable = false ∨ s.txUse i ∨ s.txd.sf + 65536 < target ∨
        (req.cls = .urgent ∧ target ≠ 0) then respond req (refusal stBadValue) s
    else if (s.channel c).pending.isSome then respond req (refusal stNotPermitted) s
    else if (s.channel c).txEpoch = some 0xFFFFFF then respond req (refusal stNotPermitted) (raiseFor 171 c.val s)
    else
      let s := replaceLost s
      let earliest := max target s.nextTx
      let r := reserveTx (.key c.val) earliest s
      let s := r.2.onChannel c fun k => { k with pending := some ⟨slotBit i, r.1, r.1 - earliest⟩ }
      { s with mgt.waiting := s.mgt.waiting ++ [.keyActivate req c.val] })

end Sys2Proof.Machine
end

