-- ==== Sys2Proof/Machine/Resets.lean ====
section
/-!
DEFINITION. Reset scopes beyond the seat: Unit and Section resets, the control restart and the firmware watchdog (R77 to
R80, Table 2.15).
-/
namespace Sys2Proof.Machine

/-! ### Unit and Section resets -/

/-- A Unit reset inside TXD (Table 5.8): what the Unit holds beside its parameters. `PSF`, `DPD` and `SKW` restart with the
output muted. -/
def resetTxdUnit (unit : Nat) (s : State) : State :=
  match unit with
  | 0 => { s with txd.changeId := 0, txd.changes := 0, txd.rejects := 0, txd.localResult := 0, txd.remoteResult := 0,
                  txd.accepted := [] }
  | 1 => { s with txd.deferrals := 0 }
  | 3 => { s with txd.dpdCoefs := [], txd.dpdEnabled := false, txd.dpdRamping := false, txd.dpdClips := 0,
                  txd.restartMute := true }
  | _ => { s with txd.restartMute := true }

/-- What the reset of one target does beyond the defaults of its parameters, by the table of its Section (DEDUCED, log entry 38). -/
def resetTarget (p : Path) (checkOk : Bool) (s : State) : State :=
  match p.sec with
  | 1 => if p.unit = 2 then judgeThermal s else judgeGroups s
  | 2 => resetClkUnit p.unit s
  | 3 => resetTimUnit p.unit s
  | 4 => resetMemUnit p.unit p.inst s
  | 5 => resetCnvUnit p.unit checkOk s
  | 6 => resetRxdUnit p.unit s
  | 7 => resetTxdUnit p.unit s
  | 8 => resetCodUnit p.unit s
  | 9 => resetFrmUnit p.unit s
  | 10 => resetSecTarget p s
  | 11 => resetLodUnit p.unit s
  | 12 => resetMonTarget p s
  | 13 => resetHstUnit p.unit s
  | 14 => resetFehUnit p.unit s
  | 15 => resetDomTarget p s
  | _ => s

/-- What the reset of a Section does beyond the defaults of its parameters. MON's history is cleared (Table 10.7). -/
def resetSectionOf (sec : Nat) (checkOk : Bool) (s : State) : State :=
  match sec with
  | 3 => resetTim s
  | 5 => resetCnv checkOk s
  | 6 => resetRxd s
  | 7 => { overAll (List.range 3) resetTxdUnit s with txd.dpdCoefs := [], txd.dpdEnabled := false, txd.dpdRamping := false,
                                                       txd.dpdClips := 0, txd.restartMute := true }
  | 8 => resetCod s
  | 10 => resetSec s
  | 12 =>
    let s := overAll (sectionTargets 12) (fun p s => resetTarget p checkOk s) s
    { s with mon.written := Vector.replicate 4 0, mon.snaps := Vector.replicate 4 [], mon.bin15 := {}, mon.bin24 := {} }
  | n => overAll (sectionTargets n) (fun p s => resetTarget p checkOk s) s

/-- The pending rate change that a reset cancels (R196, Table 9.8): before s0 by `SHP` or `LMS`, at any time by `PLT` or the Section
(DEDUCED, log entry 38). -/
def resetCancelsRate (ps : List Path) (s : State) : State :=
  if ps.contains ⟨7, 1, 0⟩ || ((ps.contains ⟨7, 0, 0⟩ || ps.contains ⟨11, 2, 0⟩) && s.rateBeforeS0) then
    cancelRate (some (refusal stResetRequired)) s
  else s

/-- The requests that a reset of targets meets: those in their channels and those that wait are answered `RESET_REQUIRED` (an activation is
answered by the zeroisation, R280), and
commits that name a target are interrupted (Table 2.15) (DEDUCED, log entry 38). -/
def resetMeets (ps : List Path) (s : State) : State :=
  let answer := refusal stResetRequired
  let met := fun (r : Request) => ps.contains r.target
  let rs := (s.mgt.channel ++ s.mon.waiting ++ s.mon.atBoundary).filter met
  let s := { s with
    mgt.channel := s.mgt.channel.filter fun r => !met r
    mon.waiting := s.mon.waiting.filter fun r => !met r
    mon.atBoundary := s.mon.atBoundary.filter fun r => !met r }
  let s := overAll rs (fun r s => respond r answer s) s
  let waits := fun (w : Waiting) => match w with
    | .reset _ _ => false
    | .keyActivate _ _ => false
    | .negotiate r apply => (commitTargets apply r s).any ps.contains
    | w => ps.contains w.req.target
  let s := resetCancelsRate ps (refuseWaiting waits answer s)
  overAll (s.mgt.commits.filter fun c => c.targets.any ps.contains) (interruptCommit ps) s

/-- A reset of `FLT` leaves the host lanes that Flint has held in electrical idle with `MUTED` set (R374, R516). -/
def muteFormer (ps : List Path) (s : State) : State :=
  if ps.contains ⟨15, 2, 0⟩ then { s with hst.lanes := vmap s.hst.lanes fun k => { k with muted := k.muted || k.flint } } else s

/-- The memories of the reset instances are filled (R437): of the coefficients, data-path buffers, keys and contexts the words that hold their data,
and with the whole of SEC the key and context stores (DEDUCED, log entry 33). -/
def fillMemories (ps : List Path) (s : State) : State :=
  let whole := ps.any fun p => decide (p.sec = 10 ∧ p.unit = 1) && (ps.contains ⟨10, 0, 0⟩)
  { s with mem.flips := s.mem.flips.filter fun e =>
      let g := e.1 / 2 ^ 23
      let o := Config.wordOwner g (e.1 % 2 ^ 23)
      !(decide (2 ≤ g) && (ps.contains ⟨o.1, o.2.1, o.2.2⟩ || (whole && decide (4 ≤ g)))) }

/-- Reset targets (R77): what is pending for them ends, their slates are cleared, their parameters return to the defaults and
what follows from that, `hook` does the rest, and they stay in reset until released. A Unit reset of `PCS` restarts no lane (Table 11.10), and one of
`ABC` moves no code (Table 15.2). `keep` names parameters that keep their
values (R291). -/
def resetTargets (ps : List Path) (keep : Nat → Bool) (hook : State → State) (s : State) : State :=
  let s := resetMeets ps s
  let s := { s with mgt.seats := vmap s.mgt.seats fun q => ps.foldl Seat.clearSlate q }
  let old := s
  let mine := fun (k : Nat) => ps.contains (keyPath k) && !keep k
  let ks := (s.mgt.running.map Prod.fst).filter mine
  let drop := fun (m : NMap Int) => m.filter fun e => !mine e.1
  let s := if ks.contains (paramKey ⟨8, 1, 0⟩ Param.bdeFec.num 0) then decoderLoses s else s
  let s := muteFormer ps (settleReplaced s)
  let s := { s with mgt.running := drop s.mgt.running, mgt.earlyTx := drop s.mgt.earlyTx, mgt.earlyRx := drop s.mgt.earlyRx,
                    mgt.stored := drop s.mgt.stored }
  let told := if ps = [⟨13, 16, 0⟩] ∨ ps = [⟨14, 2, 0⟩] then [] else ks
  let s := hook (if told = [] then s else followKeys old told told [] [] s)
  let s := fillMemories ps (overAll ps (fun p s => clearMark p.sec p.unit s) s)
  takeStored (judgeCapture (judgeChains (judgeGates
    { s with mon.cleared := ps ++ s.mon.cleared, mgt.resetting := s.mgt.resetting ++ [ps] })))

/-- The Units whose reset is refused (R77, R427, R454, R546) (DEDUCED, log entry 36). -/
def resetRefused (p : Path) : Bool :=
  decide (p.sec = 0) || [(1, 0), (2, 0), (2, 1), (4, 0)].contains (p.sec, p.unit)

/-- A reset is accepted: it is carried out, and its response waits for the release (DEDUCED, log entry 38). -/
def startReset (req : Request) (ps : List Path) (keep : Nat → Bool) (hook : State → State) (s : State) : State :=
  let s := resetTargets ps keep hook s
  { s with mgt.waiting := s.mgt.waiting ++ [.reset req ps] }

/-- `UNIT_RESET` (R77). The device-wide parameters of `SEC.CIP` keep their values (R291) (DESIGN CHOICE, log entry 5). -/
def execUnitReset (req : Request) (checkOk : Bool) (s : State) : Result :=
  .next (serve req s fun s =>
    let p := req.target
    if p.isTarget = false then respond req (refusal stBadTarget) s
    else if resetRefused p then respond req (refusal stNotPermitted) s
    else if s.owns req.seat p = false then respond req (refusal stNotOwner (ownerDetail (s.ownerOf p))) s
    else if req.payload ≠ [] then respond req (refusal stBadValue) s
    else
      let wide := fun (k : Nat) => decide (p.sec = 10 ∧ p.unit = 0 ∧ 7 ≤ keyNum k)
      startReset req [p] wide (resetTarget p checkOk) s)

/-- `SECTION_RESET` (R77) (DESIGN CHOICE, log entry 5). -/
def execSectionReset (req : Request) (checkOk : Bool) (s : State) : Result :=
  .next (serve req s fun s =>
    let n := req.target.sec
    let ps := sectionTargets n
    if req.target.unit ≠ 0 ∨ req.target.inst ≠ 0 ∨ 16 ≤ n then respond req (refusal stBadTarget) s
    else if [0, 1, 2, 4].contains n then respond req (refusal stNotPermitted) s
    else match ps.find? fun p => !s.owns req.seat p with
      | some p => respond req (refusal stNotOwner (ownerDetail (s.ownerOf p))) s
      | none =>
        if req.payload ≠ [] then respond req (refusal stBadValue) s
        else startReset req ps (fun _ => false) (resetSectionOf n checkOk) s)

/-- Answer the request whose reset is released. -/
def answerReset (ps : List Path) (s : State) : State :=
  match s.mgt.waiting.find? fun w => match w with | .reset _ qs => decide (qs = ps) | _ => false with
  | some w => respond w.req okReply { s with mgt.waiting := s.mgt.waiting.erase w }
  | none => s

/-- `RESET_RELEASE` (R77, R437): the oldest reset that holds the target is released after its memory fill: the response, `EV011`.
A transmit count that restarts does so here (R178, R197). -/
def execResetRelease (path : Path) (s : State) : Result :=
  match s.mgt.resetting.find? fun ps => ps.contains path with
  | none => .next s
  | some ps =>
    let s := judgeChains (judgeGates { s with mgt.resetting := s.mgt.resetting.erase ps })
    let busy := s.mgt.resetting.flatten.any fun p => decide (p.sec = 7)
    let s := { s with txd.restartMute := s.txd.restartMute && busy }
    let s := if ps.contains ⟨7, 1, 0⟩ && s.txd.counting then enterTx 0 (restartCount (takeFormat s)) else s
    .next (raise 11 (answerReset ps s))

/-! ### Control restart (R79, R80) -/

/-- What a control restart leaves of a seat's own part: as a seat reset, but for the key staging and the read shadow, which are
hardware (DEDUCED, log entry 37). -/
def Seat.afterRestart (q : Seat) : Seat :=
  { q.afterReset with keyStage := q.keyStage, shadowPair := q.shadowPair, shadowHi := q.shadowHi, rspStalled := false }

/-- The control restart begins (R79, Table 2.15): all pending commands are cancelled without response, all seats' rings, slates,
masks and quarantines are reset, commits that have crossed no boundary are cancelled, and the firmware memory is reloaded
(DEDUCED, log entry 37). -/
def controlRestart (s : State) : State :=
  let s := forgetWaiting (fun _ => true) { s with mgt.channel := [], mgt.normalRun := 0 }
  let s := overAll s.mgt.commits abandonCommit { s with txd.proposal := none }
  let lo := faultKey 1 0
  let s := { s with
    mgt.seats := vmap s.mgt.seats Seat.afterRestart
    mem.flips := s.mem.flips.filter fun e => decide (e.1 < lo ∨ faultKey 2 0 ≤ e.1)
    mgt.fwReady := false
    mgt.coreStopped := Vector.replicate 4 none
    mon.waiting := []
    mon.atBoundary := []
    mgt.restarting := true }
  { s with lod.propose := none }

/-- `CONTROL_RESTART` (Table 2.19): reserved to `SEAT0`; the response is posted before the restart begins. -/
def execControlRestart (req : Request) (s : State) : Result :=
  .next (serve req s fun s =>
    if req.seat ≠ 0 then respond req (refusal stNotPermitted) s
    else if req.target ≠ ⟨0, 5, 0⟩ then respond req (refusal stBadTarget) s
    else if req.payload ≠ [] then respond req (refusal stBadValue) s
    else controlRestart (respond req okReply s))

/-- `FW_WATCHDOG` (R80): a core gives its last signal, and what waits for it is served no more; or its watchdog expires, `watchdog_ms`
after that signal: `EV013`, then a control restart. A core that does not run yet has no watchdog. An expiry of a core that still ran counts
from now (DESIGN CHOICE, log entry 97). -/
def execFwWatchdog (core : Fin 4) (expires : Bool) (s : State) : Result :=
  if s.mgt.fwReady = false ∨ s.clk.mgmtStopped then .next s
  else
    let last := s.mgt.coreStopped[core].getD s.now
    if expires then .next (controlRestart (raise 13 (s.reach (last + 1000 * s.cfgN Param.mpcWatchdogMs))))
    else .next { s with mgt.coreStopped := s.mgt.coreStopped.set core (some last) }

/-- `FW_FETCH_UNCORRECTABLE` (R440, Table 14.4): a word of the firmware memory is counted and logged; `EV076`, then a control
restart. -/
def execFwFetchUncorrectable (word : Nat) (poisoned : Bool) (s : State) : Result :=
  if s.mgt.restarting ∨ s.clk.mgmtStopped then .next s
  else .next (controlRestart (raise 76 (noteError 1 word (if poisoned then 5 else 3) 1 s)))

/-- `CONTROL_RESTART_DONE` (R79): firmware is ready again, `EV012`; authority is judged again (Table 16.11). -/
def execControlRestartDone (s : State) : Result :=
  if s.mgt.restarting = false then .next s
  else
    .next (judgeDomain (raise 12 { s with mgt.restarting := false, mgt.fwReady := decide (8 ≤ s.mgt.seq.step) }))

end Sys2Proof.Machine
end

