-- ==== Sys2Proof/Machine/Power.lean ====
section
/-!
DEFINITION. PWR, the start-up sequencer `MGT.SEQ` and leaving the safe state (chapter 17, R423, R438, R439).
-/
namespace Sys2Proof.Machine

/-! ### Cold reset (R77, R545) -/

/-- A cold device reset with its cause: what is fused, the supply's own state and the straps until the next reference are kept
(DEDUCED, log entry 39). -/
def coldReset (cause : Nat) (s : State) : State :=
  { State.reset with
    free := s.free
    fuses := s.fuses
    mgt := { seq := { straps := s.mgt.seq.straps }, perst := s.mgt.perst }
    pwr := { vinPresent := s.pwr.vinPresent, vinRose := s.pwr.vinRose, porstLow := s.pwr.porstLow,
             offLatched := s.pwr.offLatched, priorShutdown := s.pwr.priorShutdown, resetCause := cause }
    tap := s.tap
    boundary := s.boundary
    out := s.out
    pending := s.pending }

/-- Every rail but always-on goes off: no clock runs (R524, R531, R545) (DEDUCED, log entries 39, 40). -/
def railsOff (s : State) : State :=
  { s with pwr.powered := false, pwr.pgood := false, clk.mgmtStopped := true, clk.coreStopped := true, clk.timeStopped := true,
           clk.hcoreStopped := true }

/-- A shutdown by temperature or rail fault (R527, R545): the device stays off, and the restart will report it (DEDUCED, log entry 39). -/
def shutDown (cause : Nat) (s : State) : State :=
  let s := railsOff (coldReset cause s)
  { s with pwr.offLatched := true, pwr.vinRose := false, pwr.priorShutdown := true }

/-- `DEVICE_RESET` (R81, Table 2.19): reserved to `SEAT0`; no response is posted. -/
def execDeviceReset (req : Request) (s : State) : Result :=
  .next (serve req s fun s =>
    match targetCheck s req false with
    | some rep => respond req rep s
    | none =>
      if req.seat ≠ 0 then respond req (refusal stNotPermitted) s
      else if req.payload.map BitVec.toNat ≠ [0x51, 0x4B] then respond req (refusal stBadValue) s
      else coldReset 2 s)

/-! ### Supply (R522 to R531) -/

/-- `VIN_RISE` (R523): VIN reaches 3.0 V. `lost` says that it has been below 2.5 V, where the always-on rail keeps nothing
(DEDUCED, log entry 42). -/
def execVinRise (lost : Bool) (s : State) : Result :=
  let s := { s with pwr.vinPresent := true, pwr.vinRose := true }
  .next (if lost then { s with pwr.resetCause := 0, pwr.priorShutdown := false } else s)

/-- `VIN_LOW` (R524). -/
def execVinLow (s : State) : Result := if s.pwr.vinLow then .next s else .next (raise 21 { s with pwr.vinLow := true })

/-- `VIN_LOW_CLEAR` (R524). -/
def execVinLowClear (s : State) : Result := .next { s with pwr.vinLow := false }

/-- `BROWN_OUT` (R524): cold reset with cause 3; start-up begins again when VIN is back. A shutdown keeps its cause. -/
def execBrownOut (s : State) : Result :=
  let s := railsOff (coldReset (if s.pwr.offLatched then s.pwr.resetCause else 3) s)
  .next { s with pwr.vinPresent := false, pwr.vinRose := false }

/-- `PORST_ASSERT` (R531): cold reset with cause 1. A shutdown keeps its cause (R527, R545) (DEDUCED, log entry 39). -/
def execPorstAssert (s : State) : Result :=
  let s := railsOff (coldReset (if s.pwr.offLatched then s.pwr.resetCause else 1) s)
  .next { s with pwr.porstLow := true }

/-- `STARTUP_REFERENCE` (R531, R532): VIN is present and `PORST_N` is high. After a shutdown it is ignored while the always-on
sensor, in 0.125 °C, reads 100 °C or more, unless VIN has been renewed (R545) (DESIGN CHOICE, log entry 25). -/
def execStartupReference (straps : BitVec 8) (aonTemp : Int) (s : State) : Result :=
  if s.pwr.vinPresent = false ∨ s.mgt.seq.step ≠ 0 then .next s
  else
    let s := { s with pwr.porstLow := false }
    if s.pwr.offLatched ∧ s.pwr.vinRose = false ∧ 800 ≤ aonTemp then .next s
    else
      .next { s with
        pwr.offLatched := false
        pwr.powered := true
        clk.mgmtStopped := false
        clk.coreStopped := false
        clk.timeStopped := false
        clk.hcoreStopped := false
        mgt.seq.step := 1
        mgt.seq.straps := straps
        mgt.seq.refAt := s.now }

/-- `RAILS_IN_REGULATION` (R529, R532): `PGOOD` is released; step 2 ends, and the straps are checked. -/
def execRailsInRegulation (s : State) : Result :=
  if s.pwr.powered = false then .next s
  else
    let s := { s with pwr.pgood := true, pwr.inReg := 0x7F }
    .next (startupClocks (if s.mgt.seq.step = 1 ∧ s.mgt.seq.fault = false then { s with mgt.seq.step := 2 } else s))

/-- `PHASE_FAILED` (R526): counted; the second one on a rail raises `EV019` and forces throttling. -/
def execPhaseFailed (rail : Fin 7) (s : State) : Result :=
  let s := raise 18 { s with pwr.phasesFailed := vmod s.pwr.phasesFailed rail fun n => satInc 2 n }
  .next (if s.pwr.phasesFailed[rail] = 2 then judgeThermal (raise 19 s) else s)

/-- `RAIL_FAULT` (R527): `EV020`, then a shutdown with cause 5. -/
def execRailFault (rail : Fin 7) (s : State) : Result :=
  .next (shutDown 5 (raise 20 { s with pwr.inReg := withBit s.pwr.inReg rail.val false }))

/-- `AVS_UPDATE` (R528): scaling asks for a voltage in steps of 5 mV, from the fused speed code and Tj. It is held between 0.62 V and
0.80 V; each entry into the condition above that raises `EV027` (DESIGN CHOICE, log entry 42). -/
def execAvsUpdate (s : State) : Result :=
  if s.cfgB Param.regAvsEnable = false then .next { s with pwr.coreMv := 800, pwr.avsLimited := false }
  else
    let steps := Config.avsSteps s.fuses.speedCode s.pwr.tj
    let tooMany := decide (160 < steps)
    let enters := tooMany && !s.pwr.avsLimited
    let s := { s with pwr.coreMv := max 620 (min 800 (5 * steps)), pwr.avsLimited := tooMany }
    .next (if enters then raise 27 s else s)

/-- `IIN_MEASURE` (R550): the means over 1 ms of VIN in millivolts and of the input current in 10 mA. -/
def execIinMeasure (vinMv iin10mA : Nat) (s : State) : Result :=
  let i := min iin10mA 65535
  let s := { s with pwr.vinMv := min vinMv 65535, pwr.iin10mA := i, pwr.iinPeak := max s.pwr.iinPeak i }
  .next (if 3000 < iin10mA then raise 22 s else s)

/-- `REG_IIN_PEAK_READ` (R11, R549): returns the peak and clears it. -/
def execRegIinPeakRead (seat : SeatId) (s : State) : Result :=
  whenOpen seat ⟨1, 0, 0⟩ false (.loRead seat 0x10010) s <|
  if s.clk.mgmtStopped then .next s
  else if s.resetRequired ⟨1, 0, 0⟩ then .next (readReturns seat 0 s)
  else .next { readReturns seat s.pwr.iinPeak s with pwr.iinPeak := 0 }

/-! ### Start-up (R532 to R535, R438, R439) -/

/-- A start-up step that completes: `act` if the sequencer stands at `step` without a fault. -/
def atStep (step : Nat) (s : State) (act : State → State) : Result :=
  if s.mgt.seq.step = step ∧ s.mgt.seq.fault = false then .next (act s) else .next s

/-- Retire the bulk banks that the self-test finds bad: counted, and `EV072` for each (R439, R457). -/
def retireAtStart (banks : List Nat) (s : State) : State :=
  banks.eraseDups.foldl (fun s b =>
    raise 72 { s with
      mem.banks := s.mem.banks + 1
      mem.startBanks := s.mem.startBanks ||| BitVec.ofNat 64 (2 ^ b)
      mem.retired := s.mem.retired ++ (Retiring.pages ⟨true, b⟩).filter fun p => !s.mem.isRetired p }) s

/-- `MEMORY_SELFTEST_FILL` (R436, R438, R439): the words in which one bit fails, by group; the bulk banks that fail; and whether a
checker or a word of another group fails. -/
def execMemorySelftestFill (singles : List (Fin 6 × Nat)) (banks : List (Fin 64)) (failed : Bool) (s : State) : Result :=
  atStep 5 s fun s =>
    let s := { s with mem.bulk := [], mem.flips := [], mem.image := [] }
    let s := singles.foldl (fun s w => noteError w.1 w.2 1 3 s) s
    let bs := (banks.map Fin.val).eraseDups
    let s := retireAtStart bs s
    if failed || decide (4 < bs.length) || bs.any fun b => decide (128 * b < pmPages) then failStartup 3 (raise 71 s)
    else { s with mgt.seq.step := 6 }

/-- `SEQ_BOOT_GO` (R533, R549): a write to the register. -/
def execSeqBootGo (seat : SeatId) (value : Word) (s : State) : Result :=
  seatWrite seat s fun s =>
    if s.bootWindow seat = false then refuseWrite seat s
    else if value.getLsbD 0 = false ∨ s.mgt.seq.step ≠ 6 then s
    else { s with mgt.seq.fault := false, mgt.seq.cause := 0, mgt.seq.verifying := true }

/-- `FIRMWARE_VERIFIED` (R533, R534): the signature of the image in the slot is good. Its `VERSION` and `FLOOR` decide: it rolls
back, or the fused floor rises and step 7 ends. A slot 0 that fails leaves slot 1 to be read (DEDUCED, log entry 43). -/
def execFirmwareVerified (slot : Fin 2) (version floor build : Nat) (s : State) : Result :=
  atStep 6 s fun s =>
    let pcie := s.mgt.seq.straps.getLsbD 4
    let rises := decide (s.fuses.floor < floor)
    if pcie && !s.mgt.seq.verifying then s
    else if version < s.fuses.floor ∨ version < floor ∨ (rises ∧ 64 ≤ s.fuses.floorRises) then
      if pcie = false ∧ slot.val = 0 then s else failStartup 5 s
    else
      { s with
        fuses.floor := max s.fuses.floor floor
        fuses.floorRises := s.fuses.floorRises + bit rises
        mgt.build := build % 2 ^ 32
        mgt.seq.version := version % 65536
        mgt.seq.bootSlot := !pcie && decide (slot.val = 1)
        mgt.seq.verifying := false
        mgt.seq.step := 7 }

/-- `SEATS_READY` (R532): step 8 ends, `EV014`; `EV026` follows a shutdown (R545). FEH is released (R474), and initial calibration
starts (R107). A self-test of COD or SEC that has failed before is reported now, in step 9 (R230, R285, R535). -/
def execSeatsReady (s : State) : Result :=
  atStep 7 s fun s =>
    let s := raise 14 { s with mgt.fwReady := true, mgt.seq.everReady := true, mgt.seq.step := 8,
                               mgt.seq.readyTimeUs := (s.now - s.mgt.seq.refAt) % 2 ^ 32 }
    let s := if s.pwr.priorShutdown then raise 26 { s with pwr.priorShutdown := false } else s
    let s := if s.cod.failedTest || s.sec.selftestFail then reportSelftest s else s
    judgeDomain (startInitCal (fehRelease s))

/-- `INIT_CAL_DONE` (R107): the outcomes per slice and per sub-DAC. At start-up it ends step 9: the superframe count starts, and
the groups take their states (R546). -/
def execInitCalDone (adcs dacs : List InitCalItem) (s : State) : Result :=
  if s.cnv.initCal = false then .next s
  else
    let s := endInitCal adcs dacs s
    if s.mgt.seq.step = 8 ∧ s.txd.counting = false then
      let old := s.deviceState
      let s := startCounting { s with mgt.seq.step := if s.mgt.seq.fault then 8 else 9 }
      let idle := fun (g : Fin 4) => s.cfgN Param.pstIdleState 0 g.val
      .next (judgeGroups (followPower old { s with pwr.groups := vgen 4 fun g => { state := idle g, target := idle g } }))
    else .next s

/-- The time from the reference by which the start-up step after `step` ends, in microseconds (Table 17.4). -/
def startupBound (step : Nat) : Nat :=
  match step with
  | 0 => 0 | 1 => 3000 | 2 => 3100 | 3 => 5700 | 4 => 5900 | 5 => 7400 | 6 => 100000 | 7 => 150000 | _ => 180000

/-- The step in progress can fail by a `CAUSE` of Table 17.14: any by a timeout, step 3 by the straps, the self-tests of steps 6 and 9 by a
failure, and step 7 by the signature, a rollback or for want of an image (R532, R535). -/
def causeFits (step cause : Nat) : Bool :=
  match cause with
  | 1 => decide (step < 9)
  | 2 => decide (step = 2)
  | 3 => decide (step = 5 ∨ step = 8)
  | 4 | 5 | 6 => decide (step = 6)
  | _ => false

/-- `STARTUP_FAULT` (R535): the step in progress fails, by the `CAUSE` of Table 17.14; a timeout not before the step's bound. -/
def execStartupFault (cause : Fin 7) (s : State) : Result :=
  if causeFits s.mgt.seq.step cause.val = false then .next s
  else .next (failStartup cause.val (if cause.val = 1 then s.reach (s.mgt.seq.refAt + startupBound s.mgt.seq.step) else s))

/-! ### Tolerances and power states (R536 to R542, R548) -/

/-- `PWR_TOLERANCE` (R539, Table 17.12). -/
def execPwrTolerance (req : Request) (s : State) : Result :=
  .next (serveTarget req s [(1, 1)] false fun s =>
    if req.payload.length ≠ 16 then respond req (refusal stBadValue) s
    else
      let given := vgen 4 fun g =>
        let t := u32At req.payload (4 * g.val)
        if t = 0xFFFFFFFF then none else some t
      judgeGroups (respond req okReply { s with pwr.tolerances := s.pwr.tolerances.set req.seat given }))

/-- The 16 bytes of one source's tolerances. -/
def toleranceBytes (f : Fin 4 → Option Nat) : List Byte := (indices 4).flatMap fun g => leBytes 4 ((f g).getD 0xFFFFFFFF)

/-- `PWR_QUERY` (Table 17.12): the tolerances of seats 0 to 3, then Flint's. -/
def execPwrQuery (req : Request) (s : State) : Result :=
  .next (serveTarget req s [(1, 1)] false fun s =>
    if req.payload ≠ [] then respond req (refusal stBadValue) s
    else
      let flint := fun (g : Fin 4) => if s.flintGroup g then s.pwr.flintTol else none
      respond req (okWith ((indices 4).flatMap (fun i => toleranceBytes fun g => s.pwr.tolerances[i][g]) ++ toleranceBytes flint)) s)

/-- Change one group. -/
def State.onTraffic (s : State) (g : Fin 4) (f : Group → Group) : State := { s with pwr.groups := vmod s.pwr.groups g f }

/-- `DEEPEN_HOLD_EXPIRE` (R540): a deeper target has held for `deepen_hold_ms`; the entry starts. -/
def execDeepenHoldExpire (group : Fin 4) (s : State) : Result :=
  let k := s.pwr.groups[group]
  match k.holdSince with
  | none => .next s
  | some t =>
    if k.move.isSome ∨ k.target ≤ k.state then .next s
    else
      let s := s.reach (t + 1000 * s.cfgN Param.pstDeepenHoldMs)
      .next (s.onTraffic group fun k => { k with holdSince := none, move := some ⟨k.state, k.target, true, s.now⟩ })

/-- `POWER_STATE_ENTERED` (R541): a deeper state is entered. -/
def execPowerStateEntered (group : Fin 4) (s : State) : Result :=
  match s.pwr.groups[group].move with
  | none => .next s
  | some m =>
    if m.deeper = false then .next s
    else
      let old := s.deviceState
      let s := s.onTraffic group fun k => { k with state := m.target, move := none }
      .next (judgeGroups (followPower old (raise 16 { s with pwr.transitions := satInc 32 s.pwr.transitions })))

/-- `POWER_STATE_EXITED` (R541): an exit is complete after `us` microseconds. Out of P4 the coefficient and buffer memories have
been filled (Table 14.8) (DEDUCED, log entry 42). -/
def execPowerStateExited (group : Fin 4) (us : Nat) (s : State) : Result :=
  match s.pwr.groups[group].move with
  | none => .next s
  | some m =>
    if m.deeper then .next s
    else
      let s := s.reach (m.since + us)
      let old := s.deviceState
      let s := if s.pwr.groups[group].state = 1 then secExit group s else s
      let s := s.onTraffic group fun k => { k with state := m.target, move := none }
      let s := raise 16 { s with pwr.transitions := satInc 32 s.pwr.transitions, pwr.lastExitUs := us % 2 ^ 28,
                                 pwr.lastExitFrom := m.from_ }
      let s := if exitBound m.from_ < us then raise 17 s else s
      let filled := decide (old = 4 ∧ s.deviceState ≠ 4)
      let lo := faultKey 2 0
      let s := if filled then
          { s with mem.flips := s.mem.flips.filter fun e => decide (e.1 < lo ∨ faultKey 4 0 ≤ e.1) }
        else s
      .next (takeStored (judgeGroups (followPower old s)))

/-! ### Temperature (R543 to R545) -/

/-- The reading of a sensor is valid: inside -40 °C to +150 °C, and within 40 °C of some other sensor (R543). Readings are in
0.125 °C. -/
def sensorValid (t : Vector Int 8) (n : Fin 8) : Bool :=
  decide (-320 ≤ t[n] ∧ t[n] ≤ 1200) &&
    ((indices 8).any fun m => decide (m ≠ n ∧ t[n] - t[m] ≤ 320 ∧ t[m] - t[n] ≤ 320))

/-- The junction temperature: the highest valid reading, or 125 °C without one (R543). -/
def junction (t : Vector Int 8) : Int :=
  match (indices 8).filter (sensorValid t) with
  | [] => 1000
  | n :: ns => ns.foldl (fun m k => max m t[k]) t[n]

/-- `THERMAL_READ` (R543 to R545): the eight readings in 0.125 °C. Two readings in succession at 125 °C or above, 100 µs apart, shut
the device down (DEDUCED, log entry 42). -/
def execThermalRead (readings : Vector Int 8) (s : State) : Result :=
  let invalid := BitVec.ofNat 8 (((indices 8).map fun n => if sensorValid readings n then 0 else 2 ^ n.val).sum)
  let tj := junction readings
  let fresh := decide (invalid &&& ~~~ s.pwr.invalid ≠ 0)
  let hot := decide (1000 ≤ tj)
  let before := s.pwr.hotSince
  let s := { s with
    pwr.temps := readings
    pwr.invalid := invalid
    pwr.tj := tj
    pwr.tjMax := if s.pwr.tjSeen then max s.pwr.tjMax tj else tj
    pwr.tjSeen := true
    pwr.hotSince := if hot then some (before.getD s.now) else none }
  let s := judgeThermal (if fresh then raise 28 s else s)
  .next (if hot && before.isSome then shutDown 4 s else s)

/-- `THM_MAX_SEEN_READ` (R11, R549): returns the highest Tj and clears it. -/
def execThmMaxSeenRead (seat : SeatId) (s : State) : Result :=
  whenOpen seat ⟨1, 2, 0⟩ false (.loRead seat 0x11004) s <|
  if s.clk.mgmtStopped then .next s
  else if s.resetRequired ⟨1, 2, 0⟩ then .next (readReturns seat 0 s)
  else .next { readReturns seat (natOfInt 16 s.pwr.tjMax) s with pwr.tjMax := 0, pwr.tjSeen := false }

/-! ### Leaving the safe state (R423) -/

/-- CORE restarts as an exit from P4: the receive chain, decoder, framer, cipher, Lodestone and chains start anew, and CNV calibrates
(R423, R346). -/
def restartCore (s : State) : State :=
  if s.clk.coreStopped then
    let s := decoderLoses (rxdEnter 4 { s with clk.coreStopped := false })
    let s := lodEnter 4 (overAll (indices 4) secExit (frmEnter 4 s))
    cnvExit 4 (abortCapture 3 (overAll (indices 8) unsettle s))
  else s

/-- HCORE restarts as an exit from P4: the lanes come up again. -/
def restartHcore (s : State) : State :=
  if s.clk.hcoreStopped then
    let s := overAll (indices 16) (fun l s => laneDown l 0 (s.onLane l fun k => { k with low := true, deep := true }))
      { s with clk.hcoreStopped := false }
    hstPower s
  else s

/-- TIME restarts: the device time has to become valid again, for which the PTP ports start to listen anew (R397, R423). -/
def restartTime (s : State) : State :=
  if s.clk.timeStopped then
    overAll ((indices 2).filter fun p => s.ptpOn p) (fun p s => setPtpState p 1 s)
      { s with clk.timeStopped := false, tim.timeValid := false }
  else s

/-- Every forcing source is ready (R423, Table 13.2). -/
def State.forcingReady (s : State) : Bool := (indices 10).all fun n => !forcing n || s.sourceReady n.val

/-- `CLK_RESUME` (R423). -/
def execClkResume (req : Request) (s : State) : Result :=
  .next (serveTarget req s [(2, 3)] true fun s =>
    if req.payload ≠ [] then respond req (refusal stBadValue) s
    else if s.clk.safeState = false then respond req okReply s
    else if s.forcingReady = false then respond req (refusal stNotPermitted) s
    else
      let s := if s.clk.fallback then
          raise 36 { s with clk.muxes := vmod s.clk.muxes 0 (fun m => { m with sel := true }), clk.fallback := false }
        else s
      let s := { s with clk.failed := 0, clk.safeState := false,
                        hst.lanes := vmap s.hst.lanes fun k => { k with forced := false } }
      let s := raise 35 (resumeDacs s)
      takeStored (restartTime (restartHcore (restartCore (respond req okReply s)))))

end Sys2Proof.Machine
end

