-- ==== Sys2Proof/Machine/Performance.lean ====
section
/-!
DEFINITION. `MON.PMC`: derived measures, performance intervals, their records and on-demand snapshots (R332 to R340, R348,
R500).
-/
namespace Sys2Proof.Machine

/-! ### Derived measures (R332) -/

/-- Add a sample to a gauge. -/
def Gauge.add (g : Gauge) (v : Int) : Gauge :=
  if g.count = 0 then ⟨v, v, v, 1⟩ else ⟨min g.lo v, max g.hi v, g.sum + v, g.count + 1⟩

/-- Put two gauges together (R336). -/
def Gauge.join (a b : Gauge) : Gauge :=
  if a.count = 0 then b else if b.count = 0 then a else ⟨min a.lo b.lo, max a.hi b.hi, a.sum + b.sum, a.count + b.count⟩

/-- 10^(1/2000) and 1/√(2π) in units of 2^-256, rounded down. -/
def decibelStep : Nat := 115925476575789266629971247887516010220087218369938896992226973846969372399420
def gaussScale : Nat := 46194360132781112550002021175736725500524138381534012844286371432913401257262

/-- 10^(n/2000) in units of 2^-256. -/
def decibelUp : Nat → Nat
  | 0 => 2 ^ 256
  | n + 1 => decibelUp n * decibelStep / 2 ^ 256

/-- The amplitude of a level in 0.01 dB, in units of 2^-256. -/
def amplitudeOf (level : Int) : Nat :=
  if 0 ≤ level then decibelUp level.toNat else 2 ^ 512 / decibelUp (-level).toNat

/-- The terms of the series of the Gaussian integral from 0 to `q` that follow `term`, which is `n` terms in. -/
def gaussTerms (q : Nat) : Nat → Nat → Nat → Int
  | 0, _, _ => 0
  | fuel + 1, n, term =>
    (term / (2 * n + 1) : Nat) - gaussTerms q fuel (n + 1) (term * q / 2 ^ 256 * q / 2 ^ 256 / (2 * (n + 1)))

/-- erfc(q / √2) / 2 in units of 2^-256, by its series; the rounding of the terms stays below 2^-100 for the amplitudes it is used for. -/
def gaussTail (q : Nat) : Int := 2 ^ 255 - gaussScale * gaussTerms q 400 0 q / 2 ^ 256

/-- The greatest level from `lo` upwards below `lo` + 2^fuel for which `p` holds, for a `p` that holds up to some level. -/
def searchBy (p : Int → Bool) : Nat → Int → Int
  | 0, lo => lo
  | n + 1, lo => if p (lo + 2 ^ n) then searchBy p n (lo + 2 ^ n) else searchBy p n lo

/-- The Q in 0.01 dB of `corr` errors in `bits`: 20 log10(√2 × erfc⁻¹(2 × BER)), which no count of 64 bits brings above 22 dB; between two
steps the rounding is free (R332) (DESIGN CHOICE, log entries 14, 15). -/
def qualityOf (corr bits : Nat) : Int :=
  let l := searchBy (fun l => decide (l ≤ 2200) && decide ((corr : Int) * 2 ^ 256 ≤ gaussTail (amplitudeOf l) * bits)) 16 (-32768)
  if Config.levelRoundsUp corr bits then l + 1 else l

/-- The OSNR in 0.01 dB from the mean signal power and noise of both polarisations, the transceiver SNR in 0.1 dB and the symbol rate in
kBd; 60 dB if the SNR reaches that of the transceiver (R332). Both polarisations count by their sums (DESIGN CHOICE, log entry 77). -/
def osnrOf (power noise trDbX10 rs : Nat) : Int :=
  let tr := amplitudeOf (20 * trDbX10)
  if noise * tr ≤ power * 2 ^ 256 then 6000
  else levelOf (rs * power * tr) (12500000 * (noise * tr - power * 2 ^ 256))

/-- The sum of the taps of a filter: its response at the carrier, taken as the middle of the band (DESIGN CHOICE, log entry 77). -/
def tapSum (f : List (Int × Int)) : Int × Int := ((f.map Prod.fst).sum, (f.map Prod.snd).sum)

/-- The trace of HᴴH, and the squared magnitude of the determinant, for the 2×2 response H at the carrier. -/
def Rxd.response (r : Rxd) : Nat × Nat :=
  let h := fun (i : Fin 8) => tapSum r.pmxTaps[i]
  let mul := fun (a b : Int × Int) => (a.1 * b.1 - a.2 * b.2, a.1 * b.2 + a.2 * b.1)
  let p := mul (h 0) (h 3)
  let m := mul (h 1) (h 2)
  let norm := fun (a : Int × Int) => a.1 * a.1 + a.2 * a.2
  ((norm (h 0) + norm (h 1) + norm (h 2) + norm (h 3)).toNat, (norm (p.1 - m.1, p.2 - m.2)).toNat)

/-- The PDL in 0.01 dB: the ratio of the singular values, 10 log10 of the ratio of the roots of x² - t x + d for trace t and determinant d, whose
square root is taken in units of 2^-128 (R332). -/
def Rxd.pdl (r : Rxd) : Int :=
  let t := r.response.1
  let root := Nat.sqrt ((t * t - 4 * r.response.2) * 2 ^ 256)
  levelOf (t * 2 ^ 128 + root) (t * 2 ^ 128 - root)

/-- The pre-FEC counts of the decoder in use: bits and bits in error (Table 6.10). -/
def State.preFec (s : State) : Nat × Nat :=
  if s.rxInterop then (s.cod.ifdCtr.bits, s.cod.ifdCtr.corr) else (s.cod.ctr.bits, s.cod.ctr.corr)

/-- What a count has gained since it stood at `before`: all of it if it has been cleared since. -/
def gainedCount (now before : Nat) : Nat := if now < before then now else now - before

/-- The measures 0, 1, 2, 5 and 8 at a sample (Table 10.4), each free where its formula has no value (DESIGN CHOICE, log entry 77). -/
def State.snrOf (s : State) (measure power noise : Nat) : Int :=
  if power = 0 ∨ noise = 0 then Config.openMeasure measure s.free else levelOf power noise
def State.osnr (s : State) (e : Estimates) : Int :=
  if e.powerX + e.powerY = 0 then Config.openMeasure 2 s.free
  else osnrOf (e.powerX + e.powerY) (e.noiseX + e.noiseY) (s.cfgN Param.pmcSnrTrDbX10) s.rxSymbolRate
def State.pdl (s : State) : Int := if s.rxd.response.2 = 0 then Config.openMeasure 5 s.free else s.rxd.pdl
def State.quality (s : State) : Int :=
  let bits := gainedCount s.preFec.1 s.mon.fecBits
  let corr := gainedCount s.preFec.2 s.mon.fecCorr
  if corr = 0 ∨ bits ≤ 2 * corr then Config.openMeasure 8 s.free else qualityOf corr bits

/-- Add a sample to one gauge. -/
def putMeasure (i : Fin 9) (v : Int) (s : State) : State := { s with mon.gauges := vmod s.mon.gauges i fun g => g.add v }

/-- The registers of the receive chain take the estimates of a sample (R138, R153). -/
def takeEstimate (e : Estimates) (s : State) : State :=
  { takeDgd e.dgd s with
    rxd.foKHz := e.foKHz
    rxd.effSnr := min e.effSnr 65535
    rxd.ringVar := e.rings.take s.rxd.rings
    rxd.nleGain := if s.rxd.nle then e.nleGain else 0 }

/-- `MEASURE_SAMPLE` (R332): every 10 ms the measures of Table 10.4 are sampled, those of the receive chain while it is locked and the Lodestone
offset while its estimate is valid (DESIGN CHOICE, log entries 5, 77). -/
def execMeasureSample (e : Estimates) (s : State) : Result :=
  let s := s.reach (s.mon.sampledAt + 10000)
  let s := if s.rxd.rxState = .locked then
      let s := takeEstimate e s
      putMeasure 8 s.quality (putMeasure 6 s.rxd.foKHz (putMeasure 5 s.pdl (putMeasure 4 s.rxd.dgd (putMeasure 3 s.rxd.cdValue
        (putMeasure 2 (s.osnr e) (putMeasure 1 (s.snrOf 1 e.powerY e.noiseY) (putMeasure 0 (s.snrOf 0 e.powerX e.noiseX) s)))))))
    else s
  let s := if s.lod.estimateValid then putMeasure 7 s.lod.fo s else s
  .next { s with mon.sampledAt := s.now, mon.fecBits := s.preFec.1, mon.fecCorr := s.preFec.2, free := s.free + 1 }

/-! ### Counters (R334) -/

/-- The Units whose counters take part in PM, in the order of the drain (R335). -/
def pmBlocks : List Path :=
  [⟨4, 1, 0⟩, ⟨8, 1, 0⟩, ⟨8, 3, 0⟩, ⟨9, 0, 0⟩, ⟨9, 1, 0⟩] ++ unitTargets 10 0 ++ [⟨13, 16, 0⟩]

/-- The running totals of one Unit, in the order of their LO offsets. -/
def State.totalsOf (s : State) (p : Path) : List Nat :=
  match p.sec, p.unit with
  | 4, _ => s.mem.groups.toList.map EccGroup.ce
  | 8, 1 =>
    let c := s.cod.ctr
    [c.bits, c.corr, c.blocks, c.uncorr, c.outer, c.iter, c.capped]
  | 8, _ => [s.cod.ifdCtr.bits, s.cod.ifdCtr.corr, s.cod.ifdCtr.uncorr]
  | 9, 0 => [s.frm.smBip, s.frm.pmBip]
  | 9, _ => [s.frm.replaced]
  | 10, _ => [(s.sec.channels.toList.getD p.inst {}).segments]
  | _, _ => s.hst.ports.toList.flatMap fun q => [q.fecCorr, q.fecUncorr]

/-- What a latch takes: the running totals of every Unit. -/
def State.pmTotals (s : State) : List (List Nat) := pmBlocks.map s.totalsOf

/-- The counts of one block in the present interval, and whether they are incomplete (R336). -/
def blockCounts (whole cleared : Bool) (now before : List Nat) : Bool × List Nat :=
  if cleared then (true, now)
  else (whole, now.zipIdx.map fun x => (x.1 + 2 ^ 64 - before.getD x.2 0) % 2 ^ 64)

/-- Domain time is kept (R500). -/
def State.domainAligned (s : State) : Bool :=
  let slaved := (indices 2).any fun p => decide ((s.ptpPort p).state = 2 ∨ (s.ptpPort p).state = 3)
  let master := (indices 2).any fun p => decide ((s.ptpPort p).state = 4)
  s.dom.authority && (decide (s.tim.selP = some 6 ∨ s.tim.selP = some 7) || (master && !slaved && s.tim.timeValid))

/-- The content of a 1 s or on-demand record at a latch in device second `sec`. A reset of `PMC` leaves the interval incomplete
(Table 10.7), as does one that began before the device was released. -/
def State.pmContent (s : State) (kind interval : Nat) : PmContent :=
  let whole := s.mon.early || s.mon.cleared.contains ⟨12, 2, 0⟩
  let before := s.mon.latched
  { kind
    aligned := s.domainAligned
    timeStep := s.mon.stepped
    interval
    latchS := s.tim.devS
    latchNs := s.tim.devNs
    gauges := s.mon.gauges
    blocks := pmBlocks.zipIdx.map fun x =>
      blockCounts whole (s.mon.cleared.contains x.1) (s.totalsOf x.1) (before.getD x.2 []) }

/-- Add the content of a 1 s record to a bin (R336) (DEDUCED, log entry 79). -/
def Bin.add (b : Bin) (c : PmContent) : Bin :=
  { start := some (b.start.getD c.interval)
    gauges := vgen 9 fun i => b.gauges[i].join c.gauges[i]
    blocks := if b.blocks = [] then c.blocks else
      (b.blocks.zip c.blocks).map fun x => (x.1.1 || x.2.1, (x.1.2.zip x.2.2).map fun y => (y.1 + y.2) % 2 ^ 64)
    timeStep := b.timeStep || c.timeStep
    bad := b.bad }

/-- The content of the record with which a bin closes. -/
def Bin.content (b : Bin) (kind : Nat) (c : PmContent) : PmContent :=
  { c with kind := kind, interval := b.start.getD c.interval, gauges := b.gauges, blocks := b.blocks, timeStep := b.timeStep }

/-! ### Records (R337, R339) -/

/-- The slots of each kind, and the first of them (R339). -/
def pmSlots (kind : Nat) : Nat × Nat :=
  match kind with
  | 0 => (64, 0) | 1 => (32, 64) | 2 => (8, 96) | _ => (4, 104)

/-- The bulk address of the `n`-th record of a kind. -/
def pmAddress (kind n : Nat) : Nat := ((pmSlots kind).2 + n % (pmSlots kind).1) * 65536

/-- `LATCH_TIME` (Table 10.5). -/
def PmContent.latchTime (c : PmContent) : Nat := c.latchNs + fieldAt c.latchS 30 34

/-- The four numbers of a gauge: minimum, maximum, mean and samples. Without a sample the first three are open
(DESIGN CHOICE, log entries 16, 21). -/
def Gauge.words (g : Gauge) (i : Nat) : List Nat :=
  if g.count = 0 then [Config.emptyGauge i 0 % 2 ^ 32, Config.emptyGauge i 1 % 2 ^ 32, Config.emptyGauge i 2 % 2 ^ 32, 0]
  else
    let q := g.sum / (g.count : Int)
    let mean := if g.sum % (g.count : Int) ≠ 0 ∧ Config.meanRoundsUp g.sum g.count then q + 1 else q
    [natOfInt 32 g.lo, natOfInt 32 g.hi, natOfInt 32 mean, g.count]

/-- The words of a record (Table 10.5). `bad` names the counters, by block and place, whose words hold an uncorrectable
error (DEDUCED, log entry 79). -/
def PmContent.words (c : PmContent) (snap : Nat) (bad : List (Nat × Nat)) : List Nat :=
  let gauges := (indices 9).flatMap fun i =>
    let w := c.gauges[i].words i.val
    [w.getD 0 0 + w.getD 1 0 * 2 ^ 32, w.getD 2 0 + w.getD 3 0 * 2 ^ 32]
  let block := fun (x : (Bool × List Nat) × Nat) =>
    let p := pmBlocks.getD x.2 ⟨0, 0, 0⟩
    (p.word + fieldAt (bit x.1.1) 19 1 + fieldAt x.1.2.length 24 8) ::
      x.1.2.zipIdx.map fun y => if bad.contains (x.2, y.2) then 2 ^ 64 - 1 else y.1
  let body := gauges ++ c.blocks.zipIdx.flatMap block
  let word1 := fieldAt c.kind 0 2 + fieldAt (bit c.aligned) 2 1 + fieldAt (bit c.timeStep) 3 1 +
    fieldAt (bit (c.blocks.any Prod.fst)) 4 1 + fieldAt (bit (!bad.isEmpty)) 5 1 + fieldAt c.blocks.length 16 16 +
    fieldAt (4 + body.length) 32 32
  [snap, word1, c.interval, c.latchTime] ++ body

/-- The slot of the next record of a kind is being written: its word 0 holds all ones (R337, R339). -/
def openSlot (kind : Nat) (s : State) : State :=
  let k : Fin 4 := ⟨kind % 4, Nat.mod_lt _ (by decide)⟩
  bulkStore (pmAddress k.val s.mon.written[k]) (List.replicate 8 0xFF) 0 s

/-- Write one record into its slot, `SNAP` last, and report it (R339). -/
def storeRecord (c : PmContent) (bad : List (Nat × Nat)) (s : State) : State :=
  let k : Fin 4 := ⟨c.kind % 4, Nat.mod_lt _ (by decide)⟩
  let snap := s.mon.snap + 1
  let s := bulkStore (pmAddress k.val s.mon.written[k]) ((c.words snap bad).flatMap (leBytes 8)) 0 s
  let s := { s with
    mon.snap := snap
    mon.lastKind := k.val
    mon.interval := if k.val = 0 then c.interval else s.mon.interval
    mon.written := vmod s.mon.written k fun n => n + 1
    mon.snaps := vmod s.mon.snaps k fun l => (snap :: l).take (pmSlots k.val).1
    mon.flagStore := s.mon.flagStore || !bad.isEmpty }
  let s := raise 195 s
  let s := if bad.isEmpty then s else raise 196 s
  if c.blocks.any Prod.fst then raise 198 s else s

/-! ### Latches and drains (R333, R335, R338, R340) -/

/-- The answer to `PM_SNAPSHOT`. -/
def snapshotReply (snap : Nat) (c : PmContent) : Reply := okWith (leBytes 8 snap ++ leBytes 8 c.latchTime)

/-- Latch an on-demand snapshot for some requests (R340) (DEDUCED, log entry 78). -/
def latchOnDemand (rs : List Request) (s : State) : State :=
  let s := settleReplaced s
  let c := s.pmContent 3 s.tim.devS
  let s := openSlot 3 { s with mon.drain := some { content := c } }
  overAll rs (fun r s => respond r (snapshotReply (s.mon.snap + 1) c) s) s

/-- A drain ends: its record and those of the bins are written; a counter in which an error has been found is marked in the record of the second
and of every bin that holds it (R339). On-demand requests that have waited are latched (DEDUCED, log entry 79). -/
def endDrain (bad : List (Nat × Nat)) (ns : Nat) (s : State) : State :=
  match s.mon.drain with
  | none => s
  | some d =>
    let joins := fun (kind : Nat) (b : Bin) =>
      if d.content.kind = 0 ∧ (d.bins.all fun x => x.1.kind ≠ kind) then { b with bad := (b.bad ++ bad).eraseDups } else b
    let s := { s with mon.drain := none, mon.drainNs := min ns 65535, mon.bin15 := joins 1 s.mon.bin15, mon.bin24 := joins 2 s.mon.bin24 }
    let s := d.bins.foldl (fun s x => storeRecord x.1 (x.2 ++ bad).eraseDups s) (storeRecord d.content bad s)
    if s.mon.waiting = [] then s
    else latchOnDemand s.mon.waiting { s with mon.waiting := [] }

/-- `PM_DRAIN_DONE` (R335, R339, R440): the words in which an uncorrectable error or poison has been found, each counted and logged, and the
duration of the drain. -/
def execPmDrainDone (bad : List PmError) (ns : Nat) (s : State) : Result :=
  if s.mon.drain.isNone then .next s
  else
    let s := overAll bad (fun e s => noteError 0 e.word (if e.poisoned then 5 else 3) 0 s) s
    .next (endDrain (bad.map fun e => (e.block, e.place)) ns s)

/-- A memory group whose correctable errors have grown too fast in the interval: `EV069` (R445). -/
def judgeCeRate (s : State) : State :=
  let warn := s.cfgN Param.eccCeWarnPerS
  let hot := (indices 6).filter fun g => decide (s.mem.groups[g].ceAtInterval + warn < s.mem.groups[g].ce)
  let s := { s with mem.groups := vmap s.mem.groups fun g => { g with ceAtInterval := g.ce } }
  overAll hot (fun g s => raiseFor 69 g.val s) s

/-- `PM_INTERVAL_TICK` (R333, R334): the device time passes a whole second; every counter is latched, bins that end are closed,
and the Sections end their interval. A drain still in progress ends first (DEDUCED, log entry 78). -/
def execPmIntervalTick (s : State) : Result :=
  if s.clk.timeStopped then .next s
  else
    let s := s.reach (s.now + (1000000000 - s.tim.devNs + 999) / 1000)
    let s := settleReplaced (endDrain [] s.mon.drainNs (endDrain [] s.mon.drainNs s))
    let second := s.tim.devS
    let c := s.pmContent 0 (second - 1)
    let b15 := s.mon.bin15.add c
    let b24 := s.mon.bin24.add c
    let closes15 := decide (second % 900 = 0)
    let closes24 := decide (((second : Int) - 900 * s.cfgN Param.pmcDayOffsetQh) % 86400 = 0)
    let bins := (if closes15 then [(b15.content 1 c, b15.bad)] else []) ++ if closes24 then [(b24.content 2 c, b24.bad)] else []
    let rs := s.mon.atBoundary
    let s := { s with
      mon.latched := s.pmTotals
      mon.cleared := []
      mon.early := decide (s.mgt.seq.step ≠ 9)
      mon.stepped := false
      mon.gauges := Vector.replicate 9 {}
      mon.bin15 := if closes15 then { start := some second } else b15
      mon.bin24 := if closes24 then { start := some second } else b24
      mon.atBoundary := []
      mon.drain := some { content := c, bins := bins } }
    let s := bins.foldl (fun s x => openSlot x.1.kind s) (openSlot 0 s)
    let s := overAll rs (fun r s => respond r (snapshotReply (s.mon.snap + 1) c) s) s
    .next (judgeCeRate (hstInterval (secInterval (frmInterval (codInterval s)))))

/-- `PM_SNAPSHOT` (R340) (DEDUCED, log entry 78). -/
def execPmSnapshot (req : Request) (s : State) : Result :=
  .next (serveTarget req s [(12, 2)] false fun s =>
    if req.payload ≠ [] then respond req (refusal stBadValue) s
    else match s.mon.drain with
      | some d =>
        if d.content.kind = 3 then respond req (snapshotReply (s.mon.snap + 1) d.content) s
        else { s with mon.waiting := s.mon.waiting ++ [req] }
      | none =>
        if 999990000 ≤ s.tim.devNs ∧ s.clk.timeStopped = false then { s with mon.atBoundary := s.mon.atBoundary ++ [req] }
        else latchOnDemand [req] s)

/-- `PM_LOCATE` (R348): the capture-window address and the `SNAP` of a stored record, by kind and age. -/
def execPmLocate (req : Request) (s : State) : Result :=
  .next (serveTarget req s [(12, 2)] false fun s =>
    match h : decide (byteAt req.payload 0 < 4) with
    | false => respond req (refusal stBadValue) s
    | true =>
      let k : Fin 4 := ⟨byteAt req.payload 0, of_decide_eq_true h⟩
      let age := byteAt req.payload 1
      match s.mon.snaps[k][age]? with
      | none => respond req (refusal stBadValue) s
      | some snap =>
        if req.payload.length ≠ 2 then respond req (refusal stBadValue) s
        else respond req (okWith (leBytes 4 (pmAddress k.val (s.mon.written[k] - 1 - age)) ++ leBytes 8 snap)) s)

end Sys2Proof.Machine
end

