-- ==== Sys2Proof/Machine/Domain.lean ====
section
/-!
DEFINITION. The commands of DOM: Tvedry frames, roster and policy (R490 to R504), the Flint pair (R505 to R510) and the 1:N
group (R512 to R515).
-/
namespace Sys2Proof.Machine

/-! ### Reception (R491, R504, Table 16.5) -/

/-- The first check of Table 16.5 that a frame fails, with the NAK reason of those counted in `BAD`. -/
inductive TvlFault where
  | fcs
  | foreign
  | bad (reason : Nat)
deriving DecidableEq, Repr

/-- The payload length is right for the type (Table 16.3). -/
def lengthFits (f : TvlFrame) : Bool :=
  let n := f.payload.length
  match f.type with
  | 0x01 => n == 16
  | 0x02 => n == 128
  | 0x03 => n == 4
  | 0x10 => decide (22 ≤ n ∧ n ≤ 970 ∧ (n - 10) % 12 = 0)
  | 0x11 => n == 4
  | 0x20 => n == 8
  | 0x21 => n == 4
  | 0x30 => decide (1 ≤ n ∧ n ≤ 1024)
  | _ => false

/-- The type is accepted at the local epoch only (Table 16.3). -/
def epochBound (type : Nat) : Bool := [0x10, 0x11, 0x30].contains type

/-- The type is handled by `DAU` firmware (Table 16.3) (DEDUCED, log entry 86). -/
def byFirmware (type : Nat) : Bool := [0x02, 0x10, 0x11, 0x30].contains type

/-- A `HELLO` whose Bedrock digest differs from the local one. -/
def State.digestDiffers (s : State) (f : TvlFrame) : Bool := decide (f.type = 1 ∧ beAt f.payload 10 2 ≠ s.bedrockDigest)

/-- A `HELLO` that says that its sender is isolated (R499). -/
def isolatedSender (f : TvlFrame) : Bool := decide (f.type = 1) && (f.payload.getD 8 0).getLsbD 3

/-- The checks of Table 16.5 up to the header (DEDUCED, log entry 85). -/
def headFault (s : State) (f : TvlFrame) : Option TvlFault :=
  if f.macOk = false then some .fcs
  else if f.ethertype ≠ s.cfgN Param.dauEthertype ∨ f.tag ≠ s.cfgN Param.dauDomainTag then some .foreign
  else if f.version ≠ 1 ∨ f.lengthOk = false then some (.bad 1)
  else none

/-- The checks of Table 16.5 from the type on, but for the digest and `HOPS` (DEDUCED, log entry 86). -/
def bodyFault (s : State) (f : TvlFrame) : Option TvlFault :=
  if lengthFits f = false then some (.bad 2)
  else if epochBound f.type && decide (f.epoch ≠ s.dom.epoch) then some (.bad 3)
  else if isolatedSender f && !s.digestDiffers f then some (.bad 5)
  else none

/-- Answer a violation with a NAK (R504): at most one to a source in 10 ms, and none to a NAK (DEDUCED, log entry 86). -/
def sendNak (p : TvlId) (reason : Nat) (f : TvlFrame) (s : State) : State :=
  if f.type = 3 ∨ s.isMember = false ∨ s.dom.isolated = true ∨ (nmGet s.dom.nakAt f.source).any (fun t => s.now < t + 10000) then s
  else
    let pl := [BitVec.ofNat 8 reason, BitVec.ofNat 8 f.type] ++ beBytesOf 2 f.seq
    let s := floodFrame 3 f.source pl s
    { s.onTvl p fun q => { q with nakSent := satInc 16 q.nakSent } with dom.nakAt := nmPut s.dom.nakAt f.source s.now }

/-- Count a frame in `BAD`, with `EV248` (DEDUCED, log entry 86). -/
def countBad (p : TvlId) (s : State) : State := raiseFor 248 p.val (s.onTvl p fun q => { q with bad := satInc 16 q.bad })

/-- Count a violation, raise `EV248` and answer it. -/
def countFault (p : TvlId) (x : TvlFault) (f : TvlFrame) (s : State) : State :=
  match x with
  | .fcs => raiseFor 248 p.val (s.onTvl p fun q => { q with fcs := satInc 16 q.fcs })
  | .foreign => raiseFor 248 p.val (s.onTvl p fun q => { q with foreign := satInc 16 q.foreign })
  | .bad r => sendNak p r f (countBad p s)

/-- The frame has been accepted before: its `SEQ` is among the last 64 of its originator (R491) (DEDUCED, log entry 85). -/
def State.frameSeen (s : State) (f : TvlFrame) : Bool := ((nmGet s.dom.seen f.source).getD []).contains f.seq

/-- Note a frame as seen. -/
def noteFrame (f : TvlFrame) (s : State) : State :=
  { s with dom.seen := nmPut s.dom.seen f.source ((f.seq :: (nmGet s.dom.seen f.source).getD []).take 64) }

/-- Relay an accepted frame out of the other port (R491) (DEDUCED, log entry 86). -/
def relayFrame (p : TvlId) (f : TvlFrame) (s : State) : State :=
  let other : TvlId := 1 - p
  if s.cfgB Param.tvlRelay other.val ∧ f.hops < 31 ∧ s.dom.isolated = false then
    sendOut other { f with hops := f.hops + 1 } s
  else s

/-- Accept a frame: counted and relayed, and `HOPS` of 31 or more counted in `BAD`, unless an earlier check has failed (R504). -/
def acceptFrame (p : TvlId) (f : TvlFrame) (s : State) : State :=
  let far := decide (31 ≤ f.hops) && !s.digestDiffers f
  let s := s.onTvl p fun q => { q with rxFrames := satInc 32 q.rxFrames, bad := if far then satInc 16 q.bad else q.bad }
  relayFrame p f s

/-- The frame is for this device. -/
def State.addressed (s : State) (f : TvlFrame) : Bool := decide (f.dest = s.domainId ∨ f.dest = 0xFFFF)

/-- A `HELLO` with the device's own domain ID and another `DEVICE_ID` (R499): `EV247`, and the larger one is isolated
(DEDUCED, log entry 85). -/
def judgeDuplicate (f : TvlFrame) (s : State) : State :=
  let other := beAt f.payload 0 8
  if f.type = 1 ∧ lengthFits f = true ∧ other ≠ s.fuses.deviceId then
    let s := raise 247 s
    if other < s.fuses.deviceId then judgeNp (judgeAuthority { s with dom.isolated := true }) else s
  else s

/-- A frame arrives on a port: the checks of Table 16.5, the copies of R491, the firmware types of Table 16.11, relaying, and,
if it is of the type named and for this device, its processing. Only a port that is on receives, a PTP frame that the MAC accepts is none of
Tvedry's, and only a member processes frames (DEDUCED, log entry 86). -/
def receiveFrame (p : TvlId) (f : TvlFrame) (type : Nat) (s : State) (act : State → State) : State :=
  if s.tvlOn p = false ∨ (f.macOk = true ∧ f.ethertype = 0x88F7) then s
  else match headFault s f with
    | some x => countFault p x f s
    | none =>
      if f.source = s.domainId ∧ s.isMember = true then judgeDuplicate f s
      else if s.frameSeen f then s
      else
        let s := noteFrame f s
        match bodyFault s f with
        | some x => countFault p x f s
        | none =>
          let s := if s.digestDiffers f then countFault p (.bad 4) f s else s
          if byFirmware f.type && !s.mgt.fwReady then countBad p (relayFrame p f s)
          else
            let s := acceptFrame p f s
            if f.type = type ∧ s.addressed f = true ∧ s.isMember = true then act s else s

/-! ### Discovery (R492, R493, R499) -/

/-- The 16 bytes of a `HELLO` (Table 16.3). -/
def helloBytes (p : TvlId) (s : State) : List Byte :=
  beBytesOf 8 s.fuses.deviceId ++ beBytesOf 1 s.helloFlags ++ beBytesOf 1 p.val ++ beBytesOf 2 s.bedrockDigest ++
    beBytesOf 2 s.dom.roster.length ++ beBytesOf 2 0

/-- Send the `HELLO` of one port (DEDUCED, log entry 86). -/
def sendHello (p : TvlId) (s : State) : State :=
  if s.tvlOn p then
    let s := sendOut p (s.ownFrame 1 0xFFFF (helloBytes p s)) s
    { s with dom.seq := (s.dom.seq + 1) % 65536 }
  else s

/-- `HELLO_SEND` (R492): every 10 ms. -/
def execHelloSend (s : State) : Result :=
  .next (if s.isMember then sendHello 1 (sendHello 0 s) else s)

/-- A `HELLO` with `HOPS` 0 makes its sender a neighbour, `EV240` for the first. -/
def meetNeighbour (p : TvlId) (f : TvlFrame) (s : State) : State :=
  if f.hops ≠ 0 then s
  else
    let known := (nmGet (s.tvl p).neighbours f.source).isSome
    let s := s.onTvl p fun q => { q with neighbours := nmPut q.neighbours f.source s.now }
    if known then s else raiseFor 240 p.val s

/-- What a `HELLO` says of its sender. -/
def helloMember (f : TvlFrame) (s : State) : Member :=
  { deviceId := beAt f.payload 0 8, flags := beAt f.payload 8 1, hops := f.hops, helloAt := s.now, epoch := f.epoch
    digestOk := !s.digestDiffers f, reachable := true }

/-- A `HELLO` updates neighbours, reachability and authority. -/
def hearHello (p : TvlId) (f : TvlFrame) (s : State) : State :=
  let s := meetNeighbour p f s
  let was := s.reachSet.contains f.source
  let s := { s with dom.members := nmPut s.dom.members f.source (helloMember f s) }
  let is := s.reachSet.contains f.source
  if was = is then s
  else if is then judgeNp (domainChanged { s with dom.outSince := nmDel s.dom.outSince f.source })
  else judgeNp (memberLeaves f.source s)

/-- `HELLO_RX` (R491 to R494, R499). -/
def execHelloRx (port : Fin 2) (bytes : List Byte) (s : State) : Result :=
  let frame := tvlOf bytes
  .next (receiveFrame port frame 0x01 s (hearHello port frame))

/-- `NEIGHBOUR_LOST` (R492): 30 ms without a `HELLO` with `HOPS` 0. -/
def execNeighbourLost (port : Fin 2) (id : Nat) (s : State) : Result :=
  .next (match nmGet (s.tvl port).neighbours id with
    | none => s
    | some t => raiseFor 241 port.val ((s.reach (t + 30000)).onTvl port fun q => { q with neighbours := nmDel q.neighbours id }))

/-- `REACH_LOST` (R493): 30 ms without a `HELLO` by any path. -/
def execReachLost (id : Nat) (s : State) : Result :=
  .next (match nmGet s.dom.members id with
    | none => s
    | some m =>
      if m.reachable = false then s
      else
        let s := { s.reach (m.helloAt + 30000) with dom.members := nmPut s.dom.members id { m with reachable := false } }
        if m.digestOk then judgeNp (memberLeaves id s) else s)

/-- `TVL_PORT_LINK` (R492): block lock gained or lost. -/
def execTvlPortLink (port : Fin 2) (up : Bool) (s : State) : Result :=
  .next (if (s.tvl port).link = up ∨ s.tvlOn port = false then s
    else followInputs (raiseAt 242 0 port.val (s.onTvl port fun q =>
      { q with link := up, linkDowns := if up then q.linkDowns else satInc 16 q.linkDowns })))

/-! ### Roster (R494 to R498) -/

/-- The member's last `HELLO` shows authority. -/
def State.hasAuthority (s : State) (id : Nat) : Bool := (nmGet s.dom.members id).any fun m => bits m.flags 0 1 == 1

/-- A `ROSTER` from a member that holds authority (R494, R495, R497): adopted, but where two parts that both hold authority
meet the keeper gives their union (DEDUCED, log entry 87). -/
def hearRoster (f : TvlFrame) (s : State) : State :=
  let r := rosterOf f.payload
  if s.hasAuthority f.source = false ∨ s.dom.isolated = true then s
  else if r = s.dom.roster ∧ f.epoch = s.dom.epoch then s
  else if s.dom.authority && s.isKeeper then
    let s := { s with dom.members := (match nmGet s.dom.members f.source with
          | some m => nmPut s.dom.members f.source { m with epoch := max m.epoch f.epoch }
          | none => s.dom.members) }
    judgeDomain (keeperRoster (r.foldl insertId s.dom.roster) (s.epochSeen + 1) s)
  else judgeDomain (setRoster r f.epoch s)

/-- `ROSTER_RX` (R494, R495, R497). -/
def execRosterRx (port : Fin 2) (bytes : List Byte) (s : State) : Result :=
  let frame := tvlOf bytes
  .next (receiveFrame port frame 0x02 s (hearRoster frame))

/-- `ROSTER_TIMEOUT` (R495): the keeper removes a member that has stayed out of H for `roster_timeout_s`. -/
def execRosterTimeout (id : Nat) (s : State) : Result :=
  .next (match nmGet s.dom.outSince id with
    | none => s
    | some t =>
      if s.dom.authority && s.isKeeper && s.mgt.fwReady then
        let s := s.reach (t + s.cfgN Param.dauRosterTimeoutS * usPerS)
        judgeDomain (keeperRoster (s.dom.roster.filter fun x => decide (x ≠ id)) (s.dom.epoch + 1) s)
      else s)

/-- `DOM_ROSTER_ADOPT` (R498). -/
def execDomRosterAdopt (req : Request) (s : State) : Result :=
  .next (serveTarget req s [(15, 1)] true fun s =>
    if req.payload ≠ [] then respond req (refusal stBadValue) s
    else if s.bedrockQuorum ≠ [] ∨ s.dom.holdover = false then respond req (refusal stNotPermitted) s
    else respond req okReply (judgeDomain (keeperRoster s.reachSet (s.epochSeen + 1) s)))

/-- `DOM_MEMBER_QUERY` (Table 16.13) (DESIGN CHOICE, log entry 20; DEDUCED, log entry 89). -/
def execDomMemberQuery (req : Request) (s : State) : Result :=
  .next (serveTarget req s [(15, 1)] false fun s =>
    let id := u16At req.payload 0
    if req.payload.length ≠ 2 ∨ 1024 ≤ id then respond req (refusal stBadValue) s
    else
      let inRoster := leBytes 1 (bit (s.dom.roster.contains id)) ++ leBytes 3 0
      let body :=
        if id = s.domainId then leBytes 8 s.fuses.deviceId ++ leBytes 1 s.helloFlags ++ leBytes 1 0 ++ leBytes 2 0
        else match nmGet s.dom.members id with
          | some m => leBytes 8 m.deviceId ++ leBytes 1 m.flags ++ leBytes 1 m.hops ++
              leBytes 2 (min 65535 ((s.now - m.helloAt) / 1000))
          | none => leBytes 10 0 ++ leBytes 2 (Config.unheardAge id)
      respond req (okWith (body ++ inRoster)) s)

/-! ### NAK and host messages (R503, R504) -/

/-- `NAK_RX` (R504). -/
def execNakRx (port : Fin 2) (bytes : List Byte) (s : State) : Result :=
  let frame := tvlOf bytes
  .next (receiveFrame port frame 0x03 s fun s => s.onTvl port fun q => { q with nakRx := satInc 16 q.nakRx })

/-- `HOST_FRAME_RX` (R503): a packet into queue 9. -/
def execHostFrameRx (port : Fin 2) (bytes : List Byte) (s : State) : Result :=
  let frame := tvlOf bytes
  .next (receiveFrame port frame 0x30 s fun s =>
    let first := BitVec.ofNat 64 (frame.payload.length + frame.source * 2 ^ 16 + s.now % 2 ^ 32 * 2 ^ 32)
    (hwPush 9 (first :: bytesToWords frame.payload) s).2)

/-- The bytes and destination of a transmit packet (R503), if its first word is well formed and its words are as many as its
bytes need (DEDUCED, log entry 89). -/
def hostPacket (ws : List Word64) : Option (Nat × List Byte) :=
  match ws with
  | [] => none
  | w :: rest =>
    let n := bits w.toNat 0 16
    let dest := bits w.toNat 16 16
    if n < 1 ∨ 1024 < n ∨ bits w.toNat 32 32 ≠ 0 ∨ (1023 < dest ∧ dest ≠ 0xFFFF) ∨ rest.length ≠ (n + 7) / 8 then none
    else some (dest, (packetBody ws).take n)

/-- `DOM_HOST_TX` (R503): a packet of queue 8, flooded as a `HOST` frame (DEDUCED, log entry 89). -/
def execDomHostTx (s : State) : Result :=
  .next (if s.isMember = false ∨ s.dom.isolated = true ∨ s.mgt.fwReady = false then s
    else match hwPop 8 s with
      | (none, s) => s
      | (some ws, s) =>
        match hostPacket ws with
        | some (dest, bs) => floodFrame 0x30 dest bs s
        | none => s.onTvl 0 fun q => { q with bad := satInc 16 q.bad })

/-! ### Policy (R501, R502) -/

/-- The payload of a `DOM_POLICY_SEND` response (R502): counts addressed, applied, refused and silent, then the refused
members. -/
def policyCounts (addressed : List Nat) (answers : List (Nat × Nat × Nat)) : List Byte :=
  let ref := answers.filter fun a => decide (1 < a.2.1)
  leBytes 2 addressed.length ++ leBytes 2 (answers.length - ref.length) ++ leBytes 2 ref.length ++
    leBytes 2 (addressed.length - answers.length) ++
    (ref.take 64).flatMap fun a => leBytes 2 a.1 ++ leBytes 1 a.2.1 ++ leBytes 1 a.2.2

/-- `DOM_POLICY_SEND` (R501, R502): refused outside authority; the answers of all reachable members, or of the one named, are
awaited (DEDUCED, log entry 88). -/
def execDomPolicySend (req : Request) (s : State) : Result :=
  .next (serveTarget req s [(15, 1)] true fun s =>
    let dest := u16At req.payload 0
    let n := u16At req.payload 6
    if req.payload.length < 8 ∨ n < 1 ∨ 80 < n ∨ req.payload.length ≠ 8 + 12 * n ∨ (1023 < dest ∧ dest ≠ 0xFFFF) then
      respond req (refusal stBadValue) s
    else if s.dom.authority = false then respond req (refusal stNotPermitted) s
    else
      let number := s.dom.policy
      let dests := if dest = 0xFFFF then s.reachSet.filter fun x => decide (x ≠ s.domainId) else [dest]
      let s := floodFrame 0x10 dest (beBytesOf 2 number ++ req.payload) { s with dom.policy := (number + 1) % 65536 }
      if dests = [] then respond req (okWith (policyCounts [] [])) s
      else { s with mgt.waiting := s.mgt.waiting ++ [.policySend req number dests [] s.now] })

/-- Result and detail of a policy on the receiving device (Table 16.4), and the state after it: the policy slate is checked
and applied for `policy_seat`, and nothing of it stays (DEDUCED, log entries 85, 88). -/
def applyPolicy (payload : List Byte) (s : State) : Nat × Nat × State :=
  let w := u32At payload 4
  let p := Path.ofWord w
  let n := u16At payload 8
  let rs := (records 12 (payload.drop 10)).map ParamRecord.ofBytes
  let seat := s.cfgN Param.dauPolicySeat
  if s.dom.holdover then (7, 0, s)
  else if h : 4 ≤ seat then (2, 0, s)
  else
    let i : SeatId := ⟨seat, Nat.lt_of_not_le h⟩
    if bits (s.cfgN Param.dauPolicySections) p.sec 1 = 0 then (3, 0, s)
    else if p.isTarget && !s.owns i p then (4, 0, s)
    else if p.isTarget = false ∨ 2 ^ 19 ≤ w ∨ rs.length ≠ n then (5, 0, s)
    else if rs.any fun r => deviceWide p r.num || (r.value p).isNone then (5, 0, s)
    else
      let recs := rs.foldl (fun m r => match r.value p with
        | some v => nmPut m (paramKey p r.num r.elem) v
        | none => m) []
      let all : SlateSet := { recs, nle := [], dpd := [] }
      let base := s.withStored
      let ch := base.changes all
      if s.resetRequired p then (5, stResetRequired, s)
      else if ch.empty then (1, 0, s)
      else match firstUnowned s i [p] ch.recs with
        | some _ => (4, 0, s)
        | none =>
          if s.txd.pending.isSome && touchesPair ch.recs 1 then (5, stNotPermitted, s)
          else match commitRefusal all.recs ch.recs base with
            | some r => (5, r.status, s)
            | none =>
              let e := evaluate ch true base
              if e.category ≠ 0 then (6, e.category, s)
              else
                let req : Request := { seat := i, opcode := 0, target := p }
                let id := s.mgt.nextCommit
                (0, 0, (launch req [p] all ch e s).onCommit id fun c => { c with silent := true })

/-- A `POLICY` frame: decided, reported with `EV249`, and answered to its sender (DEDUCED, log entry 88). -/
def hearPolicy (f : TvlFrame) (s : State) : State :=
  let r := applyPolicy f.payload s
  floodFrame 0x11 f.source (f.payload.take 2 ++ [BitVec.ofNat 8 r.1, BitVec.ofNat 8 r.2.1]) (raise 249 r.2.2)

/-- `POLICY_RX` (R501). -/
def execPolicyRx (port : Fin 2) (bytes : List Byte) (s : State) : Result :=
  let frame := tvlOf bytes
  .next (receiveFrame port frame 0x10 s (hearPolicy frame))

/-- The waiting `DOM_POLICY_SEND` of a policy number. -/
def Waiting.isPolicy (number : Nat) : Waiting → Bool
  | .policySend _ n _ _ _ => n == number
  | _ => false

/-- A member's answer to a policy is noted; with the last one the response is posted (R502). -/
def hearPolicyAck (f : TvlFrame) (s : State) : State :=
  match s.mgt.waiting.find? (Waiting.isPolicy (beAt f.payload 0 2)) with
  | some (.policySend req n dests answers since) =>
    if dests.contains f.source = false ∨ (answers.any fun a => a.1 == f.source) = true then s
    else
      let answers := answers ++ [(f.source, beAt f.payload 2 1, beAt f.payload 3 1)]
      let rest := s.mgt.waiting.filter fun w => !w.isPolicy n
      if answers.length = dests.length then respond req (okWith (policyCounts dests answers)) { s with mgt.waiting := rest }
      else { s with mgt.waiting := s.mgt.waiting.map fun w => if w.isPolicy n then .policySend req n dests answers since else w }
  | _ => s

/-- `POLICY_ACK_RX` (R502). -/
def execPolicyAckRx (port : Fin 2) (bytes : List Byte) (s : State) : Result :=
  let frame := tvlOf bytes
  .next (receiveFrame port frame 0x11 s (hearPolicyAck frame))

/-- `DOMAIN_TIMEOUT` (R74, R502): answered with what has been heard, `EV010`. -/
def execDomainTimeout (policy : Nat) (s : State) : Result :=
  .next (match s.mgt.waiting.find? (Waiting.isPolicy policy) with
    | some (.policySend req n dests answers since) =>
      let s := s.reach (since + s.cfgN Param.mbxDomainTimeoutMs * 1000)
      let rep : Reply := { status := stDomainTimeout, payload := policyCounts dests answers }
      raise 10 (respond req rep { s with mgt.waiting := s.mgt.waiting.filter fun w => !w.isPolicy n })
    | _ => s)

/-! ### Flint (R505 to R510) -/

/-- The local health is computed anew; a change of it re-evaluates the pair and the group (R506, R507, R513). -/
def followHealth (s : State) : State :=
  let r := refreshHealth s
  if r.1 then judgeNp (judgeFlint false none r.2) else s

/-- The status word as sent (Table 16.6). -/
def State.flintWord (s : State) : Nat :=
  let f := s.dom.flint
  let on := s.pairOn
  fieldAt (bit (on && f.own.healthy)) 0 1 + fieldAt (bit f.own.degraded) 1 1 + fieldAt (bit (on && f.own.ready)) 2 1 +
    fieldAt (bit (on && f.own.active)) 3 1 + fieldAt (bit s.isSecondary) 4 1 + fieldAt f.own.request 5 2 +
    fieldAt (bit f.own.wtr) 7 1 + fieldAt (s.cfgN Param.fltPairId) 8 4 + fieldAt f.seq 12 4

/-- The check byte of a status word (R505): over byte 0, then byte 1. -/
def flintCheck (w : Nat) : Nat := (crc8 (leBytes 2 w)).toNat

/-- `FLINT_FRAME_TX` (R505): every 128 ns once start-up has reached step 5 and while TIME runs (DEDUCED, log entry 90). -/
def execFlintFrameTx (s : State) : Result :=
  .next (if s.clk.timeStopped ∨ s.mgt.seq.step < 5 then s
    else
      let s := followHealth s
      let w := s.flintWord
      (s.onFlint fun f => { f with seq := (f.seq + 1) % 16 }).send (.flint w (flintCheck w)))

/-- The partner's fields of a status word (DEDUCED, log entry 90). -/
def flintFields (w : BitVec 16) : FlintWord :=
  { healthy := w.getLsbD 0, degraded := w.getLsbD 1, ready := w.getLsbD 2, active := w.getLsbD 3
    request := bits w.toNat 5 2, wtr := w.getLsbD 7 }

/-- `FLINT_FRAME_RX` (R505, R507, R508) (DEDUCED, log entry 90). -/
def execFlintFrameRx (word : BitVec 16) (check : Byte) (s : State) : Result :=
  .next (if s.pairOn = false ∨ s.clk.timeStopped then s
    else
      let crcOk := decide (flintCheck word.toNat = check.toNat)
      let match_ := decide (bits word.toNat 8 4 = s.cfgN Param.fltPairId) && decide (word.getLsbD 4 ≠ s.isSecondary)
      if crcOk && match_ then
        let old := s.dom.flint
        let q := flintFields word
        let s := s.onFlint fun f => { f with link := true, frameAt := s.now, partner := q }
        let s := noteForHk (decide (old.partner.health ≠ q.health)) s
        let s := if old.link then s else raise 251 s
        let s := if q.request = old.partner.request then s else raise 253 s
        judgeFlint false (if old.link then none else some 9) s
      else
        let s := s.onFlint fun f => { f with badWords := satInc 32 f.badWords }
        if crcOk then raise 252 (s.onFlint fun f => { f with mismatch := true }) else s)

/-- `FLINT_HEALTH_CHANGE` (R506). -/
def execFlintHealthChange (s : State) : Result := .next (followHealth s)

/-- `FLINT_LINK_LOSS` (R505, R508): 1 µs without a valid frame. -/
def execFlintLinkLoss (s : State) : Result :=
  .next (if s.dom.flint.link = false then s
    else
      let f := s.dom.flint
      let s := (s.reach (f.frameAt + 1)).onFlint fun f =>
        { f with link := false, partner := {}, linkLosses := satInc 16 f.linkLosses
                 lockedOut := decide (f.own.request = 3 ∨ f.partner.request = 3) }
      judgeFlint false (some 8) (raise 251 (noteForHk (decide (f.partner.health ≠ FlintWord.health {})) s)))

/-- `FLINT_WTR_EXPIRE` (R507). -/
def execFlintWtrExpire (s : State) : Result :=
  .next (match s.dom.flint.wtrAt with
    | none => s
    | some t => judgeFlint true none (s.reach (t + s.cfgN Param.fltWtrS * usPerS)))

/-- A new local request (R510): lockout before force, `EV253` on a change of `REQUEST`, and the decision (DEDUCED, log entry 90). -/
def setFlintRequest (force : Nat) (lockout : Bool) (s : State) : State :=
  let r := if lockout then 3 else force
  let old := s.dom.flint.own.request
  let s := s.onFlint fun f => { f with force := force, lockout := lockout, own.request := r }
  if r = old then s else judgeFlint false none (raise 253 s)

/-- `FLINT_FORCE` (R510). -/
def execFlintForce (req : Request) (s : State) : Result :=
  .next (serveTarget req s [(15, 2)] true fun s =>
    let v := byteAt req.payload 0
    if req.payload.length ≠ 1 ∨ 2 < v then respond req (refusal stBadValue) s
    else respond req okReply (setFlintRequest v s.dom.flint.lockout s))

/-- `FLINT_LOCKOUT` (R510). -/
def execFlintLockout (req : Request) (s : State) : Result :=
  .next (serveTarget req s [(15, 2)] true fun s =>
    let v := byteAt req.payload 0
    if req.payload.length ≠ 1 ∨ 1 < v then respond req (refusal stBadValue) s
    else respond req okReply (setFlintRequest s.dom.flint.force (decide (v = 1)) s))

/-! ### 1:N groups (R512 to R515) -/

/-- The 8 bytes of `NP_STATUS` (Table 16.10). -/
def npStatusBytes (s : State) : List Byte :=
  let x := s.npOwn
  beBytesOf 1 (s.cfgN Param.fltNpGroup) ++ beBytesOf 1 (x.member + 16 * bit x.endB) ++ beBytesOf 1 x.health ++
    beBytesOf 1 x.request ++ beBytesOf 4 x.digest

/-- `NP_STATUS_TX` (R512). -/
def execNpStatusTx (s : State) : Result :=
  .next (if s.npOn then floodFrame 0x20 0xFFFF (npStatusBytes s) s else s)

/-- `NP_SELECT_TX` (R512): by the arbiter. -/
def execNpSelectTx (s : State) : Result :=
  .next (if s.isArbiter then
      floodFrame 0x21 0xFFFF (beBytesOf 1 (s.cfgN Param.fltNpGroup) ++ beBytesOf 1 s.dom.np.selected ++ beBytesOf 2 0) s
    else s)

/-- The status that an `NP_STATUS` payload spells. -/
def npStatusOf (pl : List Byte) : NpStatus :=
  { member := bits (beAt pl 1 1) 0 4, endB := decide (bits (beAt pl 1 1) 4 1 = 1), health := beAt pl 2 1
    request := beAt pl 3 1, digest := beAt pl 4 4 }

/-- `NP_STATUS_RX` (R513): recorded, and the arbiter evaluates. -/
def execNpStatusRx (port : Fin 2) (bytes : List Byte) (s : State) : Result :=
  let frame := tvlOf bytes
  .next (receiveFrame port frame 0x20 s fun s =>
    if s.npOn = false ∨ beAt frame.payload 0 1 ≠ s.cfgN Param.fltNpGroup then s
    else
      let x := npStatusOf frame.payload
      judgeNp (s.onNp fun n =>
        { n with statuses := x :: n.statuses.filter fun y => decide (y.member ≠ x.member ∨ y.endB ≠ x.endB) }))

/-- `NP_SELECT_RX` (R514, R515). -/
def execNpSelectRx (port : Fin 2) (bytes : List Byte) (s : State) : Result :=
  let frame := tvlOf bytes
  .next (receiveFrame port frame 0x21 s fun s =>
    if s.npOn = false ∨ s.isArbiter = true ∨ beAt frame.payload 0 1 ≠ s.cfgN Param.fltNpGroup then s
    else npApply (beAt frame.payload 1 1) (s.onNp fun n => { n with selectAt := s.now, frozen := false }))

/-- `NP_SELECT_TIMEOUT` (R515): 30 ms without `NP_SELECT`; the last state is kept. -/
def execNpSelectTimeout (s : State) : Result :=
  .next (if s.npOn = false ∨ s.isArbiter = true ∨ s.dom.np.frozen = true then s
    else (s.reach (s.dom.np.selectAt + 30000)).onNp fun n => { n with frozen := true })

/-- `NP_WTR_EXPIRE` (R513 rule 3). -/
def execNpWtrExpire (s : State) : Result :=
  .next (match s.dom.np.quietSince with
    | none => s
    | some t =>
      if s.isArbiter && !s.dom.holdover && s.cfgB Param.fltNpRevertive then
        npSelect 0 (s.reach (t + s.cfgN Param.fltNpWtrS * usPerS))
      else s)

/-- `NP_FORCE` (Table 16.13). -/
def execNpForce (req : Request) (s : State) : Result :=
  .next (serveTarget req s [(15, 2)] true fun s =>
    let v := byteAt req.payload 0
    if req.payload.length ≠ 1 ∨ 2 < v then respond req (refusal stBadValue) s
    else if s.npOn = false ∨ (v = 1 ∧ s.cfg Param.fltNpMember = 0) then respond req (refusal stNotPermitted) s
    else respond req okReply (judgeNp (s.onNp fun n => { n with request := v })))

end Sys2Proof.Machine
end

