-- ==== Sys2Proof/Machine/Flags.lean ====
section
/-!
DEFINITION. The flags of a register: words built from fields and from one flag per member (R8), fields that are cleared by
writing ones (R11), and the words of a 256-bit event register (R553).
-/
namespace Sys2Proof.Machine

/-- A register word from its fields: value, low bit, width. -/
def pack (fs : List (Nat × Nat × Nat)) : Nat := (fs.map fun f => fieldAt f.1 f.2.1 f.2.2).sum

/-- The bits that hold for each of the members. -/
def flags {n : Nat} (p : Fin n → Bool) : Nat := ((indices n).map fun i => bit (p i) * 2 ^ i.val).sum

/-- Word `w` of a 256-bit register. -/
def word256 (m : BitVec 256) (w : Nat) : Nat := bits m.toNat (32 * w) 32

/-- The value of a field after a write of ones to clear. -/
def clearOnes {n : Nat} (old : BitVec n) (v lo : Nat) : BitVec n := old &&& ~~~ (BitVec.ofNat n (v / 2 ^ lo))

/-- A flag after such a write of its bit. -/
def clearFlag (old : Bool) (v b : Nat) : Bool := old && !(decide (bits v b 1 = 1))

/-- Word `w` of a 256-bit register replaced. -/
def setWord256 (m : BitVec 256) (w v : Nat) : BitVec 256 :=
  (m &&& ~~~ (BitVec.ofNat 256 ((2 ^ 32 - 1) * 2 ^ (32 * w)))) ||| (BitVec.ofNat 256 (v % 2 ^ 32 * 2 ^ (32 * w)) &&& definedEvents)

end Sys2Proof.Machine
end

