-- ==== Sys2Proof/Machine/RegInfra.lean ====
section
/-!
DEFINITION. What a read of a direct register returns (R11, R40): the seat registers and the Sections MGT, PWR, CLK, TIM and MEM
(Tables 2.4 to 2.8, 18.3, 17.14, 13.6, 12.10 and 14.12). Reserved bits and write-only fields read as zero.
-/
namespace Sys2Proof.Machine

/-! ### MGT -/

/-- The seat registers and the violation log as a seat sees its own (Tables 2.3 to 2.8, R43). -/
def seatReg (s : State) (i : SeatId) (off : Nat) : Option Nat :=
  let q := s.seat i
  match off with
  | 0x000 => some (pack [(i.val, 0, 2), (seatIface s.mapB i, 2, 2), (bit s.mapB, 4, 1), (bit s.fuses.encEnabled, 5, 1), (1, 8, 8)])
  | 0x004 => some (pack [(bit q.attached, 0, 1), (bit q.quarantined, 1, 1), (bit s.mgt.fwReady, 2, 1), (bit q.rspStalled, 3, 1),
      (bit q.writeRefused, 4, 1), (q.urgentOut, 8, 3), (q.nonceEcho, 16, 16)])
  | 0x008 => some (q.attachReg % 2 ^ 24)
  | 0x00C => some 0
  | 0x010 => some q.beat
  | 0x014 => some (q.hbTimeoutMs % 65536)
  | 0x018 => some (pack [(flags fun j => (s.seat j).attached, 0, 4), (flags fun j => (s.seat j).absent, 4, 4),
      (flags fun j => (s.seat j).attached && (s.seat j).quarantined, 8, 4), (flags fun j => (s.seat j).detached, 12, 4)])
  | 0x020 => some q.reqTail.toNat
  | 0x024 => some q.reqHead.toNat
  | 0x028 => some q.rspTail.toNat
  | 0x02C => some q.rspHead.toNat
  | 0x030 => some q.seqExpect.toNat
  | 0x034 => some (pack [(q.violTotal, 0, 16), (q.window s.now, 16, 5)])
  | _ =>
    if 0x100 ≤ off ∧ off < 0x180 then
      let e := q.violLog[off % 128 / 8]?.getD {}
      some (if off % 8 = 0 then pack [(e.kind, 0, 4), (e.index, 4, 7)] else e.timeUs)
    else none

/-- The seat's `ALERT` pin is driven low (R558): in the safe state, and while an unmasked sticky bit is set; released until
step 6 of start-up (DESIGN CHOICE, log entry 94). -/
def State.alertLow (s : State) (i : SeatId) : Bool :=
  let b := (s.seat i).events
  s.clk.safeState || (decide (6 ≤ s.mgt.seq.step) && decide (b.sticky &&& b.alertMask ≠ 0))

/-- The event block (Tables 18.2 and 18.3). -/
def eventReg (s : State) (i : SeatId) (off : Nat) : Option Nat :=
  let b := (s.seat i).events
  match off with
  | 0x000 => some b.tail.toNat
  | 0x004 => some b.head.toNat
  | 0x008 => some (pack [(bit b.overflow, 0, 1), (b.lost, 16, 16)])
  | 0x00C => some (pack [(flags fun g : Fin 16 => decide (bits b.sticky.toNat (16 * g.val) 16 ≠ 0), 0, 16), (bit (s.alertLow i), 16, 1)])
  | _ =>
    let w := off % 64 / 4
    if 8 ≤ w then none
    else if off / 64 = 1 then some (word256 b.sticky w)
    else if off / 64 = 2 then some (word256 b.ringMask w)
    else if off / 64 = 3 then some (word256 b.msixMask w)
    else if off / 64 = 4 then some (word256 b.alertMask w)
    else none

/-- `MGT.SEQ` (Table 17.14). -/
def seqReg (s : State) (off : Nat) : Option Nat :=
  let q := s.mgt.seq
  match off with
  | 0x000 => some (pack [(q.step, 0, 4), (bit q.fault, 4, 1), (q.cause, 8, 4), (bit (q.straps.getLsbD 4), 12, 1), (bit q.bootSlot, 13, 1)])
  | 0x004 => some (pack [(q.version, 0, 16), (s.fuses.floor, 16, 16)])
  | 0x008 => some q.readyTimeUs
  | 0x00C => some 0
  | _ => none

/-! ### PWR, CLK and TIM -/

/-- PWR (Table 17.14). -/
def pwrReg (s : State) (unit off : Nat) : Option Nat :=
  match unit, off with
  | 0, 0x000 => some (pack [(s.pwr.inReg.toNat, 0, 7), (bit s.pwr.vinLow, 7, 1), (bit (s.cfgB Param.regAvsEnable), 8, 1)])
  | 0, 0x004 => some (pack ((indices 7).map fun r => (min 3 s.pwr.phasesFailed[r], 2 * r.val, 2)))
  | 0, 0x008 => some s.pwr.coreMv
  | 0, 0x00C => some (pack [(s.pwr.vinMv, 0, 16), (s.pwr.iin10mA, 16, 16)])
  | 0, 0x010 => some s.pwr.iinPeak
  | 1, 0x000 => some (pack ([(s.deviceState, 0, 3), (bit (s.pwr.groups.toList.any fun g => g.move.isSome), 3, 1),
      (s.overGroups Group.target, 4, 3), (bit (s.pwr.groups.toList.any fun g => g.holdSince.isSome), 7, 1)] ++
      (indices 4).map fun g => (s.pwr.groups[g].state, 8 + 4 * g.val, 3)))
  | 1, 0x004 => some s.pwr.transitions
  | 1, 0x008 => some (pack [(s.pwr.lastExitUs, 0, 28), (s.pwr.lastExitFrom, 28, 3)])
  | 1, 0x00C => some s.pwr.resetCause
  | 1, o => if h : 0x010 ≤ o ∧ o < 0x020 then some ((s.effectiveTol ⟨(o - 16) / 4, by omega⟩).getD (2 ^ 32 - 1)) else none
  | 2, 0x000 => some (pack [(s.pwr.level, 0, 2), (bit (decide (s.pwr.invalid ≠ 0)), 2, 1), (s.pwr.invalid.toNat, 8, 8),
      (natOfInt 16 s.pwr.tj, 16, 16)])
  | 2, 0x004 => some (natOfInt 16 s.pwr.tjMax)
  | 2, o => if 0x010 ≤ o ∧ o < 0x030 then some (natOfInt 16 (s.pwr.temps[(o - 16) / 4]?.getD 0)) else none
  | _, _ => none

/-- CLK (Table 13.6). -/
def clkReg (s : State) (unit off : Nat) : Option Nat :=
  let k := s.clk
  match unit, off with
  | 0, 0x000 => some k.ready.toNat
  | 0, 0x004 => some k.counting.toNat
  | 1, 0x000 => some (pack [(k.locked.toNat, 0, 4), (k.unlocks, 16, 16)])
  | 1, 0x004 => some (pack [(flags fun m : Fin 3 => k.muxes[m].sel, 0, 3), (bit (k.muxes.toList.any fun m => m.switchTo.isSome), 3, 1),
      (bit k.fallback, 4, 1), (bit k.stoppedOld, 5, 1)])
  | 2, 0x000 => some k.resetRequired.length
  | 2, 0x004 => some k.gateTimeouts
  | 2, 0x008 => some k.gateLast
  | 3, 0x000 => some (pack [(k.failed.toNat, 0, 10), (bit k.safeState, 16, 1)])
  | 3, 0x004 => some (pack [(k.firstSource, 0, 4), (k.firstCause, 4, 2)])
  | 3, 0x008 => some k.failTimeUs
  | 3, 0x00C => some k.fails
  | _, _ => none

/-- A slot number as shown, 0 for none. -/
def shownSlot (o : Option SlotId) : Nat := (o.map Fin.val).getD 0

/-- TIM (Table 12.10); `PPS_TIME_NS` is what the seat has latched (R411). -/
def timReg (s : State) (i : SeatId) (unit off : Nat) : Option Nat :=
  let t := s.tim
  match unit, off with
  | 0, 0x000 => some (pack [(shownSlot t.selF, 0, 3), (bit t.selF.isSome, 3, 1), (shownSlot t.selP, 4, 3), (bit t.selP.isSome, 7, 1),
      (bit t.baseB, 8, 1), (bit (t.slots.toList.any fun q => q.held), 9, 1),
      (flags fun n => (s.tslot n).qualified, 16, 8), (flags fun n => s.available n, 24, 8)])
  | 0, 0x004 => some ((t.disagree.map fun d => pack [(d.a, 0, 3), (d.b, 3, 3), (d.deviant, 6, 2)]).getD 0)
  | 0, o =>
    if h : o % 256 < 32 then
      let n : SlotId := ⟨o % 256 / 4, by omega⟩
      match o / 256 with
      | 1 => some (s.slotStatus n)
      | 2 => some (natOfInt 32 (s.tslot n).soft)
      | 3 => some (s.tslot n).disquals
      | _ => none
    else none
  | 1, 0x000 => some (pack [(t.lineState, 0, 2), (t.syncState, 2, 2), (bit t.phaseLocked, 4, 1), (s.cfgN Param.dplLineBw, 8, 4),
      (s.cfgN Param.dplSyncBw, 12, 4)])
  | 1, 0x004 => some (natOfInt 32 s.lineFreqNow)
  | 1, 0x008 => some (natOfInt 32 t.syncFreq)
  | 1, 0x00C => some (natOfInt 32 t.phaseErr)
  | 2, 0x000 => some (pack [(bit t.holdover, 0, 1), (bit t.limit, 1, 1), (bit t.squelched, 2, 1), (t.history.length, 16, 11)])
  | 2, 0x004 => some (s.heldUs / usPerS)
  | 2, 0x008 => some s.estFreqShown
  | 2, 0x00C => some s.estPhase
  | 2, 0x010 => some (pack [(t.discardedTenths, 0, 16), (t.discards, 16, 16)])
  | 2, 0x014 => some (natOfInt 32 t.mean)
  | 3, 0x000 => some (pack [(bit t.timeValid, 0, 1), (bit (s.syncOut && s.cfgB Param.ppsPpsEnable), 1, 1),
      (bit (s.syncOut && s.cfgB Param.ppsClkoutEnable 0 0), 2, 1), (bit (s.syncOut && s.cfgB Param.ppsClkoutEnable 0 1), 3, 1), (t.ptp[0].state, 8, 4), (t.ptp[1].state, 12, 4)])
  | 3, 0x00C => some (s.seat i).ppsNs
  | 3, 0x010 => some t.steps
  | 3, 0x014 => some (natOfInt 32 t.ptpOffset)
  | _, _ => none

/-! ### MEM -/

/-- MEM (Table 14.12), but for the 64-bit pairs. -/
def memReg (s : State) (unit off : Nat) : Option Nat :=
  let m := s.mem
  match unit, off with
  | 0, 0x000 => some (pack [(bit m.scrubbing, 0, 1), (bit (decide (m.retiring ≠ [])), 1, 1)])
  | 0, 0x004 => some m.scrubPasses
  | 0, 0x008 => some (pack [(m.pages, 0, 14), (m.banks, 16, 7)])
  | 0, o => if 0x400 ≤ o ∧ o < 0x800 then some (flags fun n : Fin 32 => m.isRetired (32 * ((o - 0x400) / 4) + n.val)) else none
  | 1, 0x000 => some (pack [(m.ueSeen.toNat, 0, 6), (m.poisonSeen.toNat, 8, 6)])
  | 1, 0x004 => some 0
  | 1, 0x008 => some m.rmwCount
  | 1, o =>
    if 0x040 ≤ o ∧ o < 0x0A0 then
      let e := m.groups[(o - 0x40) / 16]?.getD {}
      if o % 16 = 8 then some e.ue else if o % 16 = 12 then some e.poison else none
    else if 0x200 ≤ o ∧ o < 0x800 then
      let e := ((m.groups[(o - 0x200) / 256]?.getD {}).log[o % 256 / 8]?).getD {}
      some (if o % 8 = 0 then pack [(e.word, 0, 23), (e.kind, 24, 3), (e.source, 27, 2), (e.rep, 29, 3)] else e.timeUs)
    else none
  | 2, o =>
    if h : o < 0x600 then
      let q : QueueId := ⟨o / 64, by omega⟩
      let p := m.queues[q]
      match o % 64 with
      | 0x00 => some (pack [(p.count, 0, 18), (bit ((p.words.head?.map SpqWord.eop).getD false), 24, 1), (bit p.dropping, 25, 1),
          (bit (decide (p.region ≠ [])), 26, 1), (bit p.high, 27, 1)])
      | 0x04 => some (pack [(s.queueCapacity q, 0, 18), (queueDir q, 18, 2)])
      | 0x10 | 0x14 | 0x18 | 0x1C => some 0
      | 0x20 => some (pack [(p.fullDrops, 0, 16), (p.cmdDrops, 16, 16)])
      | 0x24 => some (pack [(p.pushRefused, 0, 16), (p.poisonDrops, 16, 16)])
      | _ => none
    else none
  | _, _ => none

end Sys2Proof.Machine
end

