-- ==== Sys2Proof/Machine/RegLine.lean ====
section
/-!
DEFINITION. What a read of a direct register of the line Sections CNV, RXD, TXD, COD and FRM returns (Tables 3.10, 4.13, 5.9, 6.10
and 7.13), but for the 64-bit pairs.
-/
namespace Sys2Proof.Machine

/-- CNV (Table 3.10). -/
def cnvReg (s : State) (unit off : Nat) : Option Nat :=
  let k := s.cnv
  if unit < 4 then
    let ch : Fin 4 := ⟨unit % 4, Nat.mod_lt _ (by decide)⟩
    let a := k.adcs[ch]
    match off with
    | 0x000 => some (pack [(bit a.running, 0, 1), (bit a.full, 1, 1), (bit a.forcedStep, 2, 1), (bit a.initCal, 3, 1),
        (a.sparesInUse, 4, 4), (a.noSpare, 8, 4)])
    | 0x004 => some a.passes
    | 0x008 => some a.fails
    | 0x00C => some a.clips
    | _ => none
  else if unit < 8 then
    let ch : Fin 4 := ⟨unit % 4, Nat.mod_lt _ (by decide)⟩
    let d := k.dacs[ch]
    match off with
    | 0x000 => some (pack [(bit d.running, 0, 1), (bit (s.dacMuted ch), 1, 1), (bit d.full, 2, 1), (bit d.initCal, 3, 1),
        ((d.subs.toList.filter fun x => x.oldTrim).length, 4, 3)])
    | 0x004 => some d.passes
    | 0x008 => some d.fails
    | _ => none
  else match unit, off with
  | 8, 0x000 => some (pack [(k.obsChannel, 0, 2), (bit (s.obsRunning || k.initCal), 2, 1), (bit k.initCal, 3, 1), (bit k.obsFault, 4, 1)])
  | 9, 0x000 => some (pack [(bit (s.cfgB Param.calBackgroundEnable && s.calibrating && k.adcs.toList.any fun a => a.running), 0, 1), (bit k.forcedPass, 1, 1),
      (bit k.passQueued, 2, 1), (natOfInt 8 (clampInt (-127) 127 (k.reading - k.refTemp)), 8, 8)])
  | 9, 0x004 => some (natOfInt 16 k.refTemp)
  | 9, 0x008 => some 0
  | 10, 0x000 => some (pack ((indices 4).map fun n => (k.gains[n], 8 * n.val, 5)))
  | 10, 0x004 => some (pack [(k.held.toNat, 0, 4), (k.atLimit.toNat, 4, 4)])
  | 10, 0x008 => some k.agcSteps
  | _, _ => none

/-- RXD (Table 4.13). -/
def rxdReg (s : State) (unit off : Nat) : Option Nat :=
  let r := s.rxd
  match unit, off with
  | 0, 0x000 => some (pack [(r.stateCode, 0, 4), (bit r.los, 4, 1), (bit r.seedValid, 5, 1), (bit r.trackAtLimit, 6, 1)])
  | 0, 0x004 => some (natOfInt 32 r.cdValue)
  | 0, 0x008 => some (natOfInt 32 r.seed)
  | 0, 0x00C => some (natOfInt 16 r.coarseBins)
  | 0, 0x010 => some (pack [(r.acqFails, 0, 16), (min 255 r.peakDbX8, 16, 8)])
  | 0, 0x014 => some r.acqUs
  | 0, 0x018 => some (natOfInt 32 r.seedFo)
  | 1, 0x000 => some (pack [(r.stage.code, 0, 2), (bit r.iqMimo, 2, 1), (r.taps, 3, 6)])
  | 1, 0x004 => some (min 65535 r.dgd)
  | 1, 0x008 => some r.daFallbacks
  | 1, 0x00C => some r.daSkipped
  | 1, 0x010 => some r.singularities
  | 2, 0x000 => some (pack [(bit r.nle, 0, 1), (bit r.nleAdapting, 1, 1), (bit r.nleFrozen, 2, 1), (bit r.nleSeatList, 3, 1),
      (s.activeTriplets, 16, 9)])
  | 2, 0x004 => some (natOfInt 16 r.nleGain)
  | 3, 0x000 => some (pack [(bit r.trcLocked, 0, 1), (natOfInt 16 r.trcOffset, 16, 16)])
  | 3, 0x004 => some r.trcUnlocks
  | 4, 0x000 => some (pack [(bit r.freqLock, 0, 1), (bit r.phaseLock, 1, 1), (bit r.sfLock, 2, 1), (bit r.foSeeded, 3, 1),
      (r.pilots, 4, 2), (r.entropy, 8, 9)])
  | 4, 0x004 => some (natOfInt 32 r.foKHz)
  | 4, 0x008 => some (r.sf % 2 ^ 32)
  | 4, 0x00C => some r.losfCount
  | 5, 0x000 => some (pack [(r.constellation, 0, 2), (bit r.shaped, 2, 1), (r.rings, 8, 6), (r.effSnr, 16, 16)])
  | _, _ => none

/-- `RATE_STATE` (Table 5.9) (DEDUCED, log entry 32). -/
def State.rateState (s : State) : Nat :=
  match s.txd.pending with
  | some p =>
    match p.stage with
    | .resizingDown => 3
    | .placed => 2
    | .announced => 4
    | .resizingUp => 5
  | none => if s.txd.proposal.isSome then 1 else if s.txd.accepted ≠ [] then 2 else 0

/-- TXD (Table 5.9). -/
def txdReg (s : State) (unit off : Nat) : Option Nat :=
  let t := s.txd
  match unit, off with
  | 0, 0x000 => some (pack [(t.constellation, 0, 2), (bit t.shaped, 2, 1), (t.entropy, 8, 9)])
  | 0, 0x004 => some (pack [(s.rateState, 0, 3), (t.capacity, 8, 8), (t.changeId, 16, 16)])
  | 0, 0x008 => some (pack [(t.changes, 0, 16), (t.rejects, 16, 16)])
  | 0, 0x00C => some (pack [(t.localResult, 0, 8), (t.remoteResult, 8, 8)])
  | 1, 0x000 => some (pack [(t.pilots, 0, 2), (bit (t.pending.any fun p => decide (p.stage = .announced)), 2, 1),
      (t.countdown, 16, 16)])
  | 1, 0x00C => some (t.targetSf % 2 ^ 32)
  | 1, 0x010 => some t.deferrals
  | 2, 0x000 => some (pack [(t.symbolRate, 0, 12), (t.rolloff, 16, 5)])
  | 3, 0x000 => some (pack [(bit t.dpdEnabled, 0, 1), (bit t.dpdRamping, 1, 1)])
  | 3, 0x004 => some t.dpdClips
  | _, _ => none

/-- COD (Table 6.10). -/
def codReg (s : State) (unit off : Nat) : Option Nat :=
  let k := s.cod
  match unit, off with
  | 0, 0x000 => some (pack [(s.cfgN Param.beFec, 0, 3), (bit k.benInject.isSome, 3, 1)])
  | 0, 0x004 => some s.injectedCount
  | 1, 0x000 => some (pack [(s.cfgN Param.bdeFec, 0, 3), (bit k.sync, 3, 1), (bit k.fail, 4, 1), (bit k.degrade, 5, 1),
      (bit k.halted, 6, 1), (s.effectiveCap, 8, 5),
      (((indices 16).filter fun c => k.degraded.getLsbD c.val).length, 16, 5)])
  | 1, 0x004 => some k.fastBer
  | 1, 0x008 => some (pack [(k.phase, 0, 10), (k.syncLosses, 16, 16)])
  | 1, 0x00C => some k.parityErrs
  | 1, 0x010 => some s.failThreshold
  | 1, 0x014 => some s.degradeThreshold
  | 2, 0x000 => some (pack [(bit s.txInterop, 0, 1), (bit (decide (s.cfg Param.beFec = 5)), 1, 1), (bit k.ifeInject.isSome, 2, 1)])
  | 3, 0x000 => some (pack [(bit s.rxInterop, 0, 1), (bit (decide (s.cfg Param.bdeFec = 5)), 1, 1), (bit k.frameLock, 2, 1),
      (bit k.ifdFail, 3, 1), (bit k.ifdDegrade, 4, 1), (k.frameLosses, 16, 16)])
  | _, _ => none

/-- FRM (Table 7.13). -/
def frmReg (s : State) (unit off : Nat) : Option Nat :=
  let f := s.frm
  match unit, off with
  | 0, 0x000 => some (pack [((lfrBits s).toNat, 0, 6), (s.rxC, 8, 8), (s.txC, 16, 8)])
  | 0, 0x004 => some (pack [((s.cfgDir .tx Param.lfrOtucN).toNat, 0, 6), ((s.cfgDir .rx Param.lfrRxOtucN).toNat, 8, 6)])
  | 0, 0x008 => some f.sticky.toNat
  | 0, 0x020 => some f.smBei
  | 0, 0x024 => some f.lofCount
  | 0, 0x028 => some f.gccDrops
  | 0, 0x02C => some f.gccBad
  | 1, 0x000 => some (pack [(s.usedClients.length, 0, 7), ((s.usedClients.map s.unitsOf).sum, 8, 8), (bit (decide (f.resizes ≠ []) || f.following.isSome), 16, 1)])
  | 1, 0x004 => some (pack [(f.resizeClient, 0, 6), (f.resizeTarget, 8, 7), (bit f.resizeFail, 16, 1)])
  | 1, 0x010 => some f.jcErrors
  | 1, o =>
    if 0x100 ≤ o ∧ o < 0x200 then
      let c := (o - 0x100) / 4
      let k := s.client c
      let used := s.clientUsed c
      some (pack [(bit used, 0, 1), (bit (used && decide (s.firstUnit c + s.unitsOf c ≤ s.txC)), 1, 1),
        (bit (used && !k.replacing && !k.outside), 2, 1), (bit (used && k.outside), 3, 1), (bit k.replacing, 4, 1),
        (bit ((f.resizes.any fun r => decide (r.client = c)) || f.following.any fun r => decide (r.client = c)), 5, 1), (s.classOf c, 6, 2), (s.firstUnit c, 8, 7),
        (if used then s.unitsOf c else 0, 16, 8), (s.clientType c, 24, 4)])
    else none
  | 2, 0x000 => some (pack [((s.class0.map s.unitsOf).sum, 0, 5), (s.class0.length, 8, 5)])
  | 2, 0x004 => some f.steps
  | _, _ => none

end Sys2Proof.Machine
end

