-- ==== Sys2Proof/Machine/RegEdge.lean ====
section
/-!
DEFINITION. What a read of a direct register of SEC, LOD, MON, HST, FEH and DOM returns (Tables 8.11, 9.12, 10.11, 11.14, 15.6 and
16.15), but for the 64-bit pairs.
-/
namespace Sys2Proof.Machine

/-- SEC (Table 8.11); the load result is the seat's own. -/
def secReg (s : State) (i : SeatId) (unit off : Nat) : Option Nat :=
  let k := s.sec
  match unit, off with
  | 0, 0x000 => some (pack [(k.cores, 0, 6), (k.dummy, 8, 8), (bit k.released, 16, 1), (bit k.selftestFail, 17, 1), (bit s.cipherFused, 18, 1)])
  | 0, 0x004 => some k.preemptions
  | 0, o =>
    let c : ChannelId := ⟨o % 256 / 4, by omega⟩
    let x := s.channel c
    match o / 256 with
    | 1 => some (pack [(bit (s.encrypted .rx c), 0, 1), (bit x.txSlot, 1, 1), (bit (s.txKey c), 2, 1), (bit x.rxSlot, 3, 1),
        (bit (s.rxKey c), 4, 1), (bit x.pending.isSome, 5, 1), (bit x.authDefect, 6, 1),
        (bit (x.replaces (s.encrypted .rx c)), 7, 1), (bit x.encMismatch, 8, 1), (bit x.roleConflict, 9, 1),
        (if s.carried .rx c ≤ 63 then s.carried .rx c else 0, 16, 6)])
    | 2 => some (x.txEpoch.getD 0)
    | 3 => some (x.rxEpoch.getD 0)
    | 4 => some x.authFails
    | 5 => some (pack [(x.consec, 0, 16), (x.unverified, 16, 16)])
    | _ => none
  | 1, 0x024 => some (s.seat i).keyResult
  | 1, o =>
    if o ≤ 0x020 then some 0
    else if h : 0x100 ≤ o ∧ o < 0x300 then
      let n : Fin 128 := ⟨(o - 0x100) / 4, by omega⟩
      let x := s.slot n
      some (pack [(bit x.usable, 0, 1), (bit (s.txUse n), 1, 1), (bit (s.rxUse n), 2, 1), (bit x.fault, 3, 1),
        (if x.usable then x.kcv else 0, 8, 24)])
    else none
  | _, _ => none

/-- LOD (Table 9.12). -/
def lodReg (s : State) (unit off : Nat) : Option Nat :=
  let l := s.lod
  match unit, off with
  | 0, 0x000 => some (pack [(l.mode, 0, 2), (bit (decide (s.txd.sf < l.busyUntil)), 2, 1), (s.cfgN Param.lgSf, 3, 5),
      (natOfInt 8 (s.cfg Param.lgLevelDb), 8, 8)])
  | 0, 0x004 => some l.frames
  | 1, 0x000 => some (pack [(bit l.current.isSome, 0, 1), (bit l.estimateValid, 1, 1), (bit l.cancelling, 2, 1), (bit l.rxBeacon, 3, 1),
      (l.gain, 8, 7), (min 255 l.metric, 16, 8)])
  | 1, 0x004 => some (natOfInt 32 l.cd)
  | 1, 0x008 => some (natOfInt 32 l.fo)
  | 1, 0x00C => some (natOfInt 16 l.rate)
  | 1, 0x010 => some l.framesOk
  | 1, 0x014 => some (pack [(l.hdrCrc, 0, 16), (l.payCrc, 16, 16)])
  | 1, 0x018 => some (pack [(l.preempted, 0, 16), (l.ignored, 16, 16)])
  | 1, 0x01C => some (pack [(l.foreign, 0, 16), (l.lastGroup, 16, 8)])
  | 2, 0x000 => some (pack [(bit l.identified, 0, 1), (bit l.mismatch, 1, 1)])
  | 2, 0x004 => some (if s.txd.counting then s.slotNs else 0)
  | 2, 0x008 => some (pack [(l.protoErrors, 0, 16), (l.missed, 16, 16)])
  | 2, 0x00C => some (pack [(l.rxDrops, 0, 16), (l.txRejects, 16, 16)])
  | _, _ => none

/-- A level register: 0x8000 without a value. -/
def shownLevel (o : Option Int) : Nat := (o.map (natOfInt 16)).getD 0x8000

/-- The settling periods that a chain still has to run (R325). -/
def State.settleLeft (s : State) (c : ChainId) : Nat :=
  let k := s.chain c
  if k.settled then 0
  else 69 - min 69 ((s.now - k.since) * s.coreKHz / (1000 * 2 ^ presetLog2 (s.cfgN Param.dchPreset c.val)))

/-- MON (Table 10.11); `PMC_READ_STATUS` is the seat's own. -/
def monReg (s : State) (i : SeatId) (unit off : Nat) : Option Nat :=
  let m := s.mon
  match unit, off with
  | 2, 0x000 => some (pack [(bit m.drain.isSome, 0, 1), (bit s.domainAligned, 1, 1), (bit s.tim.timeValid, 2, 1), (m.lastKind, 4, 2)])
  | 2, 0x004 => some (min 65535 m.drainNs)
  | 2, 0x018 => some (pack [(bit m.flagStep, 0, 1), (bit m.flagStore, 1, 1)])
  | 2, 0x01C => some (pack [(bit (s.seat i).unpaired, 0, 1), (m.unpairedCount[i], 16, 16)])
  | 3, 0x000 => some (pack [(m.cap.state, 0, 3), (m.cap.trigSrc, 4, 2), (m.cap.abortCause, 8, 4)])
  | 3, 0x004 => some m.cap.trigPos
  | 3, 0x008 => some m.cap.endPos
  | 3, 0x00C => some m.cap.count
  | u, o =>
    if h : o < 0x200 then
      let c : ChainId := ⟨o / 64, by omega⟩
      let k := s.chain c
      match u, o % 64 with
      | 0, 0x00 => some (pack [(bit k.settled, 0, 1), (bit k.noSource, 1, 1), (s.cfgN Param.dchTap c.val, 8, 4),
          (s.cfgN Param.dchPreset c.val, 12, 2), (s.cfgN Param.dchInputMode c.val, 14, 1), (s.settleLeft c, 16, 7)])
      | 0, 0x04 => some k.out.toNat
      | 0, 0x08 => some k.drops
      | 1, 0x00 => some k.windowSh.toNat
      | 1, 0x04 => some k.threshSh.toNat
      | 1, 0x08 => some 0
      | 1, 0x0C => some k.window.toNat
      | 1, 0x10 => some k.thresh.toNat
      | 1, 0x14 => some (shownLevel k.peak)
      | 1, 0x18 => some (shownLevel k.rms)
      | 1, 0x1C => some (shownLevel k.env)
      | 1, 0x20 => some (pack [(bit k.above, 0, 1), (bit k.below, 1, 1), (bit k.crossUp, 8, 1), (bit k.crossDown, 9, 1)])
      | _, _ => none
    else none

/-- HST (Table 11.14). -/
def hstReg (s : State) (unit off : Nat) : Option Nat :=
  if hu : unit < 16 then
    let l : LaneId := ⟨unit, hu⟩
    let k := s.lane l
    let tap := fun (j : Nat) => natOfInt 8 ((s.tapsInForce l).getD j 0)
    match off with
    | 0x000 => some (pack [(s.laneState l, 0, 2), (bit k.signal, 2, 1), (bit k.cdr, 3, 1), (bit k.trained, 4, 1), (bit k.inverted, 5, 1),
        (bit (k.muted || k.flint), 6, 1), (bit k.forced, 7, 1), (bit k.present, 8, 1), (k.step, 16, 3)])
    | 0x004 => some (natOfInt 16 k.freq)
    | 0x008 => some (pack [(k.snrX4, 0, 8), (k.ctle, 8, 8)])
    | 0x00C => some k.faults.toNat
    | 0x010 => some (pack [(k.downCount, 0, 16), (k.trainFails, 16, 16)])
    | 0x014 => some (pack ((List.range 4).map fun j => (tap j, 8 * j, 8)))
    | 0x018 => some (pack [(tap 4, 0, 8), (tap 5, 8, 8)])
    | 0x01C => some k.stuffs
    | _ => none
  else match unit, off with
  | 16, 0x000 => some (pack [(bit s.heldReversed, 0, 1), (bit s.txReversed, 1, 1), (bit s.hst.orderLocked, 2, 1)])
  | 16, o =>
    if h : 0x100 ≤ o ∧ o < 0x300 then
      let p : PortId := ⟨(o - 0x100) / 32, by omega⟩
      let k := s.port p
      match o % 32 with
      | 0x00 => some (pack [(bit k.up, 0, 1), (bit k.markerLock, 1, 1), (bit k.deskewed, 2, 1), (bit k.fecDegrade, 3, 1),
          (bit (s.portClientFails p), 4, 1), (bit k.rxLf, 5, 1), (bit k.rxRf, 6, 1), (min 255 k.skew, 8, 8), (s.portType p.val, 16, 4)])
      | 0x04 => some k.seen.toNat
      | 0x08 => some k.blockErrs
      | 0x0C => some k.markerErrs
      | _ => none
    else none
  | 17, 0x010 => some s.hst.ohCrc
  | 17, 0x014 => some s.hst.switches
  | 17, o =>
    if h : o < 0x010 then
      let g : Fin 4 := ⟨o / 4, by omega⟩
      let k := s.hst.groups[g]
      let some_ := fun (f : Port → Bool) => bit ((s.phys g).any fun p => f (s.port p))
      some (pack [(bit (s.groupLocked g), 0, 1), (bit k.calB, 1, 1), (bit k.switching, 2, 1), (some_ Port.gidBad, 3, 1),
        (some_ Port.phyBad, 4, 1), (bit k.calMismatch, 5, 1), (some_ Port.rpf, 6, 1), ((s.phys g).length, 8, 4)])
    else if 0x100 ≤ o ∧ o < 0x180 then
      let c := (o - 0x100) / 4
      let n := calendarSlots s.hst.calendar c
      let g := s.cfgN Param.fxeClientGroup 0 c
      some (pack [(bit (decide (n ≠ 0)), 0, 1), (bit (decide (g ≠ 0) && s.flexeFails c), 1, 1), (n / 5, 8, 7), (g, 16, 3)])
    else none
  | _, _ => none

/-- FEH (Table 15.6). -/
def fehReg (s : State) (unit off : Nat) : Option Nat :=
  let f := s.feh
  let two := fun (p : HkConv → Bool) => flags fun c : ConvId => p f.convs[c]
  match unit, off with
  | 0, 0x000 => some (pack [(two HkConv.burst, 0, 2), (two HkConv.settling, 2, 2), (two HkConv.urgent, 4, 2), (two HkConv.stopped, 6, 2),
      (two HkConv.vrefFault, 8, 2), ((f.below ||| f.above).toNat, 16, 8)])
  | 0, 0x004 => some (pack [(f.convs[0].startSh, 0, 5), (f.convs[0].lengthSh, 8, 6), (f.convs[1].startSh, 16, 5), (f.convs[1].lengthSh, 24, 6)])
  | 0, 0x008 => some (pack [(f.convs[0].start, 0, 5), (f.convs[0].length, 8, 6), (f.convs[1].start, 16, 5), (f.convs[1].length, 24, 6)])
  | 0, 0x00C => some 0
  | 0, 0x010 => some 0
  | 0, 0x014 => some (pack [(f.convs[0].missed, 0, 16), (f.convs[1].missed, 16, 16)])
  | 0, 0x018 => some (pack [(f.convs[0].wr, 0, 20), (f.convs[0].wraps, 20, 12)])
  | 0, 0x01C => some (pack [(f.convs[1].wr, 0, 20), (f.convs[1].wraps, 20, 12)])
  | 0, 0x020 => some (f.convs[0].rd % 2 ^ 20)
  | 0, 0x024 => some (f.convs[1].rd % 2 ^ 20)
  | 0, 0x028 => some (pack [(f.convs[0].lost, 0, 16), (f.convs[1].lost, 16, 16)])
  | 0, 0x02C => some f.cross.toNat
  | 0, o =>
    if 0x040 ≤ o ∧ o < 0x060 then
      let k := f.convs[(o - 0x40) / 16]?.getD {}
      let i := o % 16 / 4
      some (pack [(k.urgRes[2 * i]?.getD 0, 0, 16), (k.urgRes[2 * i + 1]?.getD 0, 16, 16)])
    else if o = 0x060 then some f.convs[0].urgTime
    else if o = 0x064 then some f.convs[1].urgTime
    else none
  | 1, o =>
    if h : o < 0x030 then
      let n : HkDacId := ⟨o / 4, by omega⟩
      let d := f.dacs[n]
      some (pack [(s.dacAtBall n, 0, 16), (bit (d.rampAt.isSome && decide (s.dacCode n ≠ d.target)), 16, 1),
        (bit ((indices 6).any fun b => decide (biasDac b = n) && s.biasOn b), 17, 1), (bit s.dacsHeld, 18, 1)])
    else none
  | 2, 0x000 => some (pack [(flags fun b : Fin 6 => f.biases[b].locked, 0, 6), ((f.active.map Fin.val).getD 7, 8, 3),
      (flags fun b : Fin 6 => f.biases[b].atLimit, 16, 6)])
  | 2, 0x004 => some f.unlocks
  | 2, o => if 0x010 ≤ o ∧ o < 0x028 then some (natOfInt 16 (f.biases[(o - 16) / 4]?.getD {}).error) else none
  | 3, 0x000 => some (pack [(bit s.itlOn, 0, 1), (bit f.itl.busy.isSome, 1, 1), (bit s.loopOn, 2, 1),
      (natOfInt 16 f.itl.written, 16, 16)])
  | 3, 0x004 => some (pack [(f.itl.timeouts, 0, 16), (f.itl.checksum, 16, 16)])
  | 3, 0x008 => some (pack [(f.itl.naks, 0, 16), (f.itl.refused, 16, 16)])
  | 3, 0x00C => some (pack [(natOfInt 16 (clampInt (-32768) 32767 f.itl.lastFo), 0, 16), (min 65535 f.itl.updates, 16, 16)])
  | _, _ => none

/-- DOM (Table 16.15). The reachable set always holds the device itself (R493); `DAU_REACH` shows it once the seats have become ready after a
cold reset, and reads the Reset column's 0 before (DESIGN CHOICE, log entry 103). -/
def domReg (s : State) (unit off : Nat) : Option Nat :=
  let d := s.dom
  let h := s.reachSet
  match unit, off with
  | 1, 0x000 => some (pack [(bit s.isMember, 0, 1), (bit d.authority, 1, 1), (bit d.holdover, 2, 1), (bit d.isolated, 3, 1),
      (bit (s.bedrock.contains s.domainId), 4, 1), (h.length, 16, 11)])
  | 1, 0x004 => some d.epoch
  | 1, 0x008 => some (pack [(d.roster.length, 0, 11), (s.bedrockQuorum.length, 16, 3),
      ((s.bedrockQuorum.filter fun x => h.contains x).length, 20, 3)])
  | 1, 0x00C => some (pack [(keeperOf s.bedrock s.bedrockQuorum h, 0, 10), (d.partitions, 16, 16)])
  | 2, 0x000 =>
    let f := d.flint
    some (pack [(bit f.link, 0, 1), (bit f.own.active, 1, 1), (bit f.own.healthy, 2, 1), (bit f.own.degraded, 3, 1), (bit f.own.ready, 4, 1),
      (bit f.partner.healthy, 5, 1), (bit f.partner.degraded, 6, 1), (bit f.partner.ready, 7, 1), (bit f.partner.active, 8, 1),
      (f.own.request, 9, 2), (f.partner.request, 11, 2), (bit f.wtrAt.isSome, 13, 1), (bit f.mismatch, 14, 1),
      (s.secondsLeft f.wtrAt (s.cfgN Param.fltWtrS), 16, 10)])
  | 2, 0x004 => some d.flint.cause
  | 2, 0x008 => some d.flint.switchAt
  | 2, 0x00C => some (pack [(d.flint.switches, 0, 16), (d.flint.linkLosses, 16, 16)])
  | 2, 0x010 => some d.flint.badWords
  | 2, 0x014 => some (pack [(d.np.selected, 0, 4), (bit s.isArbiter, 4, 1), (bit d.np.frozen, 5, 1),
      (flags fun k : Fin 15 => s.npOn && decide (npLevel s.npAll (k.val + 1) ≠ 0), 8, 15)])
  | 2, 0x018 => some d.np.switches
  | 0, o =>
    if hp : o < 0x080 then
      let p : TvlId := ⟨o / 64, by omega⟩
      let q := s.tvl p
      match o % 64 with
      | 0x00 => some (pack [(bit q.link, 0, 1), (q.neighbours.length, 16, 11)])
      | 0x04 => some q.rxFrames
      | 0x08 => some q.txFrames
      | 0x0C => some (pack [(q.bad, 0, 16), (q.foreign, 16, 16)])
      | 0x10 => some (pack [(q.nakSent, 0, 16), (q.nakRx, 16, 16)])
      | 0x14 => some (pack [(q.fcs, 0, 16), (q.linkDowns, 16, 16)])
      | _ => none
    else none
  | 1, o =>
    if 0x100 ≤ o ∧ o < 0x180 then
      some (if s.mgt.seq.everReady then flags fun n : Fin 32 => h.contains (32 * ((o - 0x100) / 4) + n.val) else 0)
    else none
  | _, _ => none

/-! ### The 64-bit registers (R341) -/

/-- The live value of the 64-bit register of a Unit whose LO half lies at an offset; `SPQ_POP` is not among them, since its read
removes a word. -/
def pairOf (s : State) (sec unit off : Nat) : Option Nat :=
  match sec, unit, off with
  | 3, 3, 0x004 => some (s.tim.devS % 2 ^ 48)
  | 4, 0, 0x010 => some s.mem.startBanks.toNat
  | 4, 1, o => if 0x040 ≤ o ∧ o < 0x0A0 ∧ o % 16 = 0 then some (s.mem.groups[(o - 0x40) / 16]?.getD {}).ce else none
  | 7, 1, 0x004 => some s.txd.sf
  | 8, 1, 0x020 => some s.cod.ctr.bits
  | 8, 1, 0x028 => some s.cod.ctr.corr
  | 8, 1, 0x030 => some s.cod.ctr.blocks
  | 8, 1, 0x038 => some s.cod.ctr.uncorr
  | 8, 1, 0x040 => some s.cod.ctr.outer
  | 8, 1, 0x048 => some s.cod.ctr.iter
  | 8, 1, 0x050 => some s.cod.ctr.capped
  | 8, 3, 0x008 => some s.cod.ifdCtr.bits
  | 8, 3, 0x010 => some s.cod.ifdCtr.corr
  | 8, 3, 0x018 => some s.cod.ifdCtr.uncorr
  | 9, 0, 0x010 => some s.frm.smBip
  | 9, 0, 0x018 => some s.frm.pmBip
  | 9, 1, 0x008 => some (settleReplaced s).frm.replaced
  | 10, 0, o => if 0x600 ≤ o ∧ o % 8 = 0 then some (s.sec.channels[(o - 0x600) / 8]?.getD {}).segments else none
  | 11, 2, 0x010 => some (leNat (s.lod.partner.take 8))
  | 11, 2, 0x018 => some s.fuses.deviceId
  | 12, 2, 0x008 => some s.mon.snap
  | 12, 2, 0x010 => some s.mon.interval
  | 13, 16, o =>
    if 0x110 ≤ o ∧ o < 0x310 then
      let k := s.hst.ports[(o - 0x100) / 32]?.getD {}
      if o % 32 = 16 then some k.fecCorr else if o % 32 = 24 then some k.fecUncorr else none
    else none
  | _, _, _ => none

/-- The Section, Unit and offset in its window of a control-window offset from 0x8000 upwards (R39): those of MGT lie at
0x8000. -/
def regSec (off : Nat) : Nat := off / 65536
def regUnit (off : Nat) : Nat := if off < 65536 then (off - 32768) / 2048 else off % 65536 / 2048
def regOff (off : Nat) : Nat := off % 2048

/-- The offset lies in the windows of the Units. -/
def inUnits (off : Nat) : Bool := decide (0x8000 ≤ off ∧ off < 0x100000)

/-- The live value of the 64-bit register whose LO half lies at a control-window offset. -/
def pairValue (s : State) (off : Nat) : Option Nat := if inUnits off then pairOf s (regSec off) (regUnit off) (regOff off) else none

/-- A 32-bit register that is half of no 64-bit register, as a seat reads it; `none` where nothing is mapped (R39, R40)
(DEDUCED, log entry 32). -/
def unitReg (s : State) (i : SeatId) (sec unit off : Nat) : Option Nat :=
  match sec with
  | 0 => if unit = 6 then seqReg s off else if unit = 7 then eventReg s i off else none
  | 1 => pwrReg s unit off
  | 2 => clkReg s unit off
  | 3 => timReg s i unit off
  | 4 => memReg s unit off
  | 5 => cnvReg s unit off
  | 6 => rxdReg s unit off
  | 7 => txdReg s unit off
  | 8 => codReg s unit off
  | 9 => frmReg s unit off
  | 10 => secReg s i unit off
  | 11 => lodReg s unit off
  | 12 => monReg s i unit off
  | 13 => hstReg s unit off
  | 14 => fehReg s unit off
  | _ => domReg s unit off

/-- The MSI-X table of a PCIe seat (PCIe 4.0): address, upper address, data and vector control of each vector, then the pending
bits (PRESUMED, log entry 26). -/
def msixReg (s : State) (i : SeatId) (off : Nat) : Option Nat :=
  let q := s.seat i
  if 0x6000 ≤ off ∧ off < 0x6400 then
    let e := q.msix[(off - 0x6000) / 16]?.getD {}
    some (if isPcieSeat s.mapB i = false then 0 else [e.addr % 2 ^ 32, e.addr / 2 ^ 32, e.data, bit e.masked].getD (off % 16 / 4) 0)
  else if off = 0x6800 then some (if isPcieSeat s.mapB i then q.msixPending.toNat % 2 ^ 32 else 0)
  else if off = 0x6804 then some (if isPcieSeat s.mapB i then q.msixPending.toNat / 2 ^ 32 else 0)
  else none

/-- The 16 bytes of an event ring entry (Table 18.4). -/
def EventEntry.bytes (e : EventEntry) : List Byte :=
  leBytes 8 (pack [(e.event, 0, 8), (e.severity, 8, 2), (e.sec, 10, 4), (e.unit, 14, 5), (e.inst, 19, 10), (e.coalesced, 32, 32)]) ++
    leBytes 8 (pack [(e.timeNs, 0, 30), (e.timeS, 30, 34)])

/-- A 32-bit read of the control window, but for the 64-bit registers (R39, R40): registers, logs and rings; zero where nothing is
mapped, and from a Unit marked reset required (R425) (DESIGN CHOICE, log entry 29; DEDUCED, log entry 32). -/
def readWindow (s : State) (i : SeatId) (off : Nat) : Nat :=
  let q := s.seat i
  if off < 0x200 then (seatReg s i off).getD 0
  else if 0x1000 ≤ off ∧ off < 0x3000 then leNat (readBytes q.reqRing (off - 0x1000) 4)
  else if 0x3000 ≤ off ∧ off < 0x5000 then leNat (readBytes q.rspRing (off - 0x3000) 4)
  else if 0x5000 ≤ off ∧ off < 0x6000 then
    leNat ((((q.events.ring[(off - 0x5000) / 16]?.getD {}).bytes).drop (off % 16)).take 4)
  else if inUnits off then
    let u := regUnit off
    if s.resetRequired ⟨regSec off, u, 0⟩ then 0 else (unitReg s i (regSec off) u (regOff off)).getD 0
  else (msixReg s i off).getD 0

end Sys2Proof.Machine
end

