-- ==== Sys2Proof/Machine/Access.lean ====
section
/-!
DEFINITION. Accesses that no chapter's own command covers: 64-bit reads (R341, R342, R349), plain register writes (R11, R40, R554),
data-plane reads that find an error (R440), and the test access port (R583 to R585).
-/
namespace Sys2Proof.Machine

/-! ### Reads (R341, R342, R349) -/

/-- The live 64-bit register at an offset: zero in a Unit marked reset required (R425), none where there is no such pair
(DEDUCED, log entry 31). -/
def livePair (s : State) (off : Nat) : Option Nat :=
  (pairValue s off).map fun v => if s.resetRequired ⟨regSec off, regUnit off, 0⟩ then 0 else v

/-- The offset of `PPS_TIME_SEC_LO` (R411). -/
def ppsTimeLo : Nat := 0x31804

/-- The live high half whose HI register lies at an offset; `SPQ_POP_HI` is the high half of the head word (R450). -/
def liveHigh (s : State) (seat : SeatId) (off : Nat) : Option Nat :=
  if off < 4 then none
  else match livePair s (off - 4) with
    | some v => some (v / 2 ^ 32 % 2 ^ 32)
    | none =>
      if h : 0x41000 ≤ off ∧ off < 0x41600 ∧ off % 64 = 12 then
        let q : QueueId := ⟨(off - 0x41000) / 64, by omega⟩
        let mine := s.owns seat (queuePath q) && !hwConsumes q && !s.resetRequired (queuePath q)
        some (if mine then ((s.mem.queues[q].words.head?.map fun w => w.data.toNat / 2 ^ 32).getD 0) else 0)
      else none

/-- `PMC_READ_STATUS_READ` (R349): the read clears the seat's `UNPAIRED` (DEDUCED, log entry 31). -/
def execPmcReadStatusRead (seat : SeatId) (s : State) : Result :=
  whenOpen seat ⟨12, 2, 0⟩ false (.pmcReadStatusRead seat) s <|
  if s.clk.mgmtStopped then .next s
  else
    let s := readReturns seat (readWindow s seat 0xC101C) s
    .next (s.onSeat seat fun q => { q with unpaired := false })

/-! ### Plain register writes (R11, R40) -/

/-- A write to the seat's event block (R553 to R556): its masks and ring head are stored, sticky bits and `OVERFLOW` cleared by ones
(DEDUCED, log entry 30). -/
def EventBlock.write (b : EventBlock) (off v : Nat) : EventBlock :=
  let w := off % 64 / 4
  if off = 0x004 then { b with head := BitVec.ofNat 9 v }
  else if off = 0x008 then { b with overflow := clearFlag b.overflow v 0 }
  else if 8 ≤ w then b
  else match off / 64 with
    | 1 => { b with sticky := b.sticky &&& ~~~ (BitVec.ofNat 256 (v % 2 ^ 32 * 2 ^ (32 * w))) }
    | 2 => { b with ringMask := setWord256 b.ringMask w v }
    | 3 => { b with msixMask := setWord256 b.msixMask w v }
    | 4 => { b with alertMask := setWord256 b.alertMask w v }
    | _ => b

/-- The target whose ownership a write to a register needs (R40): the member that the register belongs to, or instance 0
(DEDUCED, log entry 30). -/
def registerTarget (sec unit off : Nat) : Path :=
  let inst :=
    match sec, unit with
    | 4, 2 => if off < 0x600 then off / 64 else 0
    | 10, 0 => if 0x600 ≤ off then (off - 0x600) / 8 else if 0x100 ≤ off then off % 256 / 4 else 0
    | 10, 1 => if 0x100 ≤ off ∧ off < 0x300 then (off - 0x100) / 4 else 0
    | 12, 0 => if off < 0x200 then off / 64 else 0
    | 15, 0 => if off < 0x080 then off / 64 else 0
    | _, _ => 0
  ⟨sec, unit, inst⟩

/-- The block that an access to an offset of the control window reaches: none in the part that is the seat's own or `MGT`'s. -/
def blockAt (off : Nat) : Option Path :=
  if inUnits off ∧ regSec off ≠ 0 then some (registerTarget (regSec off) (regUnit off) (regOff off)) else none

/-- Carry out an access to some offsets of the control window, or hold it while the gate of one of the blocks is closed (R424). -/
def whenAllOpen (seat : SeatId) (offs : List Nat) (write : Bool) (command : Instr) (s : State) (act : Result) : Result :=
  match (offs.filterMap blockAt).find? s.gateClosed with
  | some p => whenOpen seat p write command s act
  | none => act

/-- What a write to a register of a Unit stores or clears (R11): `RW` and `WO` fields are stored, ones clear `W1C` fields, and the other
fields ignore it. A register whose write has a command of its own is left to that command (DEDUCED, log entry 30). -/
def writeField (sec unit off v : Nat) (s : State) : State :=
  match sec, unit, off with
  | 2, 1, 0x004 => { s with clk.stoppedOld := clearFlag s.clk.stoppedOld v 5 }
  | 4, 1, 0x000 => { s with mem.ueSeen := clearOnes s.mem.ueSeen v 0, mem.poisonSeen := clearOnes s.mem.poisonSeen v 8 }
  | 4, 2, o =>
    if h : o < 0x600 then
      if o % 64 = 16 then s.onQueue ⟨o / 64, by omega⟩ fun p => { p with pushLo := BitVec.ofNat 32 v } else s
    else s
  | 9, 0, 0x008 => { s with frm.sticky := clearOnes s.frm.sticky v 0 }
  | 12, 1, o =>
    if h : o < 0x200 then
      let c : ChainId := ⟨o / 64, by omega⟩
      match o % 64 with
      | 0x00 => s.onChain c fun k => { k with windowSh := BitVec.ofNat 32 v &&& 0x1F0F1F1F#32 }
      | 0x04 => s.onChain c fun k => { k with threshSh := BitVec.ofNat 32 v &&& 0x0007FFFF#32 }
      | 0x20 => s.onChain c fun k => { k with crossUp := clearFlag k.crossUp v 8, crossDown := clearFlag k.crossDown v 9 }
      | _ => s
    else s
  | 12, 2, 0x018 => { s with mon.flagStep := clearFlag s.mon.flagStep v 0, mon.flagStore := clearFlag s.mon.flagStore v 1 }
  | 13, 16, o =>
    if h : 0x100 ≤ o ∧ o < 0x300 then
      if o % 32 = 4 then s.onPort ⟨(o - 0x100) / 32, by omega⟩ fun k => { k with seen := clearOnes k.seen v 0 } else s
    else s
  | 13, u, 0x00C => if h : u < 16 then s.onLane ⟨u, h⟩ fun k => { k with faults := clearOnes k.faults v 0 } else s
  | 14, 0, 0x004 =>
    let s := s.onHk 0 fun k => { k with startSh := bits v 0 5, lengthSh := bits v 8 6 }
    s.onHk 1 fun k => { k with startSh := bits v 16 5, lengthSh := bits v 24 6 }
  | 14, 0, 0x02C => { s with feh.cross := clearOnes s.feh.cross v 0 }
  | 15, 2, 0x000 => s.onFlint fun f => { f with mismatch := clearFlag f.mismatch v 14 }
  | _, _, _ => s

/-- A register lies at an offset (DEDUCED, log entry 30). -/
def isMapped (s : State) (i : SeatId) (off : Nat) : Bool :=
  if inUnits off then
    (unitReg s i (regSec off) (regUnit off) (regOff off)).isSome || (pairValue s off).isSome || (liveHigh s i off).isSome ||
      decide (0x41000 ≤ off ∧ off < 0x41600 ∧ off % 64 = 8)
  else if off < 0x200 then (seatReg s i off).isSome
  else decide (0x1000 ≤ off ∧ off < 0x6400) || decide (off = 0x6800 ∨ off = 0x6804)

/-- A write to a word of the MSI-X table of a PCIe seat (PCIe 4.0): a pending message is sent when its vector is unmasked
(PRESUMED, log entry 26). -/
def writeMsix (i : SeatId) (off v : Nat) (s : State) : State :=
  if h : isPcieSeat s.mapB i = true ∧ 0x6000 ≤ off ∧ off < 0x6400 then
    let n : Fin 64 := ⟨(off - 0x6000) / 16, by omega⟩
    let s := s.onSeat i fun q => { q with msix := vmod q.msix n fun e =>
      match off % 16 / 4 with
      | 0 => { e with addr := e.addr / 2 ^ 32 * 2 ^ 32 + v / 4 * 4 }
      | 1 => { e with addr := e.addr % 2 ^ 32 + v * 2 ^ 32 }
      | 2 => { e with data := v }
      | _ => { e with masked := decide (bits v 0 1 = 1) } }
    if (s.seat i).msix[n].masked = false ∧ (s.seat i).msixPending.getLsbD n.val = true then
      offerMsix i n.val (s.onSeat i fun q => { q with msixPending := q.msixPending &&& ~~~ (BitVec.ofNat 64 (2 ^ n.val)) })
    else s
  else s

/-- A write to a direct register that has no command of its own (R11, R40, R75): nothing lies at an offset that is not aligned
(DEDUCED, log entries 30, 40, 96). -/
def writeRegister (seat : SeatId) (off v : Nat) (s : State) : State :=
  if s.clk.mgmtStopped ∨ (s.seat seat).quarantined then s
  else if off % 4 ≠ 0 ∨ isMapped s seat off = false then refuseWrite seat (violation seat 5 0 s)
  else if inUnits off then
    let sec := regSec off
    let unit := regUnit off
    let o := regOff off
    if sec = 0 ∧ unit = 7 then s.onSeat seat fun q => { q with events := q.events.write o v }
    else if h : sec = 10 ∧ unit = 1 ∧ o < 0x020 then writeKeyData seat ⟨o / 4, by omega⟩ (BitVec.ofNat 32 v) s
    else if (sec = 10 ∧ unit = 1 ∧ o = 0x020) ∨ (sec = 0 ∧ unit = 6 ∧ o = 0x00C) then s
    else unitWrite seat (registerTarget sec unit o) s (writeField sec unit o v)
  else if off = 0x004 then s.onSeat seat fun q => { q with writeRefused := clearFlag q.writeRefused v 4 }
  else writeMsix seat off v s

/-! ### Data-plane reads that find an error (R440, Table 14.4) -/

/-- The memory group of a data-plane read (DEDUCED, log entry 33). -/
def DataRead.group : DataRead → MemGroup
  | .coef => 2
  | .key _ => 4
  | .ctx _ => 5
  | _ => 3

/-- `DATA_PATH_READ_ERROR` (R220, R288, R440): a word in which the bits `mask` have gone wrong is read. A correctable error is corrected;
otherwise a coefficient or data count as zero, an error of a release or outer-code buffer marks the block uncorrected, one of the decision
return buffer the group, and the key and context stores do as R288 says (DEDUCED, log entry 33). -/
def execDataPathReadError (read : DataRead) (word : Nat) (mask : Nat) (s : State) : Result :=
  if groupWords (DataRead.group read) ≤ word then .next s
  else
    let r := readWord (DataRead.group read) word 0 false (upset (DataRead.group read) word mask s)
    match r.1 with
    | .good => .next r.2
    | .bad _ =>
      match read with
      | .blockBuffer => .next { r.2 with cod.blockBad := true }
      | .decisionReturn => .next { r.2 with cod.returnBad := true }
      | .key i => .next (keyStoreError i r.2)
      | .ctx c => .next (contextError c r.2)
      | _ => .next r.2

/-! ### Scrubbing (R440, R443, R444) -/

/-- `SCRUB_READ` (R440, R443, R444): the next word of a scrubbed group is read, after the bits `mask` have gone wrong in it;
a word of a retired page is passed over. An uncorrectable word of the key or context store does what R288 says of its slot or channel. -/
def execScrubRead (group : Fin 6) (mask : Nat) (s : State) : Result :=
  if group.val = 2 ∨ group.val = 3 then .next s
  else
    let w := s.mem.scrubPos[group]
    if group.val = 0 ∧ s.mem.isRetired (pageOf (8 * w)) then .next (scrubNext group s)
    else
      let r := readWord group w 3 false (upset group w mask s)
      let s := scrubNext group r.2
      let owner := (Config.wordOwner group.val w).2.2
      match r.1 with
      | .good => .next s
      | .bad _ =>
        .next (if group.val = 4 then keyStoreError ⟨owner % 128, Nat.mod_lt _ (by decide)⟩ s
          else if group.val = 5 then contextError ⟨owner % 64, Nat.mod_lt _ (by decide)⟩ s
          else s)

/-! ### Test access port (R583 to R585) -/

/-- What a ball carries now (R585). -/
def State.ballControl (s : State) (b : Ball) : BallControl := Sys2Proof.Machine.ballControl s.tap s.boundary b

/-- `TAP_INSTRUCTION` (R583, R585): an instruction becomes the current one, with what has been shifted into the boundary register under
it. No event is raised, and the device goes on inside (PRESUMED, log entry 22). -/
def execTapInstruction (code : Byte) (cells : List Bool) (s : State) : Result :=
  let i := tapInstruction code
  .next { s with tap := i, boundary := if tapShifts i then cells else s.boundary }

/-- `TAP_TEST_LOGIC_RESET` (R585): the balls return to functional control (PRESUMED, log entry 22). -/
def execTapTestLogicReset (s : State) : Result := .next { s with tap := 0x01 }

end Sys2Proof.Machine
end

