-- ==== Sys2Proof/Machine/Bus.lean ====
section
/-!
DEFINITION. Accesses to the windows: reads with what they clear (R11, R341, R342), writes with the command that the register written
stands for, and the frames of the SPI target and the transfers of the I2C target (R37, R38, R40, R41).
-/
namespace Sys2Proof.Machine

/-- The state that an outcome leaves; the state before where it is none. -/
def stateOf (r : Result) (s : State) : State :=
  match r with
  | .next t => t
  | _ => s

/-! ### Reads (R11, R41, R341, R342) -/

/-- A 32-bit read at an offset that is no half of a 64-bit register, with its effect where the register has one: an `RC` field is cleared
(R11), and a word leaves its queue (R450). One that is not aligned reads as zero (DESIGN CHOICE, log entry 96). -/
def readRegister (seat : SeatId) (off : Nat) (s : State) : State :=
  let plain := fun (s : State) => readReturns seat (readWindow s seat off) s
  if off % 4 ≠ 0 then readReturns seat 0 s
  else if inUnits off = false then plain s
  else match regSec off, regUnit off, regOff off with
    | 1, 0, 0x010 => stateOf (execRegIinPeakRead seat s) s
    | 1, 2, 0x004 => stateOf (execThmMaxSeenRead seat s) s
    | 4, 2, o => if h : o < 0x600 ∧ o % 64 = 8 then stateOf (execSpqPop seat ⟨o / 64, by omega⟩ false s) s else plain s
    | 5, u, 0x00C => if h : u < 4 then stateOf (execAdcClipCountRead seat ⟨u, h⟩ s) s else plain s
    | 7, 3, 0x004 => stateOf (execDpdClipCountRead seat s) s
    | 12, 2, 0x01C => stateOf (execPmcReadStatusRead seat s) s
    | _, _, _ => plain s

/-- `LO_READ` (R341, R411): the live low half, the high half and the pair, named by its HI half, into the seat's shadow; a read of
`PPS_TIME_SEC_LO` latches the nanoseconds too. Of any other register, a 32-bit read of it (DESIGN CHOICE, log entry 29; DEDUCED, log entry 31). -/
def execLoRead (seat : SeatId) (offset : Fin 1048576) (s : State) : Result :=
  whenAllOpen seat [offset.val] false (.loRead seat offset) s <|
  if s.clk.mgmtStopped then .next s
  else match livePair s offset.val with
    | none => .next (readRegister seat offset.val s)
    | some v =>
      let s := if offset.val = ppsTimeLo then s.onSeat seat fun q => { q with ppsNs := s.tim.devNs } else s
      let s := s.onSeat seat fun q => { q with shadowPair := some (offset.val + 4), shadowHi := v / 2 ^ 32 % 2 ^ 32 }
      .next (readReturns seat (v % 2 ^ 32) s)

/-- `HI_READ` (R341): the shadow of the pair that it names, which empties it; else the live high half, with `UNPAIRED`, its count and
`EV201`. Of any other register, a 32-bit read of it (DESIGN CHOICE, log entry 29; DEDUCED, log entry 31). -/
def execHiRead (seat : SeatId) (offset : Fin 1048576) (s : State) : Result :=
  whenAllOpen seat [offset.val] false (.hiRead seat offset) s <|
  if s.clk.mgmtStopped then .next s
  else if (s.seat seat).shadowPair = some offset.val then
    let v := (s.seat seat).shadowHi
    .next (readReturns seat v (s.onSeat seat fun q => { q with shadowPair := none, shadowHi := 0 }))
  else match liveHigh s seat offset.val with
    | none => .next (readRegister seat offset.val s)
    | some v =>
      let s := s.onSeat seat fun q => { q with unpaired := true }
      let s := { s with mon.unpairedCount := vmod s.mon.unpairedCount seat (satInc 16) }
      .next (readReturns seat v (raise 201 s))

/-- The queue whose `SPQ_POP_LO` lies at an offset. -/
def popQueue (off : Nat) : Option QueueId :=
  if h : 0x41000 ≤ off ∧ off < 0x41600 ∧ off % 64 = 8 then some ⟨(off - 0x41000) / 64, by omega⟩ else none

/-- `PAIRED_64_READ` (R342): both halves from one cycle, without the shadow; by a PCIe seat, at an aligned offset. Of a queue's `SPQ_POP`
it pops once (R450), and of any other two registers it reads both, the lower first (DESIGN CHOICE, log entry 29; DEDUCED, log entry 31). -/
def execPaired64Read (seat : SeatId) (offset : Fin 1048576) (s : State) : Result :=
  whenAllOpen seat [offset.val, offset.val + 4] false (.paired64Read seat offset) s <|
  if s.clk.mgmtStopped ∨ isPcieSeat s.mapB seat = false ∨ offset.val % 8 ≠ 0 then .next s
  else match livePair s offset.val, popQueue offset.val with
    | some v, _ => .next (readReturns seat v s)
    | none, some q => execSpqPop seat q true s
    | none, none =>
      let s1 := readRegister seat offset.val s
      let s2 := readRegister seat (offset.val + 4) s1
      .next (readReturns seat ((s1.seat seat).readData + (s2.seat seat).readData * 2 ^ 32) s2)

/-- The first address of the capture window on SPI and I2C (R39). -/
def captureWindow : Nat := 0x04000000

/-- One 32-bit read at an address of the SPI or I2C target (R37, R38, R41): the control window, or bulk memory, where a bad word reads as
0xFFFF_FFFF (Table 14.4); any other address, and one that is not aligned, reads as zero (DESIGN CHOICE, log entry 96). -/
def readAddress (seat : SeatId) (addr : Nat) (s : State) : State :=
  if h : addr < 1048576 then
    stateOf (if (livePair s addr).isSome then execLoRead seat ⟨addr, h⟩ s else execHiRead seat ⟨addr, h⟩ s) s
  else
    let a := addr - captureWindow
    let r := if captureWindow ≤ addr ∧ a % 4 = 0 ∧ s.clk.mgmtStopped = false then windowRead (a / 8) (a % 8) 4 s else ((0, false), s)
    readReturns seat (if r.1.2 then 0xFFFFFFFF else r.1.1) r.2

/-- A PCIe seat's read through the capture window (R41): of a bad word it returns the stored data, in a completion with the EP bit set
(Table 14.4). In the boot window it returns what lies in firmware memory (R533). One that is not aligned reads as zero
(DESIGN CHOICE, log entry 96). -/
def captureRead (seat : SeatId) (a n : Nat) (s : State) : State :=
  if s.clk.mgmtStopped then s else
  let r :=
    if s.bootWindow seat ∧ a + n ≤ 4194304 then ((leNat (readBytes s.mem.image a n), false), s)
    else if a % n = 0 then windowRead (a / 8) (a % 8) n s else ((0, false), s)
  let s := readReturns seat r.1.1 r.2
  if r.1.2 then s.send (.poisonedRead seat) else s

/-! ### Writes (R40, R75) -/

/-- The command that a write to a register stands for, where it has one of its own. -/
def writeCommand (seat : SeatId) (off : Nat) (v : Word) : Option (State → Result) :=
  if off % 4 ≠ 0 then none
  else if off < 0x200 then
    match off with
    | 0x008 => some (execAttach seat v)
    | 0x00C => some fun s =>
      let s := if v.getLsbD 0 then stateOf (execSeatReset seat s) s else s
      .next (if v.getLsbD 1 then stateOf (execDetach seat s) s else s)
    | 0x010 => some (execHeartbeat seat v)
    | 0x014 => some (execSeatHbTimeoutWrite seat v)
    | 0x020 => some (execDoorbell seat (v.setWidth 7) [])
    | 0x02C => some (execRspHeadWrite seat (v.setWidth 7))
    | _ => none
  else if h : 0x1000 ≤ off ∧ off < 0x3000 then some (execRingEntryWrite seat ⟨off - 0x1000, by omega⟩ (leBytes 4 v.toNat) 0)
  else if inUnits off = false then none
  else match regSec off, regUnit off, regOff off with
    | 0, 6, 0x00C => some (execSeqBootGo seat v)
    | 4, 1, 0x004 => some (execLogClear seat (v.setWidth 6))
    | 4, 2, o =>
      if h : o < 0x600 then
        let q : QueueId := ⟨o / 64, by omega⟩
        match o % 64 with
        | 0x14 => some (execSpqPush seat q v none)
        | 0x18 => some (execSpqPushLast seat q v)
        | 0x1C => if v.getLsbD 0 then some (execSpqDrop seat q) else none
        | _ => none
      else none
    | 5, 9, 0x008 => if v.getLsbD 0 then some (execForcePass seat) else none
    | 10, 1, 0x020 => some (execKeyLoad seat v)
    | 12, 1, o => if h : o < 0x200 ∧ o % 64 = 8 then some (execDetApply seat ⟨o / 64, by omega⟩ v) else none
    | 14, 0, 0x00C => some (execSeqApply seat (v.setWidth 2))
    | 14, 0, 0x010 => some fun s =>
      let s := stateOf (execSeqTrigger seat (v.setWidth 2) s) s
      let s := stateOf (execUrgentTrigger seat ((v >>> 2).setWidth 2) s) s
      execBurstStop seat ((v >>> 4).setWidth 2) s
    | 14, 0, 0x020 => some (execDmaRdOffset seat 0 (v.setWidth 20))
    | 14, 0, 0x024 => some (execDmaRdOffset seat 1 (v.setWidth 20))
    | _, _, _ => none

/-- One aligned 32-bit write of a seat to the control window. -/
def writeWord (seat : SeatId) (off : Nat) (v : Word) (s : State) : State :=
  match writeCommand seat off v with
  | some act => stateOf (act s) s
  | none => writeRegister seat off v.toNat s

/-- One 32-bit write at an address of the SPI or I2C target: the control window, the capture window, or an address where nothing is
mapped (R39, R41, R75) (DESIGN CHOICE, log entry 96). -/
def writeAddress (seat : SeatId) (addr : Nat) (v : Word) (s : State) : State :=
  if addr < 1048576 then writeWord seat addr v s
  else
    let at_ := if captureWindow ≤ addr ∧ addr < captureWindow + 0x04000000 then some (addr - captureWindow) else none
    stateOf (execUnmappedWrite seat at_ (leBytes 4 v.toNat) s) s

/-! ### Frames of the SPI and I2C targets (R37, R38) -/

/-- The bytes of a wire's bits, each byte most significant bit first (R37); bits short of a byte are dropped. -/
def wireBytes (w : List Bool) : List Byte :=
  (List.range (w.length / 8)).map fun i =>
    BitVec.ofNat 8 (((w.drop (8 * i)).take 8).foldl (fun n b => 2 * n + bit b) 0)

/-- Write words at rising addresses, 4 apart. -/
def writeWords (seat : SeatId) : Nat → List (List Byte) → State → State
  | _, [], s => s
  | addr, w :: ws, s => writeWords seat (addr + 4) ws (writeAddress seat (addr % 2 ^ 32) (BitVec.ofNat 32 (leNat w)) s)

/-- Read words at rising addresses: the bytes that are sent, least significant first (R9). -/
def readWords (seat : SeatId) : Nat → Nat → State → List Byte × State
  | 0, _, s => ([], s)
  | n + 1, addr, s =>
    let s := readAddress seat (addr % 2 ^ 32) s
    let rest := readWords seat n (addr + 4) s
    (leBytes 4 (s.seat seat).readData ++ rest.1, rest.2)

/-- Read words and send them to the seat. -/
def sendWords (seat : SeatId) (n addr : Nat) (s : State) : State :=
  let r := readWords seat n addr s
  r.2.send (.serial seat r.1)

/-- A frame of the SPI target (R37): command byte, four address bytes, for a read one dummy byte, and 32-bit data words. Any other command
byte is ignored, and a data word cut short is not written (DESIGN CHOICE, log entry 96). -/
def spiFrame (seat : SeatId) (bs : List Byte) (s : State) : State :=
  match bs with
  | c :: rest =>
    if rest.length < 4 then s
    else if c = 0x02 then writeWords seat (u32At rest 0) (records 4 (rest.drop 4)) s
    else if c = 0x0B then sendWords seat ((rest.length - 5) / 4) (u32At rest 0) s
    else s
  | [] => s

/-- The address of the I2C target: 0x50 plus `STRAP2` to `STRAP0` (R34). -/
def State.i2cAddress (s : State) : Nat := 0x50 + s.mgt.seq.straps.toNat % 8

/-- A transfer addressed to the I2C target (R38): four address bytes, and the words written, or after a repeated START the words read. -/
def i2cTransfer (seat : SeatId) (bs : List Byte) (reads : Nat) (s : State) : State :=
  if bs.length < 4 then s
  else if reads = 0 then writeWords seat (u32At bs 0) (records 4 (bs.drop 4)) s
  else if bs.length = 4 then sendWords seat reads (u32At bs 0) s
  else s

/-- The addresses of the words of an SPI or I2C access that lie in the control window. -/
def wordsFrom (addr n : Nat) : List Nat := ((List.range n).map fun k => (addr + 4 * k) % 2 ^ 32).filter fun a => decide (a < 1048576)

/-- The offsets of the control window that an access in the form of its interface reaches, and whether it writes (R37, R38). -/
def accessOffsets : WindowWrite → List Nat × Bool
  | .word off _ => ([off.val], true)
  | .pair off _ => ([off.val, off.val + 4], true)
  | .spi wire =>
    let bs := wireBytes wire
    if bs.head? = some 0x02 then (wordsFrom (u32At bs 1) ((bs.length - 5) / 4), true)
    else if bs.head? = some 0x0B then (wordsFrom (u32At bs 1) ((bs.length - 6) / 4), false)
    else ([], false)
  | .i2c _ bytes reads =>
    if reads = 0 then (wordsFrom (u32At bytes 0) ((bytes.length - 4) / 4), true) else (wordsFrom (u32At bytes 0) reads, false)
  | .capture _ _ => ([], false)

/-- `REGISTER_WRITE` (R11, R34, R37, R38, R40, R75): a seat's access in the form of its interface; in the form of another interface nothing
arrives, nor does a transfer to another I2C address (DESIGN CHOICE, log entry 96). -/
def execRegisterWrite (seat : SeatId) (write : WindowWrite) (s : State) : Result :=
  whenAllOpen seat (accessOffsets write).1 (accessOffsets write).2 (.registerWrite seat write) s <| .next (match write with
    | .word off v => writeWord seat off.val v s
    | .pair off v =>
      if isPcieSeat s.mapB seat && decide (off.val % 8 = 0) then
        writeWord seat (off.val + 4) ((v >>> 32).setWidth 32) (writeWord seat off.val (v.setWidth 32) s)
      else s
    | .spi wire => if seatIface s.mapB seat = 2 then spiFrame seat (wireBytes wire) s else s
    | .i2c address bytes reads =>
      if seatIface s.mapB seat = 3 ∧ address.toNat = s.i2cAddress then i2cTransfer seat bytes reads s else s
    | .capture offset wide => if isPcieSeat s.mapB seat then captureRead seat offset.val (if wide then 8 else 4) s else s)

end Sys2Proof.Machine
end

