-- ==== Sys2Proof/Machine/Dispatch.lean ====
section
/-!
DEFINITION. The dispatch: one arm per command, each one call of its meaning.
-/
namespace Sys2Proof.Machine

def exec (i : Instr) (s : State) : Host.Outcome State Fault Refusal :=
  match i with
  | .commitBoundary path dir => Sys2Proof.Machine.execCommitBoundary path dir s
  | .pmIntervalTick => Sys2Proof.Machine.execPmIntervalTick s
  | .pmDrainDone bad ns => Sys2Proof.Machine.execPmDrainDone bad ns s
  | .functionLevelReset pf => Sys2Proof.Machine.execFunctionLevelReset pf s
  | .pciePerst => Sys2Proof.Machine.execPciePerst s
  | .registerWrite seat write => Sys2Proof.Machine.execRegisterWrite seat write s
  | .unmappedWrite seat capture bytes => Sys2Proof.Machine.execUnmappedWrite seat capture bytes s
  | .attach seat value => Sys2Proof.Machine.execAttach seat value s
  | .seatReset seat => Sys2Proof.Machine.execSeatReset seat s
  | .detach seat => Sys2Proof.Machine.execDetach seat s
  | .heartbeat seat beat => Sys2Proof.Machine.execHeartbeat seat beat s
  | .seatHbTimeoutWrite seat value => Sys2Proof.Machine.execSeatHbTimeoutWrite seat value s
  | .seatAbsent seat => Sys2Proof.Machine.execSeatAbsent seat s
  | .doorbell seat tail upsets => Sys2Proof.Machine.execDoorbell seat tail upsets s
  | .rspHeadWrite seat head => Sys2Proof.Machine.execRspHeadWrite seat head s
  | .rspRingStalled seat => Sys2Proof.Machine.execRspRingStalled seat s
  | .nop req => Sys2Proof.Machine.execNop req s
  | .claim req => Sys2Proof.Machine.execClaim req s
  | .release req => Sys2Proof.Machine.execRelease req s
  | .delegate req => Sys2Proof.Machine.execDelegate req s
  | .ownerQuery req => Sys2Proof.Machine.execOwnerQuery req s
  | .reclaim req => Sys2Proof.Machine.execReclaim req s
  | .slateWrite req => Sys2Proof.Machine.execSlateWrite req s
  | .slateRead req => Sys2Proof.Machine.execSlateRead req s
  | .slateClear req => Sys2Proof.Machine.execSlateClear req s
  | .paramRead req => Sys2Proof.Machine.execParamRead req s
  | .commitCheck req => Sys2Proof.Machine.execCommitCheck req s
  | .commitApply req => Sys2Proof.Machine.execCommitApply req s
  | .mute req => Sys2Proof.Machine.execMute req s
  | .eventAck req => Sys2Proof.Machine.execEventAck req s
  | .unitReset req checkOk => Sys2Proof.Machine.execUnitReset req checkOk s
  | .sectionReset req checkOk => Sys2Proof.Machine.execSectionReset req checkOk s
  | .resetRelease path => Sys2Proof.Machine.execResetRelease path s
  | .controlRestart req => Sys2Proof.Machine.execControlRestart req s
  | .controlRestartDone => Sys2Proof.Machine.execControlRestartDone s
  | .fwWatchdog core expires => Sys2Proof.Machine.execFwWatchdog core expires s
  | .deviceReset req => Sys2Proof.Machine.execDeviceReset req s
  | .domainTimeout policy => Sys2Proof.Machine.execDomainTimeout policy s
  | .rotationStep ch grp => Sys2Proof.Machine.execRotationStep ch grp s
  | .sliceCalDone ch grp result meanDiff rmsDiff => Sys2Proof.Machine.execSliceCalDone ch grp result meanDiff rmsDiff s
  | .sliceCalTimeout ch grp => Sys2Proof.Machine.execSliceCalTimeout ch grp s
  | .sliceSwap ch grp meanDiff rmsDiff => Sys2Proof.Machine.execSliceSwap ch grp meanDiff rmsDiff s
  | .tempRead => Sys2Proof.Machine.execTempRead s
  | .forcePass seat => Sys2Proof.Machine.execForcePass seat s
  | .forcedStepStart => Sys2Proof.Machine.execForcedStepStart s
  | .forcedPassEnd => Sys2Proof.Machine.execForcedPassEnd s
  | .initCalDone adcs dacs => Sys2Proof.Machine.execInitCalDone adcs dacs s
  | .dacCalStep refOk => Sys2Proof.Machine.execDacCalStep refOk s
  | .dacCalDone result => Sys2Proof.Machine.execDacCalDone result s
  | .agcDecision set => Sys2Proof.Machine.execAgcDecision set s
  | .adcClipCheck ch clipped total => Sys2Proof.Machine.execAdcClipCheck ch clipped total s
  | .adcClipCountRead seat ch => Sys2Proof.Machine.execAdcClipCountRead seat ch s
  | .iqCorrectUpdate angleX gainX angleY gainY => Sys2Proof.Machine.execIqCorrectUpdate angleX gainX angleY gainY s
  | .acquisitionStart => Sys2Proof.Machine.execAcquisitionStart s
  | .cdScanDone metrics => Sys2Proof.Machine.execCdScanDone metrics s
  | .cdSeedRefineDone metrics => Sys2Proof.Machine.execCdSeedRefineDone metrics s
  | .seedWaitTimeout => Sys2Proof.Machine.execSeedWaitTimeout s
  | .acqStepTimeout => Sys2Proof.Machine.execAcqStepTimeout s
  | .timingLock offset => Sys2Proof.Machine.execTimingLock offset s
  | .polBlindConverged => Sys2Proof.Machine.execPolBlindConverged s
  | .pmxSingularityCheck xcorr => Sys2Proof.Machine.execPmxSingularityCheck xcorr s
  | .superframeLock => Sys2Proof.Machine.execSuperframeLock s
  | .polRdConverged => Sys2Proof.Machine.execPolRdConverged s
  | .superframeHeader found wordA wordB => Sys2Proof.Machine.execSuperframeHeader found wordA wordB s
  | .rxFormatChange => Sys2Proof.Machine.execRxFormatChange s
  | .codewordGroup group first last unsat checks => Sys2Proof.Machine.execCodewordGroup group first last unsat checks s
  | .cdTrack residual => Sys2Proof.Machine.execCdTrack residual s
  | .nleRampDone => Sys2Proof.Machine.execNleRampDone s
  | .timingUnlock offset => Sys2Proof.Machine.execTimingUnlock offset s
  | .carrierUnlock => Sys2Proof.Machine.execCarrierUnlock s
  | .losWindow power => Sys2Proof.Machine.execLosWindow power s
  | .losHoldExpire => Sys2Proof.Machine.execLosHoldExpire s
  | .warmReacquire => Sys2Proof.Machine.execWarmReacquire s
  | .warmTimeout => Sys2Proof.Machine.execWarmTimeout s
  | .rxReacquire req => Sys2Proof.Machine.execRxReacquire req s
  | .nleCoefLoad req => Sys2Proof.Machine.execNleCoefLoad req s
  | .nleCoefRead req => Sys2Proof.Machine.execNleCoefRead req s
  | .txSuperframe => Sys2Proof.Machine.execTxSuperframe s
  | .rateAnswerRx => Sys2Proof.Machine.execRateAnswerRx s
  | .rateProposeRx => Sys2Proof.Machine.execRateProposeRx s
  | .negotiateTimeout => Sys2Proof.Machine.execNegotiateTimeout s
  | .rateHoldExpire => Sys2Proof.Machine.execRateHoldExpire s
  | .rateAnnounce => Sys2Proof.Machine.execRateAnnounce s
  | .rateChange => Sys2Proof.Machine.execRateChange s
  | .rateAbort req => Sys2Proof.Machine.execRateAbort req s
  | .dpdCoefLoad req => Sys2Proof.Machine.execDpdCoefLoad req s
  | .dpdCoefRead req => Sys2Proof.Machine.execDpdCoefRead req s
  | .dpdRampDone => Sys2Proof.Machine.execDpdRampDone s
  | .dpdClipCountRead seat => Sys2Proof.Machine.execDpdClipCountRead seat s
  | .outputClipCheck clipped total => Sys2Proof.Machine.execOutputClipCheck clipped total s
  | .blockDecoded block => Sys2Proof.Machine.execBlockDecoded block s
  | .parityError cluster => Sys2Proof.Machine.execParityError cluster s
  | .fastBerWindow berPpb => Sys2Proof.Machine.execFastBerWindow berPpb s
  | .ifdFrame aligned codedBits corrected uncorrected => Sys2Proof.Machine.execIfdFrame aligned codedBits corrected uncorrected s
  | .fecResync req => Sys2Proof.Machine.execFecResync req s
  | .fecInject req => Sys2Proof.Machine.execFecInject req s
  | .injectEnd ife => Sys2Proof.Machine.execInjectEnd ife s
  | .rxOtucFrame frame => Sys2Proof.Machine.execRxOtucFrame frame s
  | .lofDeclare => Sys2Proof.Machine.execLofDeclare s
  | .lofClear => Sys2Proof.Machine.execLofClear s
  | .restoreHoldExpire client => Sys2Proof.Machine.execRestoreHoldExpire client s
  | .oduflexResizeStep step => Sys2Proof.Machine.execOduflexResizeStep step s
  | .resizeTimeout => Sys2Proof.Machine.execResizeTimeout s
  | .gccRxFrame channel received => Sys2Proof.Machine.execGccRxFrame channel received s
  | .gccTxPacket channel => Sys2Proof.Machine.execGccTxPacket channel s
  | .frmTtiRead req => Sys2Proof.Machine.execFrmTtiRead req s
  | .frmClientQuery req => Sys2Proof.Machine.execFrmClientQuery req s
  | .keyLoad seat value => Sys2Proof.Machine.execKeyLoad seat value s
  | .keyLoadDone slot storeOk => Sys2Proof.Machine.execKeyLoadDone slot storeOk s
  | .keyActivate req => Sys2Proof.Machine.execKeyActivate req s
  | .keyChangeover channel => Sys2Proof.Machine.execKeyChangeover channel s
  | .keyZeroise req => Sys2Proof.Machine.execKeyZeroise req s
  | .secChannelQuery req => Sys2Proof.Machine.execSecChannelQuery req s
  | .txSegment channel frames suspensions => Sys2Proof.Machine.execTxSegment channel frames suspensions s
  | .rxSegmentStart channel frames suspensions => Sys2Proof.Machine.execRxSegmentStart channel frames suspensions s
  | .tagVerdict channel => Sys2Proof.Machine.execTagVerdict channel s
  | .secSelftest failed expandOk => Sys2Proof.Machine.execSecSelftest failed expandOk s
  | .lodSlot => Sys2Proof.Machine.execLodSlot s
  | .identityDue => Sys2Proof.Machine.execIdentityDue s
  | .preambleDetect metric gain group => Sys2Proof.Machine.execPreambleDetect metric gain group s
  | .lodHeader bytes => Sys2Proof.Machine.execLodHeader bytes s
  | .lodFrame rest cd fo ppm beacon => Sys2Proof.Machine.execLodFrame rest cd fo ppm beacon s
  | .identityRx => Sys2Proof.Machine.execIdentityRx s
  | .hostOpaqueRx => Sys2Proof.Machine.execHostOpaqueRx s
  | .lodTxPacket => Sys2Proof.Machine.execLodTxPacket s
  | .ldtGainUpdate gain => Sys2Proof.Machine.execLdtGainUpdate gain s
  | .partnerTimeout => Sys2Proof.Machine.execPartnerTimeout s
  | .lodPartnerQuery req => Sys2Proof.Machine.execLodPartnerQuery req s
  | .lodIdentityNow req => Sys2Proof.Machine.execLodIdentityNow req s
  | .chainOutput chain cycles => Sys2Proof.Machine.execChainOutput chain cycles s
  | .chainSettled chain => Sys2Proof.Machine.execChainSettled chain s
  | .detApply seat chain value => Sys2Proof.Machine.execDetApply seat chain value s
  | .measureSample e => Sys2Proof.Machine.execMeasureSample e s
  | .pmSnapshot req => Sys2Proof.Machine.execPmSnapshot req s
  | .pmLocate req => Sys2Proof.Machine.execPmLocate req s
  | .capArm req => Sys2Proof.Machine.execCapArm req s
  | .capStop req => Sys2Proof.Machine.execCapStop req s
  | .capTrigger req => Sys2Proof.Machine.execCapTrigger req s
  | .captureDone before cycles => Sys2Proof.Machine.execCaptureDone before cycles s
  | .loRead seat offset => Sys2Proof.Machine.execLoRead seat offset s
  | .hiRead seat offset => Sys2Proof.Machine.execHiRead seat offset s
  | .paired64Read seat offset => Sys2Proof.Machine.execPaired64Read seat offset s
  | .pmcReadStatusRead seat => Sys2Proof.Machine.execPmcReadStatusRead seat s
  | .laneSignalDetect lane => Sys2Proof.Machine.execLaneSignalDetect lane s
  | .cdrLock lane => Sys2Proof.Machine.execCdrLock lane s
  | .trainingDone lane ok taps => Sys2Proof.Machine.execTrainingDone lane ok taps s
  | .polarityDetermined lane inverted => Sys2Proof.Machine.execPolarityDetermined lane inverted s
  | .laneOrderTry => Sys2Proof.Machine.execLaneOrderTry s
  | .portUp port skewNs => Sys2Proof.Machine.execPortUp port skewNs s
  | .bringupTimeout lane => Sys2Proof.Machine.execBringupTimeout lane s
  | .deskewRetry port skewNs => Sys2Proof.Machine.execDeskewRetry port skewNs s
  | .freqOffset lane ppm => Sys2Proof.Machine.execFreqOffset lane ppm s
  | .partnerAbsent lane => Sys2Proof.Machine.execPartnerAbsent lane s
  | .laneDown lane signalLost => Sys2Proof.Machine.execLaneDown lane signalLost s
  | .auiFecCodeword port corrected uncorrectable lf rf => Sys2Proof.Machine.execAuiFecCodeword port corrected uncorrectable lf rf s
  | .tlmMarker lane marker received => Sys2Proof.Machine.execTlmMarker lane marker received s
  | .tlmPeriod port pad dropped words => Sys2Proof.Machine.execTlmPeriod port pad dropped words s
  | .flexeOh port crcOk gidOk phyOk locked rpf => Sys2Proof.Machine.execFlexeOh port crcOk gidOk phyOk locked rpf s
  | .hostCalRequest group calendar => Sys2Proof.Machine.execHostCalRequest group calendar s
  | .flexeCalAck group => Sys2Proof.Machine.execFlexeCalAck group s
  | .flexeCalTimeout => Sys2Proof.Machine.execFlexeCalTimeout s
  | .hstLaneRetrain req => Sys2Proof.Machine.execHstLaneRetrain req s
  | .hstLaneEye req snr upper middle lower width ctle dfe => Sys2Proof.Machine.execHstLaneEye req snr upper middle lower width ctle dfe s
  | .flexeCalQuery req => Sys2Proof.Machine.execFlexeCalQuery req s
  | .selectorRun => Sys2Proof.Machine.execSelectorRun s
  | .slotMeasure slot hard soft xtalB => Sys2Proof.Machine.execSlotMeasure slot hard soft xtalB s
  | .soakDone slot => Sys2Proof.Machine.execSoakDone slot s
  | .wtrDone slot => Sys2Proof.Machine.execWtrDone slot s
  | .activityLoss slot => Sys2Proof.Machine.execActivityLoss slot s
  | .activityReturn slot => Sys2Proof.Machine.execActivityReturn slot s
  | .holdoffExpire slot => Sys2Proof.Machine.execHoldoffExpire slot s
  | .xtalBWarmup offset => Sys2Proof.Machine.execXtalBWarmup offset s
  | .historyEntry ppt linePpt lineLocked syncLocked => Sys2Proof.Machine.execHistoryEntry ppt linePpt lineLocked syncLocked s
  | .holdoverLimit => Sys2Proof.Machine.execHoldoverLimit s
  | .ppsInEdge edge => Sys2Proof.Machine.execPpsInEdge edge s
  | .ppsOut => Sys2Proof.Machine.execPpsOut s
  | .ppsPulseEnd => Sys2Proof.Machine.execPpsPulseEnd s
  | .ptpMessageRx port message => Sys2Proof.Machine.execPtpMessageRx port message s
  | .ptpMessageTx port kind => Sys2Proof.Machine.execPtpMessageTx port kind s
  | .ptpSyncTimeout port => Sys2Proof.Machine.execPtpSyncTimeout port s
  | .timSetTime req => Sys2Proof.Machine.execTimSetTime req s
  | .timSetTimeApply => Sys2Proof.Machine.execTimSetTimeApply s
  | .timQuery req => Sys2Proof.Machine.execTimQuery req s
  | .timClearWtr req => Sys2Proof.Machine.execTimClearWtr req s
  | .sourceAmplitude source valid => Sys2Proof.Machine.execSourceAmplitude source valid s
  | .sourceReady source => Sys2Proof.Machine.execSourceReady source s
  | .pllLock pll => Sys2Proof.Machine.execPllLock pll s
  | .pllUnlock pll => Sys2Proof.Machine.execPllUnlock pll s
  | .clockMonitorWindow source ok => Sys2Proof.Machine.execClockMonitorWindow source ok s
  | .clkSwitch req => Sys2Proof.Machine.execClkSwitch req s
  | .clkSwitchDone mux => Sys2Proof.Machine.execClkSwitchDone mux s
  | .oldClockStopped mux => Sys2Proof.Machine.execOldClockStopped mux s
  | .clkResume req => Sys2Proof.Machine.execClkResume req s
  | .idleAck path => Sys2Proof.Machine.execIdleAck path s
  | .gateTimeout path accesses => Sys2Proof.Machine.execGateTimeout path accesses s
  | .scrubRead group mask => Sys2Proof.Machine.execScrubRead group mask s
  | .memRetire req => Sys2Proof.Machine.execMemRetire req s
  | .retireDone => Sys2Proof.Machine.execRetireDone s
  | .memInject req => Sys2Proof.Machine.execMemInject req s
  | .logClear seat groups => Sys2Proof.Machine.execLogClear seat groups s
  | .spqPush seat queue hi lo => Sys2Proof.Machine.execSpqPush seat queue hi lo s
  | .spqPushLast seat queue hi => Sys2Proof.Machine.execSpqPushLast seat queue hi s
  | .spqPop seat queue wide => Sys2Proof.Machine.execSpqPop seat queue wide s
  | .spqDrop seat queue => Sys2Proof.Machine.execSpqDrop seat queue s
  | .spqHwPush queue words => Sys2Proof.Machine.execSpqHwPush queue words s
  | .spqHwPop queue => Sys2Proof.Machine.execSpqHwPop queue s
  | .spqSpill queue upsets => Sys2Proof.Machine.execSpqSpill queue upsets s
  | .seqApply seat mask => Sys2Proof.Machine.execSeqApply seat mask s
  | .seqTrigger seat mask => Sys2Proof.Machine.execSeqTrigger seat mask s
  | .urgentTrigger seat mask => Sys2Proof.Machine.execUrgentTrigger seat mask s
  | .burstStop seat mask => Sys2Proof.Machine.execBurstStop seat mask s
  | .seqTimer conv => Sys2Proof.Machine.execSeqTimer conv s
  | .flintHkTrigger => Sys2Proof.Machine.execFlintHkTrigger s
  | .compCrossing comp uv => Sys2Proof.Machine.execCompCrossing comp uv s
  | .hkConversion conv uv other vref => Sys2Proof.Machine.execHkConversion conv uv other vref s
  | .refSettled conv => Sys2Proof.Machine.execRefSettled conv s
  | .vrefCheck uv => Sys2Proof.Machine.execVrefCheck uv s
  | .dmaRdOffset seat conv value => Sys2Proof.Machine.execDmaRdOffset seat conv value s
  | .abcDwell samples vref => Sys2Proof.Machine.execAbcDwell samples vref s
  | .abcRelock req => Sys2Proof.Machine.execAbcRelock req s
  | .itlLoopQuery req => Sys2Proof.Machine.execItlLoopQuery req s
  | .itlTxPacket => Sys2Proof.Machine.execItlTxPacket s
  | .itlResponse bytes => Sys2Proof.Machine.execItlResponse bytes s
  | .itlRspTimeout => Sys2Proof.Machine.execItlRspTimeout s
  | .ftfLoopPeriod => Sys2Proof.Machine.execFtfLoopPeriod s
  | .helloSend => Sys2Proof.Machine.execHelloSend s
  | .helloRx port bytes => Sys2Proof.Machine.execHelloRx port bytes s
  | .rosterRx port bytes => Sys2Proof.Machine.execRosterRx port bytes s
  | .nakRx port bytes => Sys2Proof.Machine.execNakRx port bytes s
  | .policyRx port bytes => Sys2Proof.Machine.execPolicyRx port bytes s
  | .policyAckRx port bytes => Sys2Proof.Machine.execPolicyAckRx port bytes s
  | .npStatusRx port bytes => Sys2Proof.Machine.execNpStatusRx port bytes s
  | .npSelectRx port bytes => Sys2Proof.Machine.execNpSelectRx port bytes s
  | .hostFrameRx port bytes => Sys2Proof.Machine.execHostFrameRx port bytes s
  | .domHostTx => Sys2Proof.Machine.execDomHostTx s
  | .neighbourLost port id => Sys2Proof.Machine.execNeighbourLost port id s
  | .reachLost id => Sys2Proof.Machine.execReachLost id s
  | .rosterTimeout id => Sys2Proof.Machine.execRosterTimeout id s
  | .tvlPortLink port up => Sys2Proof.Machine.execTvlPortLink port up s
  | .flintForce req => Sys2Proof.Machine.execFlintForce req s
  | .flintLockout req => Sys2Proof.Machine.execFlintLockout req s
  | .domPolicySend req => Sys2Proof.Machine.execDomPolicySend req s
  | .domRosterAdopt req => Sys2Proof.Machine.execDomRosterAdopt req s
  | .domMemberQuery req => Sys2Proof.Machine.execDomMemberQuery req s
  | .npForce req => Sys2Proof.Machine.execNpForce req s
  | .flintFrameTx => Sys2Proof.Machine.execFlintFrameTx s
  | .flintFrameRx word check => Sys2Proof.Machine.execFlintFrameRx word check s
  | .flintHealthChange => Sys2Proof.Machine.execFlintHealthChange s
  | .flintLinkLoss => Sys2Proof.Machine.execFlintLinkLoss s
  | .flintWtrExpire => Sys2Proof.Machine.execFlintWtrExpire s
  | .npStatusTx => Sys2Proof.Machine.execNpStatusTx s
  | .npSelectTx => Sys2Proof.Machine.execNpSelectTx s
  | .npWtrExpire => Sys2Proof.Machine.execNpWtrExpire s
  | .npSelectTimeout => Sys2Proof.Machine.execNpSelectTimeout s
  | .vinRise lost => Sys2Proof.Machine.execVinRise lost s
  | .vinLow => Sys2Proof.Machine.execVinLow s
  | .vinLowClear => Sys2Proof.Machine.execVinLowClear s
  | .brownOut => Sys2Proof.Machine.execBrownOut s
  | .porstAssert => Sys2Proof.Machine.execPorstAssert s
  | .startupReference straps aonTemp => Sys2Proof.Machine.execStartupReference straps aonTemp s
  | .railsInRegulation => Sys2Proof.Machine.execRailsInRegulation s
  | .memorySelftestFill singles banks failed => Sys2Proof.Machine.execMemorySelftestFill singles banks failed s
  | .seqBootGo seat value => Sys2Proof.Machine.execSeqBootGo seat value s
  | .firmwareVerified slot version floor build => Sys2Proof.Machine.execFirmwareVerified slot version floor build s
  | .seatsReady => Sys2Proof.Machine.execSeatsReady s
  | .startupFault cause => Sys2Proof.Machine.execStartupFault cause s
  | .phaseFailed rail => Sys2Proof.Machine.execPhaseFailed rail s
  | .railFault rail => Sys2Proof.Machine.execRailFault rail s
  | .avsUpdate => Sys2Proof.Machine.execAvsUpdate s
  | .iinMeasure vinMv iin10mA => Sys2Proof.Machine.execIinMeasure vinMv iin10mA s
  | .pwrTolerance req => Sys2Proof.Machine.execPwrTolerance req s
  | .pwrQuery req => Sys2Proof.Machine.execPwrQuery req s
  | .deepenHoldExpire group => Sys2Proof.Machine.execDeepenHoldExpire group s
  | .powerStateEntered group => Sys2Proof.Machine.execPowerStateEntered group s
  | .powerStateExited group us => Sys2Proof.Machine.execPowerStateExited group us s
  | .thermalRead readings => Sys2Proof.Machine.execThermalRead readings s
  | .regIinPeakRead seat => Sys2Proof.Machine.execRegIinPeakRead seat s
  | .thmMaxSeenRead seat => Sys2Proof.Machine.execThmMaxSeenRead seat s
  | .tapInstruction code cells => Sys2Proof.Machine.execTapInstruction code cells s
  | .tapTestLogicReset => Sys2Proof.Machine.execTapTestLogicReset s
  | .coarseShiftSet blindMHz => Sys2Proof.Machine.execCoarseShiftSet blindMHz s
  | .foNearLimit fineKHz => Sys2Proof.Machine.execFoNearLimit fineKHz s
  | .dgdLimit dgdPsX10 => Sys2Proof.Machine.execDgdLimit dgdPsX10 s
  | .rxBeaconClear => Sys2Proof.Machine.execRxBeaconClear s
  | .codSelftest failedClusters failed => Sys2Proof.Machine.execCodSelftest failedClusters failed s
  | .alignmentMarkerLoss port => Sys2Proof.Machine.execAlignmentMarkerLoss port s
  | .pcsBlockError port => Sys2Proof.Machine.execPcsBlockError port s
  | .fwFetchUncorrectable word poisoned => Sys2Proof.Machine.execFwFetchUncorrectable word poisoned s
  | .dataPathReadError read word mask => Sys2Proof.Machine.execDataPathReadError read word mask s
  | .hkdRampDone dac => Sys2Proof.Machine.execHkdRampDone dac s
  | .pciePerstRelease => Sys2Proof.Machine.execPciePerstRelease s
  | .ringEntryWrite seat offset bytes flips => Sys2Proof.Machine.execRingEntryWrite seat offset bytes flips s

end Sys2Proof.Machine
end

