-- ==== Sys2Proof/Machine/Tick.lean ====
section
/-!
DEFINITION. What the device does by itself while no command waits: a microsecond passes, and a request with an opcode that no row of
Table 2.11 and of the chapters defines is answered, as is a held access whose gate has opened.
-/
namespace Sys2Proof.Machine

/-- The opcodes that Table 2.11 and the tables of the chapters define (DESIGN CHOICE, log entry 3). -/
def definedOpcodes : List Nat :=
  [0x0000, 0x0001, 0x0002, 0x0003, 0x0004, 0x0005, 0x0010, 0x0011, 0x0012, 0x0013, 0x0020, 0x0021, 0x0030, 0x0040] ++
  [0x0050, 0x0051, 0x0052, 0x0053, 0x0100, 0x0101, 0x0200, 0x0201, 0x0300, 0x0301, 0x0302, 0x0400, 0x0410] ++
  [0x0600, 0x0610, 0x0611, 0x0700, 0x0701, 0x0710, 0x0800, 0x0810, 0x0900, 0x0910, 0x0A10, 0x0A20, 0x0A21] ++
  [0x0B00, 0x0B01, 0x0C10, 0x0C11, 0x0C20, 0x0C21, 0x0C22, 0x0D00, 0x0D01, 0x0D10, 0x0E10, 0x0E20] ++
  [0x0F10, 0x0F11, 0x0F20, 0x0F21, 0x0F22, 0x0F30]

/-- The first accepted request whose turn has come and whose opcode is not defined (R55, R56). -/
def State.undefinedRequest (s : State) : Option Request :=
  s.mgt.channel.find? fun r => eligible s r && !definedOpcodes.contains r.opcode

/-- Answer such a request with `UNKNOWN_OPCODE` (Table 2.10); a management core must be running (R79, R422) (DESIGN CHOICE, log entry 3). -/
def answerUndefined (s : State) : State :=
  match s.undefinedRequest with
  | none => s
  | some r => serve r s fun s => respond r (refusal stUnknownOpcode) s

/-- The held accesses whose gate has opened wait in the queue again (R424) (DEDUCED, log entry 112). -/
def releaseHeld (s : State) : State :=
  { s with
    clk.held := s.clk.held.filter fun h => s.gateClosed h.path
    pending := s.pending ++ (s.clk.held.filter fun h => !s.gateClosed h.path).map HeldAccess.command }

/-- One microsecond passes on an empty queue (DESIGN CHOICE, log entry 3). -/
def tick (s : State) : State := releaseHeld (answerUndefined (s.reach (s.now + 1)))

end Sys2Proof.Machine
end

