-- ==== Sys2Proof/Machine/Step.lean ====
section
/-!
DEFINITION. One step of the block: the command at the front of the queue, or a microsecond of idling.
-/
namespace Sys2Proof.Machine

/-- Take the command at the front of the queue and carry it out with the queue's rest; with none waiting, a microsecond passes
(DESIGN CHOICE, log entries 1, 94). -/
def step (s : State) : Host.Outcome State Fault Refusal :=
  match s.pending with
  | [] => .next (tick s)
  | c :: rest => exec c { s with pending := rest }

/-- The state with the command that a word spells at the front of its queue. The rows of the table give no bits, so a word
spells none and the state is unchanged. -/
def State.withFetchWord (s : State) (nbits w : Nat) : State :=
  match decodeTableWord nbits w with
  | none => s
  | some c => { s with pending := c :: s.pending }

end Sys2Proof.Machine
end

