-- ==== Sys2Proof/WellFormed.lean ====
section
/-!
DEFINITION. Well-formed commands: what a sender can send and what the device's own circuits can report. A request
carries its row's opcode (Table 2.11) and header fields of their widths (Table 2.9); a frame has header fields of
theirs (Table 16.2); trims, block reports and words stay inside their widths.
-/
namespace Sys2Proof

/-- An optional word below a bound. -/
def optBelow (bound : Nat) : Option Nat → Bool
  | none => true
  | some v => decide (v < bound)

/-- A request as a ring can spell it (Tables 2.9 and 2.10, R48, R56): the opcode of its row, fields of their widths,
a payload of at most 1,004 bytes, and one entry in the Urgent class. -/
def Request.wf (opcode : Nat) (r : Request) : Bool :=
  decide (r.opcode = opcode) && decide (r.tag < 2 ^ 16) && decide (r.seq < 2 ^ 32) && r.target.fits &&
    decide (r.payload.length ≤ 1004) && (decide (r.cls ≠ .urgent) || decide (Machine.entriesFor r.payload.length = 1))

/-- Trim codes inside the widths of Table 3.4. -/
def Trims.wf (t : Trims) : Bool :=
  decide (t.offset < 256) && decide (t.gain < 256) && decide (t.skew < 1024) && decide (t.bandwidth < 64)

def CalResult.wf (r : CalResult) : Bool := r.trims.wf

/-- At most three failed attempts (R107). -/
def InitCalItem.wf (i : InitCalItem) : Bool := decide (i.failed ≤ 3) && i.trims.wf

/-- A share in parts per million, iterations from 1 on, and no more wrong labels than a block has bits (R212, R215, R221). -/
def BlockResult.wf (b : BlockResult) : Bool :=
  decide (b.unsatPpm ≤ 1000000) && decide (b.satisfiedAt ≠ some 0) && decide (b.errors ≤ 16384)

/-- The sizes of the overhead and the payload area of a slice (R268). -/
def OduSlice.wf (x : OduSlice) : Bool := decide (x.overhead.length = 64) && decide (x.payload.length = 15232)

/-- A PTP domain number is one byte (R407). -/
def PtpRx.wf (m : PtpRx) : Bool := decide (m.domain < 256)

/-- A command is well formed. -/
def Instr.wf (i : Instr) : Bool :=
  match i with
  | .commitBoundary path _ => path.fits
  | .pmIntervalTick => true
  | .pmDrainDone _ _ => true
  | .functionLevelReset _ => true
  | .pciePerst => true
  | .registerWrite _ _ => true
  | .unmappedWrite _ _ _ => true
  | .attach _ _ => true
  | .seatReset _ => true
  | .detach _ => true
  | .heartbeat _ _ => true
  | .seatHbTimeoutWrite _ _ => true
  | .seatAbsent _ => true
  | .doorbell _ _ upsets => upsets.all fun u => decide (u.1 < 1024) && decide (u.2 < 2 ^ 79)
  | .rspHeadWrite _ _ => true
  | .rspRingStalled _ => true
  | .nop req => req.wf 0x0000
  | .claim req => req.wf 0x0001
  | .release req => req.wf 0x0002
  | .delegate req => req.wf 0x0003
  | .ownerQuery req => req.wf 0x0004
  | .reclaim req => req.wf 0x0005
  | .slateWrite req => req.wf 0x0010
  | .slateRead req => req.wf 0x0011
  | .slateClear req => req.wf 0x0012
  | .paramRead req => req.wf 0x0013
  | .commitCheck req => req.wf 0x0020
  | .commitApply req => req.wf 0x0021
  | .mute req => req.wf 0x0030
  | .eventAck req => req.wf 0x0040
  | .unitReset req _ => req.wf 0x0050
  | .sectionReset req _ => req.wf 0x0051
  | .resetRelease path => path.fits
  | .controlRestart req => req.wf 0x0052
  | .controlRestartDone => true
  | .fwWatchdog _ _ => true
  | .deviceReset req => req.wf 0x0053
  | .domainTimeout policy => decide (policy < 65536)
  | .rotationStep _ _ => true
  | .sliceCalDone _ _ result _ _ => result.wf
  | .sliceCalTimeout _ _ => true
  | .sliceSwap _ _ _ _ => true
  | .tempRead => true
  | .forcePass _ => true
  | .forcedStepStart => true
  | .forcedPassEnd => true
  | .initCalDone adcs dacs => adcs.all InitCalItem.wf && dacs.all InitCalItem.wf
  | .dacCalStep _ => true
  | .dacCalDone result => result.wf
  | .agcDecision _ => true
  | .adcClipCheck _ clipped total => decide (clipped ≤ total)
  | .adcClipCountRead _ _ => true
  | .iqCorrectUpdate _ _ _ _ => true
  | .acquisitionStart => true
  | .cdScanDone metrics => decide (metrics.length = 1601 ∨ metrics.length ≤ 33)
  | .cdSeedRefineDone metrics => decide (metrics.length = 17)
  | .seedWaitTimeout => true
  | .acqStepTimeout => true
  | .timingLock _ => true
  | .polBlindConverged => true
  | .pmxSingularityCheck _ => true
  | .superframeLock => true
  | .polRdConverged => true
  | .superframeHeader _ wordA wordB => optBelow (2 ^ 64) wordA && optBelow (2 ^ 64) wordB
  | .rxFormatChange => true
  | .codewordGroup _ first last unsat checks => decide (first ≤ last) && decide (unsat ≤ checks)
  | .cdTrack _ => true
  | .nleRampDone => true
  | .timingUnlock _ => true
  | .carrierUnlock => true
  | .losWindow _ => true
  | .losHoldExpire => true
  | .warmReacquire => true
  | .warmTimeout => true
  | .rxReacquire req => req.wf 0x0600
  | .nleCoefLoad req => req.wf 0x0610
  | .nleCoefRead req => req.wf 0x0611
  | .txSuperframe => true
  | .rateAnswerRx => true
  | .rateProposeRx => true
  | .negotiateTimeout => true
  | .rateHoldExpire => true
  | .rateAnnounce => true
  | .rateChange => true
  | .rateAbort req => req.wf 0x0710
  | .dpdCoefLoad req => req.wf 0x0700
  | .dpdCoefRead req => req.wf 0x0701
  | .dpdRampDone => true
  | .dpdClipCountRead _ => true
  | .outputClipCheck clipped total => decide (clipped ≤ total)
  | .blockDecoded block => block.wf
  | .parityError _ => true
  | .fastBerWindow berPpb => decide (berPpb ≤ 1000000000)
  | .ifdFrame _ _ _ _ => true
  | .fecResync req => req.wf 0x0800
  | .fecInject req => req.wf 0x0810
  | .injectEnd _ => true
  | .rxOtucFrame _ => true
  | .lofDeclare => true
  | .lofClear => true
  | .restoreHoldExpire _ => true
  | .oduflexResizeStep _ => true
  | .resizeTimeout => true
  | .gccRxFrame _ _ => true
  | .gccTxPacket _ => true
  | .frmTtiRead req => req.wf 0x0900
  | .frmClientQuery req => req.wf 0x0910
  | .keyLoad _ _ => true
  | .keyLoadDone _ _ => true
  | .keyActivate req => req.wf 0x0A20
  | .keyChangeover _ => true
  | .keyZeroise req => req.wf 0x0A21
  | .secChannelQuery req => req.wf 0x0A10
  | .txSegment _ frames _ => frames.all fun f => f.all OduSlice.wf
  | .rxSegmentStart _ frames _ => frames.all fun f => f.all OduSlice.wf
  | .tagVerdict _ => true
  | .secSelftest _ _ => true
  | .lodSlot => true
  | .identityDue => true
  | .preambleDetect _ _ _ => true
  | .lodHeader _ => true
  | .lodFrame rest _ _ _ _ => decide (rest.length ≤ 259)
  | .identityRx => true
  | .hostOpaqueRx => true
  | .lodTxPacket => true
  | .ldtGainUpdate _ => true
  | .partnerTimeout => true
  | .lodPartnerQuery req => req.wf 0x0B00
  | .lodIdentityNow req => req.wf 0x0B01
  | .chainOutput _ _ => true
  | .chainSettled _ => true
  | .detApply _ _ _ => true
  | .measureSample _ => true
  | .pmSnapshot req => req.wf 0x0C10
  | .pmLocate req => req.wf 0x0C11
  | .capArm req => req.wf 0x0C20
  | .capStop req => req.wf 0x0C21
  | .capTrigger req => req.wf 0x0C22
  | .captureDone _ _ => true
  | .loRead _ _ => true
  | .hiRead _ _ => true
  | .paired64Read _ _ => true
  | .pmcReadStatusRead _ => true
  | .laneSignalDetect _ => true
  | .cdrLock _ => true
  | .trainingDone _ _ _ => true
  | .polarityDetermined _ _ => true
  | .laneOrderTry => true
  | .portUp _ _ => true
  | .bringupTimeout _ => true
  | .deskewRetry _ _ => true
  | .freqOffset _ _ => true
  | .partnerAbsent _ => true
  | .laneDown _ _ => true
  | .auiFecCodeword _ _ _ _ _ => true
  | .tlmMarker _ _ _ => true
  | .tlmPeriod _ _ _ _ => true
  | .flexeOh _ _ _ _ _ _ => true
  | .hostCalRequest _ _ => true
  | .flexeCalAck _ => true
  | .flexeCalTimeout => true
  | .hstLaneRetrain req => req.wf 0x0D00
  | .hstLaneEye req _ _ _ _ _ _ _ => req.wf 0x0D01
  | .flexeCalQuery req => req.wf 0x0D10
  | .selectorRun => true
  | .slotMeasure _ _ _ _ => true
  | .soakDone _ => true
  | .wtrDone _ => true
  | .activityLoss _ => true
  | .activityReturn _ => true
  | .holdoffExpire _ => true
  | .xtalBWarmup _ => true
  | .historyEntry _ _ _ _ => true
  | .holdoverLimit => true
  | .ppsInEdge _ => true
  | .ppsOut => true
  | .ppsPulseEnd => true
  | .ptpMessageRx _ message => message.wf
  | .ptpMessageTx _ _ => true
  | .ptpSyncTimeout _ => true
  | .timSetTime req => req.wf 0x0300
  | .timSetTimeApply => true
  | .timQuery req => req.wf 0x0301
  | .timClearWtr req => req.wf 0x0302
  | .sourceAmplitude _ _ => true
  | .sourceReady _ => true
  | .pllLock _ => true
  | .pllUnlock _ => true
  | .clockMonitorWindow _ _ => true
  | .clkSwitch req => req.wf 0x0200
  | .clkSwitchDone _ => true
  | .oldClockStopped _ => true
  | .clkResume req => req.wf 0x0201
  | .idleAck path => path.fits
  | .gateTimeout path _ => path.fits
  | .scrubRead _ mask => decide (mask < 2 ^ 79)
  | .memRetire req => req.wf 0x0400
  | .retireDone => true
  | .memInject req => req.wf 0x0410
  | .logClear _ _ => true
  | .spqPush _ _ _ _ => true
  | .spqPushLast _ _ _ => true
  | .spqPop _ _ _ => true
  | .spqDrop _ _ => true
  | .spqHwPush _ _ => true
  | .spqHwPop _ => true
  | .spqSpill _ _ => true
  | .seqApply _ _ => true
  | .seqTrigger _ _ => true
  | .urgentTrigger _ _ => true
  | .burstStop _ _ => true
  | .seqTimer _ => true
  | .flintHkTrigger => true
  | .compCrossing _ _ => true
  | .hkConversion _ _ _ _ => true
  | .refSettled _ => true
  | .vrefCheck _ => true
  | .dmaRdOffset _ _ _ => true
  | .abcDwell samples _ => decide ((samples.map Prod.fst).Pairwise (· < ·))
  | .abcRelock req => req.wf 0x0E10
  | .itlLoopQuery req => req.wf 0x0E20
  | .itlTxPacket => true
  | .itlResponse _ => true
  | .itlRspTimeout => true
  | .ftfLoopPeriod => true
  | .helloSend => true
  | .helloRx _ _ => true
  | .rosterRx _ _ => true
  | .nakRx _ _ => true
  | .policyRx _ _ => true
  | .policyAckRx _ _ => true
  | .npStatusRx _ _ => true
  | .npSelectRx _ _ => true
  | .hostFrameRx _ _ => true
  | .domHostTx => true
  | .neighbourLost _ id => decide (id < 1024)
  | .reachLost id => decide (id < 1024)
  | .rosterTimeout id => decide (id < 1024)
  | .tvlPortLink _ _ => true
  | .flintForce req => req.wf 0x0F10
  | .flintLockout req => req.wf 0x0F11
  | .domPolicySend req => req.wf 0x0F20
  | .domRosterAdopt req => req.wf 0x0F21
  | .domMemberQuery req => req.wf 0x0F22
  | .npForce req => req.wf 0x0F30
  | .flintFrameTx => true
  | .flintFrameRx _ _ => true
  | .flintHealthChange => true
  | .flintLinkLoss => true
  | .flintWtrExpire => true
  | .npStatusTx => true
  | .npSelectTx => true
  | .npWtrExpire => true
  | .npSelectTimeout => true
  | .vinRise _ => true
  | .vinLow => true
  | .vinLowClear => true
  | .brownOut => true
  | .porstAssert => true
  | .startupReference _ _ => true
  | .railsInRegulation => true
  | .memorySelftestFill _ _ _ => true
  | .seqBootGo _ _ => true
  | .firmwareVerified _ version floor build => decide (version < 65536) && decide (floor < 65536) && decide (build < 2 ^ 32)
  | .seatsReady => true
  | .startupFault _ => true
  | .phaseFailed _ => true
  | .railFault _ => true
  | .avsUpdate => true
  | .iinMeasure vinMv iin10mA => decide (vinMv < 65536) && decide (iin10mA < 65536)
  | .pwrTolerance req => req.wf 0x0100
  | .pwrQuery req => req.wf 0x0101
  | .deepenHoldExpire _ => true
  | .powerStateEntered _ => true
  | .powerStateExited _ _ => true
  | .thermalRead _ => true
  | .regIinPeakRead _ => true
  | .thmMaxSeenRead _ => true
  | .tapInstruction _ cells => decide (cells.length = 133)
  | .tapTestLogicReset => true
  | .coarseShiftSet _ => true
  | .foNearLimit _ => true
  | .dgdLimit _ => true
  | .rxBeaconClear => true
  | .codSelftest _ _ => true
  | .alignmentMarkerLoss _ => true
  | .pcsBlockError _ => true
  | .fwFetchUncorrectable _ _ => true
  | .dataPathReadError _ _ mask => decide (mask < 2 ^ 79)
  | .hkdRampDone _ => true
  | .pciePerstRelease => true
  | .ringEntryWrite _ offset bytes flips => decide (offset.val + bytes.length ≤ 8192) && decide (flips < 2 ^ 79)

end Sys2Proof
end

