-- ==== Sys2Proof/Safety.lean ====
section
/-!
DEFINITION. The terms in which claims about the device are stated: when a request is served, what events and answers may change, the
canonical form of the memories, and the agreement of event registers with Table 18.6.
-/
namespace Sys2Proof.Machine

/-- The management cores serve a request now: MGT runs (R422), firmware serves (R79), a core of its class runs (R80), and its turn has
come (R55, R56). -/
abbrev Served (s : State) (r : Request) : Prop :=
  s.clk.mgmtStopped = false ∧ s.mgt.fwReady = true ∧ s.coreServes r.cls = true ∧ (r ∈ s.mgt.channel → eligible s r = true)

/-- The target of a request exists, is not marked reset required (R425), and is owned by the seat (R61, R72). -/
abbrev Admitted (s : State) (r : Request) : Prop :=
  Served s r ∧ r.target.isTarget = true ∧ s.resetRequired r.target = false ∧ s.owns r.seat r.target = true

/-- The target of a request that any seat may send exists and is not marked reset required. -/
abbrev Asked (s : State) (r : Request) : Prop :=
  Served s r ∧ r.target.isTarget = true ∧ s.resetRequired r.target = false

/-- A seat's write to the registers of a Unit is carried out (R40, R76, R422, R424, R425). -/
abbrev Writes (s : State) (i : SeatId) (p : Path) : Prop :=
  s.clk.mgmtStopped = false ∧ (s.seat i).quarantined = false ∧ s.owns i p = true ∧ s.resetRequired p = false ∧ s.gateClosed p = false

/-- A read of the registers of a Unit is carried out and returns what they hold (R422, R424, R425). -/
abbrev Reads (s : State) (p : Path) : Prop :=
  s.clk.mgmtStopped = false ∧ s.resetRequired p = false ∧ s.gateClosed p = false

/-- The gate of the block that an offset of the control window reaches is open (R424). -/
abbrev Open (s : State) (off : Nat) : Prop := ∀ p, blockAt off = some p → s.gateClosed p = false

/-- What a seat's part keeps while events are delivered and responses posted: all but the event block, the MSI-X messages and the
response ring (R553 to R557, R50, R58, R74). -/
def Seat.told (q p : Seat) : Seat :=
  { q with
    events := p.events
    msix := p.msix
    msixPending := p.msixPending
    rspRing := p.rspRing
    rspTail := p.rspTail
    rspFullSince := p.rspFullSince
    rspWait := p.rspWait
    urgentOut := p.urgentOut }

/-- `s` with what raising events and posting responses may change taken from `t`: `t = s.told t` says that nothing else has changed. An
event may also trigger a capture (R344). -/
def State.told (s t : State) : State :=
  { s with
    mgt.seats := vgen 4 fun i => (s.seat i).told (t.seat i)
    mgt.limits := t.mgt.limits
    mon.cap := t.mon.cap
    out := t.out }

/-- The same where a request has also left its channel (R54, R56). -/
def State.answered (s t : State) : State :=
  { s.told t with mgt.channel := t.mgt.channel, mgt.normalRun := t.mgt.normalRun }

/-- The same where device time has also moved on (chapter 12). -/
def State.later (s t : State) : State :=
  { s.told t with now := t.now, tim.devS := t.tim.devS, tim.devNs := t.tim.devNs }

/-- What values that take effect, and changes of the power state or of the clients, may act on (R22, R69, R537): the data plane, TIM, CLK, FEH
and DOM; of MGT the running values, the commits and what waits; of PWR the groups, level and core voltage; of MEM, MON and HST what their
data paths hold. Time, fuses, ownership, firmware and start-up, the supply and the records are as they were. -/
def State.acted (s t : State) : State :=
  { s.told t with
    free := t.free
    mgt.running := t.mgt.running
    mgt.commits := t.mgt.commits
    mgt.waiting := t.mgt.waiting
    pwr.groups := t.pwr.groups
    pwr.level := t.pwr.level
    pwr.coreMv := t.pwr.coreMv
    pwr.avsLimited := t.pwr.avsLimited
    pwr.flintTol := t.pwr.flintTol
    clk := t.clk
    tim := t.tim
    mem.bulk := t.mem.bulk
    mem.flips := t.mem.flips
    mem.groups := t.mem.groups
    mem.queues := t.mem.queues
    mem.poisonSeen := t.mem.poisonSeen
    mem.ueSeen := t.mem.ueSeen
    mem.rmwCount := t.mem.rmwCount
    cnv := t.cnv
    rxd := t.rxd
    txd := t.txd
    cod := t.cod
    frm := t.frm
    sec := t.sec
    lod := t.lod
    mon.chains := t.mon.chains
    hst.lanes := t.hst.lanes
    hst.ports := t.hst.ports
    hst.orderLocked := t.hst.orderLocked
    hst.reversed := t.hst.reversed
    hst.tryAt := t.hst.tryAt
    hst.failing := t.hst.failing
    feh := t.feh
    dom := t.dom }

/-- The same where requests and commits in progress have ended, with seats set back (R77, R78). -/
def State.dropped (s t : State) : State :=
  { s.acted t with
    mgt.seats := t.mgt.seats
    mgt.channel := t.mgt.channel
    mgt.normalRun := t.mgt.normalRun
    mon.waiting := t.mon.waiting
    mon.atBoundary := t.mon.atBoundary
    hst := t.hst }

/-- The same where values committed before, in one direction or with CORE stopped, may have come into force (R22, R69). -/
def State.landed (s t : State) : State :=
  { s.dropped t with
    mgt.earlyTx := t.mgt.earlyTx
    mgt.earlyRx := t.mgt.earlyRx
    mgt.stored := t.mgt.stored
    mgt.storedNle := t.mgt.storedNle
    mgt.storedDpd := t.mgt.storedDpd }

/-- What the domain, the pair and the group may act on: DOM, TIM's inputs, the lanes and clients of a switch and the pair's tolerance (R495,
R506, R512, R516, R539). -/
def State.regrouped (s t : State) : State :=
  { s.told t with
    dom := t.dom
    tim := t.tim
    frm := t.frm
    sec.channels := t.sec.channels
    hst.lanes := t.hst.lanes
    pwr.flintTol := t.pwr.flintTol
    pwr.groups := t.pwr.groups }

/-- What a cold reset leaves: the state of a reset, but for what is fused, the straps and `PERST` as they are, the supply, the test access
port and what is outside the device (R77, R531, R545). -/
def State.cold (s t : State) : State :=
  { State.reset with
    free := s.free
    fuses := s.fuses
    mgt.seq.straps := s.mgt.seq.straps
    mgt.perst := s.mgt.perst
    pwr := t.pwr
    tap := s.tap
    boundary := s.boundary
    out := t.out
    pending := s.pending }

/-- `s` with what raising events may change, queue `q` and the contents of bulk memory taken from `t` (R449). -/
def State.queueMoved (s : State) (q : QueueId) (t : State) : State :=
  { s.told t with
    mem.queues := vmod s.mem.queues q fun _ => t.mem.queues[q]
    mem.bulk := t.mem.bulk
    mem.flips := t.mem.flips }

/-- Every byte of bulk memory outside the region of a queue is as it was. -/
abbrev State.outsideKept (s : State) (q : QueueId) (t : State) : Prop :=
  ∀ a, (∀ n, a / 8 ≠ s.regionPlace q n) → readByte t.mem.bulk a = readByte s.mem.bulk a

/-- A request command takes its request and answers it so (R54, R57). -/
abbrev Answers (s : State) (c : Request → Instr) (r : Request) (rep : Reply) : Prop :=
  exec (c r) s = .next (respond r rep (takeRequest r s))

/-- A Tvedry frame on a member's port that is on passes every check of Table 16.5, has not been seen before, and is for this device
(R491, R504, Table 16.11). -/
abbrev Takes (s : State) (p : TvlId) (f : TvlFrame) : Prop :=
  s.isMember = true ∧ s.tvlOn p = true ∧ headFault s f = none ∧ f.source ≠ s.domainId ∧ s.frameSeen f = false ∧
    bodyFault s f = none ∧ s.digestDiffers f = false ∧ (byFirmware f.type = true → s.mgt.fwReady = true) ∧ s.addressed f = true

/-- The memories of the device are in canonical form: addresses strictly rising, no entry that equals the fill (R436). -/
def State.memoryWf (s : State) : Bool :=
  memWf s.mem.bulk && memWf s.mem.image && nmWf 0 s.mem.flips &&
    (indices 4).all fun i => memWf (s.seat i).reqRing && memWf (s.seat i).rspRing

/-- No event register of a seat holds a bit of an event that does not exist (R551, R553). -/
abbrev EventBlock.defined (b : EventBlock) : Prop :=
  b.sticky &&& ~~~ definedEvents = 0 ∧ b.ringMask &&& ~~~ definedEvents = 0 ∧ b.msixMask &&& ~~~ definedEvents = 0 ∧
    b.alertMask &&& ~~~ definedEvents = 0

/-- No seat's event registers do. -/
abbrev State.eventsDefined (s : State) : Prop := ∀ i : SeatId, (s.seat i).events.defined

/-- A safe run: the invariants of the device hold. -/
abbrev Safe (s : State) : Prop := s.memoryWf = true ∧ s.eventsDefined

end Sys2Proof.Machine
end

