-- ==== Sys2Proof/Certificates/Slice0/Obligations.lean ====
section
/-!
DEFINITION. The statements about the device that are put to the provers. Each statement about a next state gives, as its conclusion, that the
command answers one, with what it holds; `told` and `answered` say what events and responses may change besides.
-/
open Sys2Proof Sys2Proof.Machine

/-! ### Register accesses and the test access port -/

/-- 64-bit registers (R341, R349): a LO read returns the live low half and leaves the high half of the same moment to the next HI read of
the pair, whatever has happened in between; a read of `PMC_READ_STATUS` clears the seat's `UNPAIRED`. -/
def Obligations.WideReads : Prop :=
  ∀ (s : State) (i : SeatId), s.clk.mgmtStopped = false →
    (∀ (off offHi : Fin 1048576) (v : Nat), offHi.val = off.val + 4 → livePair s off.val = some v → Open s off.val →
      ∃ t, exec (.loRead i off) s = .next t ∧ (t.seat i).readData = v % 2 ^ 32 ∧
        ∀ u : State, u.clk.mgmtStopped = false → Open u offHi.val → (u.seat i).shadowPair = (t.seat i).shadowPair →
          (u.seat i).shadowHi = (t.seat i).shadowHi →
          ∃ w, exec (.hiRead i offHi) u = .next w ∧ (w.seat i).readData = v / 2 ^ 32 % 2 ^ 32 ∧ (w.seat i).shadowPair = none ∧
            w = { u with mgt.seats := w.mgt.seats }) ∧
    (s.gateClosed ⟨12, 2, 0⟩ = false →
      ∃ t, exec (.pmcReadStatusRead i) s = .next t ∧ (t.seat i).readData = readWindow s i 0xC101C ∧ (t.seat i).unpaired = false ∧
        (∀ j, j ≠ i → t.seat j = s.seat j) ∧ t = { s with mgt.seats := t.mgt.seats })

/-- Paired reads (R342): an aligned 64-bit read of a LO/HI pair by a PCIe seat returns both halves of one moment, and leaves the read shadow and all
else as they are. -/
def Obligations.PairedReads : Prop :=
  ∀ (s : State) (i : SeatId) (off : Fin 1048576) (v : Nat), s.clk.mgmtStopped = false → isPcieSeat s.mapB i = true → off.val % 8 = 0 →
    livePair s off.val = some v → Open s off.val → Open s (off.val + 4) →
    ∃ t, exec (.paired64Read i off) s = .next t ∧ t.seat i = { s.seat i with readData := v } ∧ (∀ j, j ≠ i → t.seat j = s.seat j) ∧
      t = { s with mgt.seats := t.mgt.seats }

/-- Register accesses (R11, R37, R38, R40, R75, R554): every access completes. Ones clear the sticky event bits that they name and no
others; a mask is stored; ones clear bits of a `W1C` field of a Unit that the seat owns; a write to an offset where nothing is mapped
changes nothing but the record of the violation. A 64-bit write is its two halves, the lower first; a write frame of one word on SPI, and a
write transfer of one word on I2C, is the write of that word; a read frame returns the register read, least significant byte first. -/
def Obligations.RegisterWrites : Prop :=
  ∀ (s : State) (i : SeatId),
    (∀ w : WindowWrite, ∃ t, exec (.registerWrite i w) s = .next t) ∧
    (∀ (v : Word) (w : Fin 8) (off : Fin 1048576), s.clk.mgmtStopped = false → (s.seat i).quarantined = false →
      (off.val = 0xB840 + 4 * w.val →
        ∃ t, exec (.registerWrite i (.word off v)) s = .next t ∧ t = { s with mgt.seats := t.mgt.seats } ∧ (∀ j, j ≠ i → t.seat j = s.seat j) ∧
          t.seat i = { s.seat i with events.sticky := (t.seat i).events.sticky } ∧
          ∀ b : Nat, (t.seat i).events.sticky.getLsbD b =
            ((s.seat i).events.sticky.getLsbD b && !(decide (32 * w.val ≤ b ∧ b < 32 * w.val + 32) && v.getLsbD (b - 32 * w.val)))) ∧
      (off.val = 0xB880 + 4 * w.val →
        exec (.registerWrite i (.word off v)) s =
          .next (s.onSeat i fun q => { q with events.ringMask := setWord256 q.events.ringMask w.val v.toNat }))) ∧
    (∀ (v : Word) (off : Fin 1048576), Writes s i ⟨9, 0, 0⟩ → off.val = 0x90008 →
      exec (.registerWrite i (.word off v)) s = .next { s with frm.sticky := s.frm.sticky &&& ~~~ (BitVec.ofNat 6 v.toNat) }) ∧
    (∀ (v : Word) (off : Fin 1048576), s.clk.mgmtStopped = false → (s.seat i).quarantined = false →
      (off.val % 4 ≠ 0 ∨ isMapped s i off.val = false) → Open s off.val →
      ∃ t, exec (.registerWrite i (.word off v)) s = .next t ∧ (t.seat i).writeRefused = true ∧
        (t.seat i).violTotal = satInc 16 (s.seat i).violTotal ∧
        t = { s with mgt.seats := t.mgt.seats, mgt.limits := t.mgt.limits, mon.cap := t.mon.cap, out := t.out }) ∧
    (∀ (v : Word64) (off hi : Fin 1048576) (t : State), isPcieSeat s.mapB i = true → off.val % 8 = 0 → hi.val = off.val + 4 →
      Open s off.val → Open s hi.val → Open t hi.val → exec (.registerWrite i (.word off (v.setWidth 32))) s = .next t →
      exec (.registerWrite i (.pair off v)) s = exec (.registerWrite i (.word hi ((v >>> 32).setWidth 32))) t) ∧
    (∀ (v : Word) (off : Fin 1048576), Open s off.val →
      (∀ wire : List Bool, seatIface s.mapB i = 2 → wireBytes wire = 0x02 :: leBytes 4 off.val ++ leBytes 4 v.toNat →
        exec (.registerWrite i (.spi wire)) s = exec (.registerWrite i (.word off v)) s) ∧
      (∀ (a : BitVec 7) (bs : List Byte), seatIface s.mapB i = 3 → a.toNat = 0x50 + s.mgt.seq.straps.toNat % 8 →
        bs = leBytes 4 off.val ++ leBytes 4 v.toNat →
        exec (.registerWrite i (.i2c a bs 0)) s = exec (.registerWrite i (.word off v)) s)) ∧
    (∀ (wire : List Bool) (off : Fin 1048576) (a b c d e : Byte), seatIface s.mapB i = 2 → livePair s off.val = none →
      (s.seat i).shadowPair ≠ some off.val → liveHigh s i off.val = none → inUnits off.val = false → s.clk.mgmtStopped = false → Open s off.val →
      wireBytes wire = 0x0B :: leBytes 4 off.val ++ [a, b, c, d, e] →
      exec (.registerWrite i (.spi wire)) s =
        .next ((readReturns i (readWindow s i off.val) s).send (.serial i (leBytes 4 (readWindow s i off.val)))))

/-- The test access port (R586): an instruction, of whatever code, and the reset of the port change the current instruction and what is
shifted into the boundary register, and nothing else: no memory, register, fuse or key. An undefined code is taken as `BYPASS`, the reset
selects the identification register, and the instructions that shift the boundary register are those of IEEE 1149.1 (the model's choices,
log entry 22). -/
def Obligations.TestAccessPort : Prop :=
  ∀ s : State,
    (∀ (c : Byte) (cells : List Bool), exec (.tapInstruction c cells) s = .next { s with
      tap := if c.toNat ≤ 6 then c else 0xFF
      boundary := if c = 0 ∨ c = 2 ∨ c = 3 ∨ c = 4 then cells else s.boundary }) ∧
    exec .tapTestLogicReset s = .next { s with tap := 0x01 }

/-! ### CLK -/

/-- Clock sources (R413 to R415, R420, R421): a valid swing starts the ready counter and a lost one clears flag and counter; a full counter
sets the ready flag; lock and its loss set and clear the PLL's flags; a bad window of an armed source declares it failed, and with a source
that forces it the device enters the safe state. Nothing but CLK, the start-up step, the warm-up of `XTAL_B` and, at a failure, what the
safe state forces, changes. -/
def Obligations.ClockSources : Prop :=
  ∀ s : State,
    (∀ n : Fin 10, (n.val < 4 ∨ 7 < n.val) → s.sourceReady n.val = false → (n.val = 3 → s.cfgB Param.oscXtalBEnable = true) →
      ∃ t, exec (.sourceAmplitude n true) s = .next t ∧ t.clk.counting = withBit s.clk.counting n.val true ∧ t.clk.ready = s.clk.ready ∧
        t = { s.told t with clk := t.clk, mgt.seq := t.mgt.seq }) ∧
    (∀ n : Fin 10, (n.val < 4 ∨ 7 < n.val) →
      ∃ t, exec (.sourceAmplitude n false) s = .next t ∧
        t.clk.ready.getLsbD n.val = false ∧ t.clk.counting.getLsbD n.val = false ∧ t.clk.swing = withBit s.clk.swing n.val false ∧
        (∀ m : Fin 10, (m.val < 4 ∨ 7 < m.val) → m ≠ n → t.clk.ready.getLsbD m.val = s.clk.ready.getLsbD m.val ∧
          t.clk.counting.getLsbD m.val = s.clk.counting.getLsbD m.val) ∧
        ((∀ p : Fin 4, s.pllReference p ≠ n.val ∨ s.clk.locked.getLsbD p.val = false) →
          t = { s with
            clk.ready := withBit s.clk.ready n.val false
            clk.counting := withBit s.clk.counting n.val false
            clk.swing := withBit s.clk.swing n.val false }) ∧
        t = { s.told t with clk := t.clk, hst.lanes := t.hst.lanes, feh.heldAt := t.feh.heldAt, feh.dacs := t.feh.dacs }) ∧
    (∀ n : Fin 10, s.clk.counting.getLsbD n.val = true →
      ∃ t, exec (.sourceReady n) s = .next t ∧ t.clk.ready = withBit s.clk.ready n.val true ∧
        t.clk.counting = withBit s.clk.counting n.val false ∧ (n.val = 3 → t.tim.xtalBAt = some s.now) ∧
        t = { s.told t with clk := t.clk, tim.xtalBAt := t.tim.xtalBAt, mgt.seq := t.mgt.seq }) ∧
    (∀ p : Fin 4, s.sourceReady (s.pllReference p) = true → s.clk.locked.getLsbD p.val = false → s.deviceState ≠ 4 →
      ∃ t, exec (.pllLock p) s = .next t ∧ t.clk.locked = withBit s.clk.locked p.val true ∧
        t.clk.ready = withBit s.clk.ready (4 + p.val) true ∧ t = { s.told t with clk := t.clk, mgt.seq := t.mgt.seq }) ∧
    (∀ p : Fin 4, s.clk.locked.getLsbD p.val = true →
      ∃ t, exec (.pllUnlock p) s = .next t ∧ t.clk.locked = withBit s.clk.locked p.val false ∧
        t.clk.unlocks = satInc 16 s.clk.unlocks ∧
        t = { s.told t with clk := t.clk, hst.lanes := t.hst.lanes, feh.heldAt := t.feh.heldAt, feh.dacs := t.feh.dacs }) ∧
    (∀ n : Fin 10, (n.val < 4 ∨ 7 < n.val) → s.disarmed n = false → s.clk.failed.getLsbD n.val = false →
      ∃ t, exec (.clockMonitorWindow n false) s = .next t ∧ t.clk.failed.getLsbD n.val = true ∧ t.clk.ready.getLsbD n.val = false ∧
        (∀ m : Fin 10, (m.val < 4 ∨ 7 < m.val) → m ≠ n → t.clk.failed.getLsbD m.val = s.clk.failed.getLsbD m.val ∧
          t.clk.ready.getLsbD m.val = s.clk.ready.getLsbD m.val) ∧
        (s.clk.safeState = false → forcing n = true →
          t.clk.safeState = true ∧ t.clk.firstSource = n.val ∧ t.clk.firstCause = 1 ∧ t.clk.failTimeUs = s.now % 2 ^ 32) ∧
        t = { s.told t with clk := t.clk, hst.lanes := t.hst.lanes, feh.heldAt := t.feh.heldAt, feh.dacs := t.feh.dacs })

/-- Switching a multiplexer (R417 to R419): the request waits while the switch goes on; the switch ends with the new selection and
its answer; a stopped old clock is recorded.

Gates (R424, R425): an acknowledged Unit's gate closes; at the timeout it closes all the same, and the Unit is marked reset
required. -/
def Obligations.ClockCommands : Prop :=
  (∀ (s : State) (m : Fin 3) (src : Bool), s.clk.muxes[m].sel = !src → s.sourceReady (muxSource m src).val = true →
     (∀ r : Request, Admitted s r → r.target = ⟨2, 0, 0⟩ → r.payload = [BitVec.ofNat 8 m.val, BitVec.ofNat 8 (bit src)] →
       s.clk.muxes[m].switchTo = none → (m.val = 1 → src = true → s.cfg Param.rslXtalBHz % 1000000 = 0) →
       ∃ t, exec (.clkSwitch r) s = .next t ∧ t.clk.muxes[m].switchTo = some src ∧ t.clk.muxes[m].sel = s.clk.muxes[m].sel ∧
         t.mgt.waiting = s.mgt.waiting ++ [.clkSwitch r m.val] ∧
         t = { s.answered t with clk.muxes := t.clk.muxes, mgt.waiting := t.mgt.waiting }) ∧
     (s.clk.muxes[m].switchTo = some src →
       ∃ t, exec (.clkSwitchDone m) s = .next t ∧ t.clk.muxes[m] = { sel := src } ∧
         t = { s.told t with clk.muxes := t.clk.muxes, clk.fallback := t.clk.fallback, mgt.waiting := t.mgt.waiting }) ∧
     (s.clk.muxes[m].switchTo = some src →
       ∃ t, exec (.oldClockStopped m) s = .next t ∧ t.clk.muxes[m] = { sel := src } ∧ t.clk.stoppedOld = true ∧
         t = { s.told t with clk.muxes := t.clk.muxes, clk.fallback := t.clk.fallback, clk.stoppedOld := true,
                             mgt.waiting := t.mgt.waiting })) ∧
  (∀ (s : State) (p : Path), s.clk.gateWait.contains p = true →
     exec (.idleAck p) s = .next { s with clk.gateWait := s.clk.gateWait.erase p, clk.gated := s.clk.gated ++ [p] } ∧
     ∃ t, exec (.gateTimeout p []) s = .next t ∧ t.resetRequired p = true ∧ t.clk.gateWait = s.clk.gateWait.erase p ∧
       t.clk.gated = s.clk.gated ++ [p] ∧ t.clk.gateLast = p.word ∧ t.clk.gateTimeouts = satInc 32 s.clk.gateTimeouts ∧
       t = { s.told t with clk := t.clk })

/-! ### MEM -/

/-- Checked words (R435, R440, R444, R445, R456): a word whose wrong bits are one or two reads good, is counted and written back; an injected
bit is wrong in the stored word; clearing a log empties it and keeps the counters.

Retirement (R446): a request for a page or a bank waits; when the retirement is done every page named is retired, and nothing but MEM, the
waiting requests and the answer changes. -/
def Obligations.MemoryFaults : Prop :=
  (∀ s : State,
     (∀ (g : Fin 6) (mask : Nat), g.val ≠ 2 → g.val ≠ 3 → mask ≠ 0 → mask < 2 ^ 79 → maskWeight mask ≤ 2 →
       s.mem.flipsOf g s.mem.scrubPos[g] = 0 →
       (g.val = 0 → s.mem.isRetired (pageOf (8 * s.mem.scrubPos[g])) = false) →
       ∃ t, exec (.scrubRead g mask) s = .next t ∧ t.mem.groups[g].ce = (s.mem.groups[g].ce + 1) % 2 ^ 64 ∧
         t.mem.flipsOf g s.mem.scrubPos[g] = 0 ∧
         t.mem.scrubPos[g] = (if s.mem.scrubPos[g] + 1 < groupWords g then s.mem.scrubPos[g] + 1 else 0) ∧
         t = { s.told t with mem := t.mem }) ∧
     (∀ (word mask : Nat), word < groupWords 3 → mask < 2 ^ 79 → maskWeight mask = 3 → s.mem.flipsOf 3 word = 0 →
       ∃ t, exec (.dataPathReadError .blockBuffer word mask) s = .next t ∧ t.cod.blockBad = true ∧
         t.mem.groups[(3 : Fin 6)].ue = satInc 32 s.mem.groups[(3 : Fin 6)].ue ∧ t.mem.flipsOf 3 word = mask ∧
         t = { s.told t with mem := t.mem, cod.blockBad := true }) ∧
     (∀ (r : Request) (a b : Nat), Admitted s r → r.target = ⟨4, 1, 0⟩ → a % 8 = 0 → a < bulkSize → pmPages ≤ pageOf a →
       s.mem.isRetired (pageOf a) = false → b ≤ 78 → r.payload = leBytes 4 a ++ [BitVec.ofNat 8 b, 0xFF, 0xFF] →
       ∃ t, exec (.memInject r) s = .next t ∧ t.mem.flipsOf 0 (a / 8) = (s.mem.flipsOf 0 (a / 8) ^^^ 2 ^ b) % 2 ^ 79 ∧
         t = { s.answered t with mem.flips := t.mem.flips }) ∧
     (∀ (i : SeatId) (m : BitVec 6), Writes s i ⟨4, 1, 0⟩ →
       ∃ t, exec (.logClear i m) s = .next t ∧ t = { s with mem.groups := t.mem.groups } ∧
         ∀ g : Fin 6, t.mem.groups[g].ce = s.mem.groups[g].ce ∧ t.mem.groups[g].ue = s.mem.groups[g].ue ∧
           t.mem.groups[g].poison = s.mem.groups[g].poison ∧
           t.mem.groups[g].log = if m.getLsbD g.val then Vector.replicate 32 {} else s.mem.groups[g].log)) ∧
  (∀ s : State,
     (∀ (r : Request) (bank : Bool) (n : Nat), Admitted s r → r.target = ⟨4, 0, 0⟩ → n < (if bank then 64 else 8192) →
       (∀ p ∈ Retiring.pages ⟨bank, n⟩, pmPages ≤ p) → r.payload = leBytes 2 (bit bank) ++ leBytes 2 n →
       ∃ t, exec (.memRetire r) s = .next t ∧ t.mem.retiring = s.mem.retiring ++ [⟨bank, n⟩] ∧
         t.mgt.waiting = s.mgt.waiting ++ [.memRetire r bank n] ∧
         t = { s.answered t with mem.retiring := t.mem.retiring, mgt.waiting := t.mgt.waiting }) ∧
     (∀ x : Retiring, s.mem.retiring.find? s.mayRetire = some x →
       ∃ t, exec .retireDone s = .next t ∧ (∀ p ∈ x.pages, t.mem.isRetired p = true) ∧
         (∀ p, p ∉ x.pages → t.mem.isRetired p = s.mem.isRetired p) ∧ t.mem.retiring = s.mem.retiring.erase x ∧
         t = { s.told t with mem := t.mem, mgt.waiting := t.mgt.waiting, free := t.free }))

/-- Spill queues are first in, first out (R449 to R452): while no stored word of bulk memory has a wrong bit, a push appends its word,
marked or not; a pop returns the oldest word and removes it; a drop removes the first packet whole; a hardware producer's packet enters
whole and marked at its end, and a hardware consumer takes a whole packet; the spill engine moves words without changing their order. Other
queues, and memory outside the queue's region, keep what they hold. -/
def Obligations.SpillQueues : Prop :=
  ∀ (s : State) (q : Fin 24), (∀ w, s.mem.flipsOf 0 w = 0) →
    (∀ (i : SeatId) (hi lo : Word), Writes s i (queuePath q) → hwProduces q = false → s.mem.queues[q].dropping = false →
      s.mem.queues[q].count < s.queueCapacity q →
      (∃ t, exec (.spqPush i q hi (some lo)) s = .next t ∧ t.mem.queues[q].words = s.mem.queues[q].words ++ [⟨hi ++ lo, false⟩] ∧
        t = s.queueMoved q t ∧ s.outsideKept q t) ∧
      (∃ t, exec (.spqPushLast i q hi) s = .next t ∧
        t.mem.queues[q].words = s.mem.queues[q].words ++ [⟨hi ++ s.mem.queues[q].pushLo, true⟩] ∧ t = s.queueMoved q t ∧ s.outsideKept q t)) ∧
    (∀ (i : SeatId) (w : SpqWord) (rest : List SpqWord), s.clk.mgmtStopped = false → s.owns i (queuePath q) = true →
      s.resetRequired (queuePath q) = false → s.gateClosed (queuePath q) = false → hwConsumes q = false → s.mem.queues[q].words = w :: rest →
      (∃ t, exec (.spqPop i q true) s = .next t ∧ t.mem.queues[q].words = rest ∧ (t.seat i).readData = w.data.toNat ∧
        t = { s.queueMoved q t with mgt.seats := t.mgt.seats } ∧ s.outsideKept q t) ∧
      (∃ t, exec (.spqPop i q false) s = .next t ∧ t.mem.queues[q].words = rest ∧ (t.seat i).readData = w.data.toNat % 2 ^ 32 ∧
        (t.seat i).shadowHi = w.data.toNat / 2 ^ 32 ∧ t = { s.queueMoved q t with mgt.seats := t.mgt.seats } ∧ s.outsideKept q t)) ∧
    (∀ (i : SeatId) (n : Nat), Writes s i (queuePath q) → hwConsumes q = false → s.mem.queues[q].packetLength = some n →
      ∃ t, exec (.spqDrop i q) s = .next t ∧ t.mem.queues[q].words = s.mem.queues[q].words.drop n ∧
        t.mem.queues[q].cmdDrops = satInc 16 s.mem.queues[q].cmdDrops ∧ t = s.queueMoved q t ∧ s.outsideKept q t) ∧
    (∀ (ds : List Word64) (d : Word64), hwProduces q = true → s.hwStops q = false → s.mem.queues[q].dropping = false →
      ds.length + 1 + s.mem.queues[q].count ≤ s.queueCapacity q →
      ∃ t, exec (.spqHwPush q (ds ++ [d])) s = .next t ∧
        t.mem.queues[q].words = s.mem.queues[q].words ++ ds.map (fun x => ⟨x, false⟩) ++ [⟨d, true⟩] ∧ t = s.queueMoved q t ∧ s.outsideKept q t) ∧
    (∀ n : Nat, hwConsumes q = true → s.hwStops q = false → s.mem.queues[q].packetLength = some n →
      ∃ t, exec (.spqHwPop q) s = .next t ∧ t.mem.queues[q].words = s.mem.queues[q].words.drop n ∧
        t.out.getLast? = some (.packet q.val ((s.mem.queues[q].words.take n).map SpqWord.data)) ∧ t = s.queueMoved q t ∧ s.outsideKept q t) ∧
    (∃ t, exec (.spqSpill q []) s = .next t ∧ t.mem.queues[q].words = s.mem.queues[q].words ∧ t = s.queueMoved q t ∧ s.outsideKept q t)

/-! ### CNV -/

/-- The rotation of a slice group (R91 to R94, R106): the resting slice is calibrated from its current trims; a result that converges, or in the full
configuration is plausible after 320 µs, is loaded while the old trims are kept for the parallel window; after the window the multiplexer replaces the
slice in turn by it; an attempt that fails is counted and leaves the slice its old trims. -/
def Obligations.SliceRotation : Prop :=
  ∀ (s : State) (ch : Fin 4) (grp : Fin 12) (i : Fin 13), s.calibrating = true → s.cnv.adcs[ch].running = true →
    s.cnv.forcedAt = none → (s.group ch grp).resting = some i.val →
    ((s.group ch grp).phase = .idle → 0 < (s.group ch grp).passLeft →
      exec (.rotationStep ch grp) s = .next (s.onGroup ch grp fun g => { g with phase := .calibrating, stepAt := s.now })) ∧
    ((s.group ch grp).phase = .idle → (s.group ch grp).passLeft = 0 → s.cfgB Param.calBackgroundEnable = true → s.cnv.forcedPass = false →
      ∃ t, exec (.rotationStep ch grp) s = .next t ∧ (t.group ch grp).phase = .calibrating ∧ (t.group ch grp).stepAt = t.now ∧
        t.now = max s.now ((s.group ch grp).stepAt + s.cfgN Param.calRotationIntervalMs * 1000) ∧
        t = { s.later t with cnv.adcs := t.cnv.adcs }) ∧
    (∀ (x : CalResult) (m r : Nat) (good : Bool), (s.group ch grp).phase = .calibrating →
      good = (if s.cnv.adcs[ch].full then plausible ((s.group ch grp).slice i.val).trims x.trims true else x.converged) →
      ∃ t, exec (.sliceCalDone ch grp x m r) s = .next t ∧ t = { s.later t with cnv.adcs := t.cnv.adcs } ∧
        t.now = (if s.cnv.adcs[ch].full then max s.now ((s.group ch grp).stepAt + 320) else s.now) ∧
        (good = true → ((t.group ch grp).slice i.val).trims = x.trims ∧
          (t.group ch grp).phase = .parallel ((s.group ch grp).slice i.val).trims ∧ (t.group ch grp).windowAt = t.now) ∧
        (good = false → ((t.group ch grp).slice i.val).trims = ((s.group ch grp).slice i.val).trims ∧ (t.group ch grp).phase = .idle ∧
          t.cnv.adcs[ch].fails = satInc 32 s.cnv.adcs[ch].fails)) ∧
    ((s.group ch grp).phase = .calibrating → s.cnv.adcs[ch].full = false →
      ∃ t, exec (.sliceCalTimeout ch grp) s = .next t ∧ t.cnv.adcs[ch].fails = satInc 32 s.cnv.adcs[ch].fails ∧
        ((t.group ch grp).slice i.val).trims = ((s.group ch grp).slice i.val).trims ∧
        t.now = max s.now ((s.group ch grp).stepAt + s.cfgN Param.calSliceTimeoutUs) ∧ t = { s.later t with cnv.adcs := t.cnv.adcs }) ∧
    (∀ (old : Trims) (m r : Nat), (s.group ch grp).phase = .parallel old →
      ∃ t, exec (.sliceSwap ch grp m r) s = .next t ∧ (t.group ch grp).phase = .idle ∧
        t.now = max s.now (s.windowEnd ch (s.group ch grp).windowAt) ∧ t = { s.later t with cnv.adcs := t.cnv.adcs } ∧
        (s.cnv.adcs[ch].full = false ∨ windowPasses m r = true →
          (t.group ch grp).active = (s.group ch grp).active.set (s.group ch grp).next i.val ∧
          (t.group ch grp).resting = (s.group ch grp).active[(s.group ch grp).next]?) ∧
        (s.cnv.adcs[ch].full = true → windowPasses m r = false →
          ((t.group ch grp).slice i.val).trims = old ∧ t.cnv.adcs[ch].fails = satInc 32 s.cnv.adcs[ch].fails))

/-- Forced passes (R100 to R102): a temperature that has crossed the threshold, or the write of a seat, starts a pass with a new reference;
when the rotations have ended the next group without a spare is recalibrated in place; the pass ends with its counters.

DAC calibration and clipping (R108 to R111, R120, R121): `OBS` starts on the next sub-DAC that is not muted, or stops where its reference is
outside its limits; a good result is loaded and the turn passes on; clipped samples are counted, and reading the count clears it. -/
def Obligations.ConverterCalibration : Prop :=
  (∀ s : State, s.calibrating = true →
     (s.cnv.forcedPass = false →
       (s.cfgN Param.calTempThresholdCX10 : Int) * 8 < 10 * ((s.pwr.temps[(0 : Fin 8)] - s.cnv.refTemp).natAbs : Int) →
       ∃ t, exec .tempRead s = .next t ∧ t.cnv.forcedPass = true ∧ t.cnv.refTemp = s.pwr.temps[(0 : Fin 8)] ∧
         t.cnv.reading = s.pwr.temps[(0 : Fin 8)] ∧ t = { s.told t with cnv := t.cnv }) ∧
     (∀ i : SeatId, s.cnv.forcedPass = false → Writes s i ⟨5, 9, 0⟩ →
       ∃ t, exec (.forcePass i) s = .next t ∧ t.cnv.forcedPass = true ∧ t.cnv.refTemp = s.cnv.reading ∧
         t = { s.told t with cnv := t.cnv }) ∧
     (∀ (c : Fin 4) (g : Fin 12) (rest : List (Fin 4 × Fin 12)), s.cnv.forcedPass = true → s.rotationsEnded = true →
       s.cnv.forcedAt = none → s.cfgB Param.calForcedStepEnable = true → s.exhausted = (c, g) :: rest →
       ∃ t, exec .forcedStepStart s = .next t ∧ t.cnv.forcedAt = some (c, g, 0) ∧ (t.group c g).phase = .calibrating ∧
         t.cnv.adcs[c].forcedStep = true ∧ t = { s.told t with cnv := t.cnv }) ∧
     (s.cnv.forcedPass = true → s.rotationsEnded = true → s.cnv.forcedAt = none → s.dacOwed = false →
       s.cfgB Param.calForcedStepEnable = true → s.exhausted = [] → s.cnv.passQueued = false →
       ∃ t, exec .forcedPassEnd s = .next t ∧ t.cnv.forcedPass = false ∧
         (∀ c : Fin 4, s.cnv.adcs[c].running = true → t.cnv.adcs[c].passes = satInc 32 s.cnv.adcs[c].passes) ∧
         t = { s with cnv := t.cnv })) ∧
  (∀ s : State,
     (∀ n : Nat, s.calibrating = true → s.obsServes = true → s.obsRunning = false →
       (0 < s.cnv.dacPassLeft → s.unmutedFrom (16 - s.cnv.dacPassLeft) = some n →
         (∃ t, exec (.dacCalStep true) s = .next t ∧ t.cnv.obsActive = true ∧ t.cnv.obsSub = n ∧ t.cnv.obsChannel = n / 4 ∧
           t.cnv.obsForced = true ∧ t.cnv.dacPassLeft = 16 - n ∧ t = { s with cnv := t.cnv }) ∧
         (s.cnv.dacPassBegun = false →
           ∃ t, exec (.dacCalStep false) s = .next t ∧ t.cnv.obsFault = true ∧ t.cnv.dacPassLeft = 0 ∧ t.cnv.obsActive = s.cnv.obsActive ∧
             t = { s.told t with cnv := t.cnv })) ∧
       (s.cnv.dacPassLeft = 0 → s.cfgB Param.calBackgroundEnable = true → s.unmutedFrom s.cnv.obsNext = some n →
         ∃ t, exec (.dacCalStep true) s = .next t ∧ t.cnv.obsActive = true ∧ t.cnv.obsSub = n ∧ t.cnv.obsForced = false ∧
           t.now = max s.now (s.cnv.obsStepAt + s.cfgN Param.calRotationIntervalMs * 1000) ∧ t = { s.later t with cnv := t.cnv })) ∧
     (∀ (x : CalResult) (old : Trims), s.obsRunning = true →
       s.cnv.dacs[dacOf s.cnv.obsSub].subs[s.cnv.obsSub % 4]?.map SubDac.trims = some old →
       (if s.cnv.dacs[dacOf s.cnv.obsSub].full then plausible old x.trims false else x.converged) = true →
       ∃ t, exec (.dacCalDone x) s = .next t ∧ t.cnv.obsActive = false ∧
         (t.cnv.dacs[dacOf s.cnv.obsSub].subs[s.cnv.obsSub % 4]?.map SubDac.trims) = some x.trims ∧
         (s.cnv.obsForced = true → 0 < s.cnv.dacPassLeft → t.cnv.dacPassLeft = 15 - s.cnv.obsSub) ∧
         (s.cnv.obsForced = false → s.unmutedFrom (s.cnv.obsSub + 1) ≠ none → t.cnv.obsNext = s.cnv.obsSub + 1) ∧
         t = { s with cnv := t.cnv }) ∧
     (∀ (ch : Fin 4) (clipped total : Nat),
       ∃ t, exec (.adcClipCheck ch clipped total) s = .next t ∧
         t.cnv = (s.onAdc ch fun a => { a with clips := satInc 32 a.clips clipped }).cnv ∧ t = { s.told t with cnv := t.cnv }) ∧
     (∀ (i : SeatId) (ch : Fin 4), Reads s ⟨5, ch.val, 0⟩ →
       exec (.adcClipCountRead i ch) s =
         .next ((readReturns i s.cnv.adcs[ch].clips s).onAdc ch fun a => { a with clips := 0 })))

/-! ### RXD -/

/-- Acquisition (R125, R127 to R132, R135, R139, R150, R155, R156): each step of Table 4.7 leads to the next one with what it has found; the
blind scan is repeated once, and the refinement loads the fit about the best hypothesis; a seed refinement without a clear peak inside falls
back to the blind scan; a step that runs out of time is counted and leads back to the first. -/
def Obligations.AcquisitionSteps : Prop :=
  ∀ s : State,
    (∀ ax gx ay gy : Int, s.cfgB Param.cdeIqCorrect = true →
      exec (.iqCorrectUpdate ax gx ay gy) s = .next { s with
        rxd.iqAngle := (s.rxd.iqAngle.set 0 (clampInt (-10000) 10000 ax)).set 1 (clampInt (-10000) 10000 ay)
        rxd.iqGain := (s.rxd.iqGain.set 0 (clampInt (-3000) 3000 gx)).set 1 (clampInt (-3000) 3000 gy) }) ∧
    (s.rxd.rxState = .idle → s.signalPresent = true → (s.cfgN Param.cdeCdMode = 2 → s.rxd.seedValid = true) →
      ∃ t, exec .acquisitionStart s = .next t ∧ t.rxd.rxState = .freq ∧ t.rxd.acqMode = s.cfgN Param.cdeCdMode ∧
        t.rxd.acqStart = s.now ∧ t.rxd.trcLocked = false ∧ t = { s.told t with rxd := t.rxd, tim := t.tim }) ∧
    (∀ mhz : Int, s.rxd.rxState = .freq →
      ∃ t, exec (.coarseShiftSet mhz) s = .next t ∧ t = { s with rxd := t.rxd } ∧
        t.rxd.rxState = (if s.rxd.acqMode = 0 then .timing else if s.rxd.acqMode = 1 then .cdScan else .cdRefine) ∧
        (s.rxd.acqMode = 0 → t.rxd.cdValue = s.cfg Param.cdeDispersionPsNm)) ∧
    (∀ (ms : List Nat) (i : Nat), bestOf ms = i →
      (s.rxd.rxState = .cdScan → exceedsBy 24 (ms.getD i 0) (medianOf ms) = true →
        ∃ t, exec (.cdScanDone ms) s = .next t ∧ t.rxd.rxState = .cdRefine ∧ t.rxd.scanBest = i ∧ t = { s with rxd := t.rxd }) ∧
      (s.rxd.rxState = .cdScan → exceedsBy 24 (ms.getD i 0) (medianOf ms) = false →
        ∃ t, exec (.cdScanDone ms) s = .next t ∧ t = { s.told t with rxd := t.rxd } ∧
          (s.rxd.scanRepeated = false → t.rxd.rxState = .cdScan ∧ t.rxd.scanRepeated = true ∧ t.rxd.acqFails = s.rxd.acqFails) ∧
          (s.rxd.scanRepeated = true → t.rxd.rxState = .freq ∧ t.rxd.acqFails = satInc 16 s.rxd.acqFails)) ∧
      (s.rxd.rxState = .cdRefine → s.rxd.acqMode = 1 →
        ∃ t, exec (.cdScanDone ms) s = .next t ∧ t.rxd.rxState = .timing ∧ t.rxd.cdAcquired = t.rxd.cdValue ∧ t = { s with rxd := t.rxd } ∧
          ∀ h : Int × Nat, h = hypothesis s.rxSymbolRate s.rxd.scanBest
              (if refines s.rxSymbolRate then (i : Int) - refineSteps s.rxSymbolRate else 0) →
            t.rxd.cdValue = fitDispersion h.1 h.2 (if refines s.rxSymbolRate then nearMetrics ms i else s.rxd.scanNear)) ∧
      (s.rxd.rxState = .cdRefine → s.rxd.acqMode = 2 →
        ∃ t, exec (.cdSeedRefineDone ms) s = .next t ∧ t = { s.told t with rxd := t.rxd } ∧
          (exceedsBy 24 (ms.getD i 0) (medianOf ms) = true ∧ 0 < i ∧ i < 16 → t.rxd.rxState = .timing ∧
            t.rxd.cdValue = fitDispersion (s.rxd.seed - 400 + 50 * i) 1 (nearMetrics ms i) ∧ t.rxd.cdAcquired = t.rxd.cdValue) ∧
          (exceedsBy 24 (ms.getD i 0) (medianOf ms) = false ∨ i = 0 ∨ 16 ≤ i → t.rxd.rxState = .cdScan ∧ t.rxd.acqMode = 1))) ∧
    (∀ since : Nat, s.rxd.powerAt = some since → s.rxd.rxState = .idle → s.signalPresent = true → s.cfg Param.cdeCdMode = 2 →
      s.rxd.seedValid = false →
      ∃ t, exec .seedWaitTimeout s = .next t ∧ t.rxd.rxState = .freq ∧ t.rxd.acqMode = 1 ∧
        t.now = max s.now (since + s.cfgN Param.cdeSeedWaitMs * 1000) ∧ t = { s.later t with rxd := t.rxd, tim := t.tim }) ∧
    (s.rxd.acquiring = true → s.rxd.stored = false →
      ∃ t, exec .acqStepTimeout s = .next t ∧ t.rxd.rxState = .freq ∧ t.rxd.stage = .frozen ∧
        t.rxd.acqFails = satInc 16 s.rxd.acqFails ∧ t.rxd.acqMode = s.rxd.acqMode ∧ t.rxd.sfLock = false ∧ t.rxd.headers = 0 ∧
        t = { s.later t with rxd := t.rxd, tim := t.tim }) ∧
    (∀ offset : Int, offset.natAbs ≤ 20000 → s.rxd.rxState = .timing →
      ∃ t, exec (.timingLock offset) s = .next t ∧ t.rxd.trcLocked = true ∧ t.rxd.trcOffset = offset ∧
        (s.rxd.warmRun = false → t.rxd.rxState = .polBlind ∧ t.rxd.stage = .cma) ∧
        (s.rxd.warmRun = true → t.rxd.rxState = .carrier ∧ t.rxd.stage = s.rxd.stage) ∧
        t = { s.told t with rxd := t.rxd, tim := t.tim }) ∧
    (s.rxd.rxState = .polBlind →
      ∃ t, exec .polBlindConverged s = .next t ∧ t.rxd.rxState = .carrier ∧ t.rxd.stage = s.rxd.stage ∧ t = { s with rxd := t.rxd }) ∧
    (4 ≤ s.rxd.headers → s.rxd.sfLock = false → s.rxd.los = false → s.rxd.rxState = .carrier →
      ∃ t, exec .superframeLock s = .next t ∧ t.rxd.sfLock = true ∧ t.rxd.rxState = .polRd ∧ t.rxd.stage = .rde ∧
        t.rxd.freqLock = true ∧ t.rxd.phaseLock = true ∧
        t = { s.told t with rxd := t.rxd, frm := t.frm, sec.channels := t.sec.channels }) ∧
    (s.rxd.rxState = .polRd →
      ∃ t, exec .polRdConverged s = .next t ∧ t.rxd.rxState = .decode ∧
        t = { s with rxd := t.rxd, cod.candidate := 0, cod.goodBlocks := 0, cod.hits := 0, cod.misses := 0 })

/-- Tracking in service (R133, R138, R140, R142, R147, R148): what each check counts, moves or reports.

Loss and recovery of the receive chain (R135, R148, R158 to R160): loss of timing, of the carrier or of power freezes the equaliser and puts a
chain that has been locked into hold and another into idle; a hold that ends runs warm, and a warm run that fails waits for a full
acquisition. -/
def Obligations.ReceiverStates : Prop :=
  (∀ s : State,
     (∀ x : Nat, 900 < x → s.rxd.stage = .cma →
       ∃ t, exec (.pmxSingularityCheck x) s = .next t ∧ t.rxd.singularities = satInc 32 s.rxd.singularities ∧
         t.rxd.pmxTaps[(2 : Fin 8)] = reversedConjugate true s.rxd.pmxTaps[(1 : Fin 8)] ∧
         t.rxd.pmxTaps[(3 : Fin 8)] = reversedConjugate false s.rxd.pmxTaps[(0 : Fin 8)] ∧
         (∀ k : Fin 8, k.val % 4 < 2 → t.rxd.pmxTaps[k] = s.rxd.pmxTaps[k]) ∧
         t = { s.told t with rxd.singularities := t.rxd.singularities, rxd.pmxTaps := t.rxd.pmxTaps }) ∧
     (∀ first last unsat checks : Nat, s.rxInterop = false → s.deviceState < 2 → s.rxd.stage = .da →
       (∀ g : CodewordGroup, g.sync = false ∨ s.cod.returnBad = true ∨ s.cod.halted = true ∨ s.cod.sync = false →
         ∃ t, exec (.codewordGroup g first last unsat checks) s = .next t ∧ t.rxd.stage = .rde ∧ t.rxd.bad = 0 ∧ t.rxd.good = 0 ∧
           t.rxd.daFallbacks = satInc 32 s.rxd.daFallbacks ∧ t.rxd.pmxTaps = s.rxd.pmxTaps ∧
           t.rxd.pmxKept = (g.leaving :: s.rxd.pmxKept).take 65 ∧ t = { s.told t with rxd := t.rxd, cod.returnBad := false }) ∧
       (∀ g : CodewordGroup, g.sync = true → s.cod.halted = false → s.cod.sync = true → s.cod.returnBad = false →
         (s.spansChange first last = true →
           exec (.codewordGroup g first last unsat checks) s = .next (keepLeaving g.leaving s)) ∧
         (s.spansChange first last = false → 0 < checks →
           s.cfgN Param.pmxDaUnreliablePpm < roundFree (1000000 * unsat) checks → s.cfgN Param.pmxDaFallbackGroups ≤ s.rxd.bad + 1 →
           ∃ t, exec (.codewordGroup g first last unsat checks) s = .next t ∧ t.rxd.stage = .rde ∧
             t.rxd.daFallbacks = satInc 32 s.rxd.daFallbacks ∧ t.rxd.daSkipped = satInc 32 s.rxd.daSkipped ∧ t.rxd.bad = 0 ∧
             t.rxd.pmxTaps = s.rxd.pmxTaps ∧ t = { s.told t with rxd := t.rxd }) ∧
         (s.spansChange first last = false → checks = 0 ∨ roundFree (1000000 * unsat) checks ≤ s.cfgN Param.pmxDaUnreliablePpm →
           ∃ t, exec (.codewordGroup g first last unsat checks) s = .next t ∧ t.rxd.stage = .da ∧ t.rxd.bad = 0 ∧
             (∀ f : Fin 8, t.rxd.pmxTaps[f] = s.rxd.pmxTaps[f].zipIdx.map fun w =>
               Config.pmxUpdate 2 (s.cfg Param.pmxMuDaLog2) f.val w.2 w.1 ((keepLeaving g.leaving s).groupErrors g)) ∧
             t = { s with rxd := t.rxd }))) ∧
     (∀ residual : Int, 0 < residual → s.cfgB Param.cdeTrackEnable = true → s.rxd.rxState = .locked →
       (s.rxd.cdValue + 1 - s.rxd.cdAcquired).natAbs ≤ s.cfgN Param.cdeTrackLimitPsNm →
       ∃ t, exec (.cdTrack residual) s = .next t ∧ t.rxd.cdValue = s.rxd.cdValue + 1 ∧ t.rxd.cdAcquired = s.rxd.cdAcquired ∧
         t = { s.told t with rxd.cdValue := t.rxd.cdValue, rxd.trackAtLimit := t.rxd.trackAtLimit }) ∧
     (∃ t, exec .nleRampDone s = .next t ∧ t.rxd.nleRamping = false ∧ t.rxd.nleGated = !s.rxd.nle ∧
       t = { s with rxd := t.rxd, clk.gated := t.clk.gated, clk.gateWait := t.clk.gateWait }) ∧
     (∀ khz : Int,
       ∃ t, exec (.foNearLimit khz) s = .next t ∧ t.rxd.foKHz = s.coarseKHz + khz ∧ t.rxd.foNear = decide (7000000 < khz.natAbs) ∧
         (khz.natAbs ≤ 8000000 → t = { s.told t with rxd := t.rxd }) ∧
         (8000000 < khz.natAbs → t.rxd.freqLock = false ∧ t.rxd.phaseLock = false) ∧
         t = { s.told t with rxd := t.rxd, cod := t.cod, frm := t.frm, sec.channels := t.sec.channels }) ∧
     (∀ dgd : Nat, ∃ t, exec (.dgdLimit dgd) s = .next t ∧ t = { s.told t with rxd.dgd := min 65535 dgd })) ∧
  (∀ s : State,
     (∀ offset : Int, s.rxd.trcLocked = true →
       ∃ t, exec (.timingUnlock offset) s = .next t ∧ t.rxd.trcLocked = false ∧ t.rxd.trcUnlocks = satInc 32 s.rxd.trcUnlocks ∧
         t.rxd.stage = .frozen ∧ t.rxd.rxState = (if s.rxd.stored then .hold else .idle) ∧
         t = { s.told t with rxd := t.rxd, cod := t.cod, frm := t.frm, sec.channels := t.sec.channels, tim := t.tim }) ∧
     ((s.rxd.freqLock = true ∨ s.rxd.phaseLock = true) →
       ∃ t, exec .carrierUnlock s = .next t ∧ t.rxd.freqLock = false ∧ t.rxd.phaseLock = false ∧ t.rxd.stage = .frozen ∧
         t.rxd.rxState = (if s.rxd.stored then .hold else .idle) ∧
         t = { s.told t with rxd := t.rxd, cod := t.cod, frm := t.frm, sec.channels := t.sec.channels }) ∧
     (∀ power : Int, power < 50 * s.cfg Param.cdeLosThresholdDbfsX2 → s.rxd.los = false → s.lod.rxBeacon = false → s.deviceState < 2 →
       ∃ t, exec (.losWindow power) s = .next t ∧ t.rxd.los = true ∧ t.rxd.losAt = s.now ∧ t.rxd.stage = .frozen ∧
         t.rxd.rxState = (if s.rxd.stored then .hold else .idle) ∧
         t = { s.told t with rxd := t.rxd, cod := t.cod, frm := t.frm, sec.channels := t.sec.channels }) ∧
     (s.rxd.los = true → s.rxd.rxState = .hold → s.rxd.holdExpired = false →
       ∃ t, exec .losHoldExpire s = .next t ∧ t.rxd.holdExpired = true ∧ t.now = max s.now (s.rxd.losAt + s.cfgN Param.cdeLosHoldUs) ∧
         t = { s.later t with rxd.holdExpired := true }) ∧
     (s.rxd.rxState = .hold → s.rxd.holdExpired = true → s.signalPresent = true → s.rxd.exitP2 = false →
       ∃ t, exec .warmReacquire s = .next t ∧ t.rxd.rxState = .timing ∧ t.rxd.warmRun = true ∧ t.rxd.stage = .rde ∧
         t.rxd.cdValue = s.rxd.cdValue ∧ t = { s.told t with rxd := t.rxd, tim := t.tim }) ∧
     ((s.rxd.warmRun = true ∨ s.rxd.resumed = true) →
       ∃ t, exec .warmTimeout s = .next t ∧ t.rxd.rxState = .idle ∧ t.rxd.stored = false ∧ t.rxd.warmRun = false ∧ t.rxd.resumed = false ∧
         t.now = max s.now (s.rxd.stepAt + s.cfgN Param.cdeWarmTimeoutMs * 1000) ∧
         t = { s.later t with rxd := t.rxd, cod := t.cod, frm := t.frm, sec.channels := t.sec.channels, tim := t.tim }) ∧
     (∀ r : Request, Admitted s r → r.target = ⟨6, 0, 0⟩ →
       (r.payload = [1] ∨ (r.payload = [0] ∧ s.rxd.stored = false) →
         ∃ t, exec (.rxReacquire r) s = .next t ∧ t.rxd.stored = false ∧ t.rxd.sfLock = false ∧
           t.rxd.rxState = (if s.signalPresent = true ∧ (s.cfg Param.cdeCdMode ≠ 2 ∨ s.rxd.seedValid = true) then .freq else .idle) ∧
           t = { s.answered t with rxd := t.rxd, cod := t.cod, frm := t.frm, sec.channels := t.sec.channels, tim := t.tim }) ∧
       (r.payload = [0] → s.rxd.stored = true →
         ∃ t, exec (.rxReacquire r) s = .next t ∧ t.rxd.stored = true ∧ t.rxd.cdValue = s.rxd.cdValue ∧
           t.rxd.rxState = (if s.signalPresent = true then .timing else .hold) ∧ t.rxd.warmRun = s.signalPresent ∧
           t = { s.answered t with rxd := t.rxd, cod := t.cod, frm := t.frm, sec.channels := t.sec.channels, tim := t.tim })))

/-! ### TXD, commits and what lands on superframes -/

/-- The transmit count and what one superframe holds (R178, R193, R278): a superframe that holds nothing only counts; superframe s0 of a placed rate
change begins its announcement with the count-down; a change superframe ends an announced rate change and counts it; a placed activation takes effect
at its superframe, with slot, epoch and counter.

Received headers (R149, R179): with superframe lock, the first valid header sets the number and the values in use and remembers the change that it
announces; at its superframe the announced values come into use. -/
def Obligations.SuperframeHeaders : Prop :=
  (∀ s : State, s.txd.counting = true → s.coreOff = false → s.rxd.sfLock = true → s.mgt.commits = [] →
     (s.txd.pending = none → (∀ c : ChannelId, (s.channel c).pending = none) →
       ∃ t, exec .txSuperframe s = .next t ∧ t.txd.sf = s.txd.sf + 1 ∧ t.txd.countdown = 0 ∧
         t = { s with txd := t.txd, out := t.out }) ∧
     (∀ p : PendingRate, (∀ c : ChannelId, (s.channel c).pending = none) → s.txd.pending = some p → p.stage = .placed →
       s.txd.sf < p.s0 → p.s0 < p.change →
       ∃ t, exec .rateAnnounce s = .next t ∧ t.txd.sf = p.s0 ∧ t.txd.pending = some { p with stage := .announced } ∧
         t.txd.countdown = p.change - p.s0 ∧ t.txd.targetSf = p.change % 2 ^ 32 ∧ t = { s.told t with txd := t.txd }) ∧
     (∀ p : PendingRate, (∀ c : ChannelId, (s.channel c).pending = none) → s.txd.pending = some p → p.stage = .announced →
       s.txd.sf < p.change →
       ∃ t, exec .rateChange s = .next t ∧ t.txd.sf = p.change ∧ t.txd.pending = none ∧ t.txd.countdown = 0 ∧
         t.txd.accepted = (s.txd.accepted.filter fun a => decide (a.values ≠ p.values)) ∧ t.txd.changes = satInc 16 s.txd.changes ∧
         t = { s.told t with txd := t.txd, clk := t.clk, cnv := t.cnv, frm := t.frm, sec := t.sec, lod := t.lod, mon.chains := t.mon.chains,
                             hst.failing := t.hst.failing }) ∧
     (∀ (c : ChannelId) (p : KeyChange), s.txd.pending = none → (∀ d : ChannelId, d ≠ c → (s.channel d).pending = none) →
       (s.channel c).pending = some p → s.txd.sf < p.sf →
       ∃ t, exec (.keyChangeover c) s = .next t ∧ t.txd.sf = p.sf ∧ (t.channel c).pending = none ∧ (t.channel c).txSlot = p.slot ∧
         (t.channel c).txUsing = true ∧ (t.channel c).txCounter = 0 ∧
         (t.channel c).txEpoch = some (match (s.channel c).txEpoch with
           | none => 0
           | some e => e + 1) ∧
         (∀ d : ChannelId, d ≠ c → t.channel d = s.channel d) ∧
         t = { s.told t with txd := t.txd, sec.channels := t.sec.channels, mgt.waiting := t.mgt.waiting })) ∧
  (∀ s : State,
     (∀ (wa wb : Nat) (a : WordA) (b : WordB), s.deviceState < 2 → s.rxd.los = false → s.rxInterop = false → s.rxd.sfLock = true →
       s.rxd.adopted = false → WordA.ofNat wa = a → WordB.ofNat wb = b → a.version = 1 →
       ∃ t, exec (.superframeHeader true (some wa) (some wb)) s = .next t ∧ t.rxd.headers = s.rxd.headers + 1 ∧ t.rxd.missing = 0 ∧
         t.rxd.sf = a.sf ∧ t.rxd.entropy = a.entropy ∧ t.rxd.pilots = a.pilots ∧ t.frm.rxCapacity = a.capacity ∧ t.rxd.adopted = true ∧
         (a.pending = true → t.rxd.announced = some ⟨a.sf + b.countdown, ⟨b.nextCapacity, b.nextEntropy, b.nextPilots⟩⟩) ∧
         t = { s.told t with rxd := t.rxd, frm := t.frm, sec.channels := t.sec.channels }) ∧
     (∀ x : FormatChange, s.rxd.announced = some x → x.sf ≤ s.rxd.sf →
       ∃ t, exec .rxFormatChange s = .next t ∧ t.rxd.announced = none ∧ t.rxd.entropy = x.values.entropy ∧
         t.rxd.pilots = x.values.pilots ∧ t.frm.rxCapacity = x.values.capacity ∧
         t = { s.told t with rxd := t.rxd, cod.termDue := t.cod.termDue, frm := t.frm, sec.channels := t.sec.channels }))

/-- Negotiation of a rate change (R191 to R193, R196, R313): an accepted answer is kept until its hold ends; a refusal and no answer in time end the
negotiation with their result; a proposal of the identified partner is answered, one after the other; without an identified partner, both messages
count as protocol errors; an abort removes a change that has not reached s0. -/
def Obligations.RateNegotiation : Prop :=
  ∀ s : State,
    (∀ m : LodMessage, s.mgt.restarting = false → s.lod.inbox.find? (fun m => m.type == 0x21) = some m →
      (∀ p : Proposal, s.lod.identified = true → s.mgt.waiting = [] → s.txd.proposal = some p → u16At m.payload 0 = p.changeId →
        (byteAt m.payload 2 = 0 →
          ∃ t, exec .rateAnswerRx s = .next t ∧ t.txd.proposal = none ∧ t.txd.accepted = s.txd.accepted ++ [⟨p.changeId, p.values, s.now⟩] ∧
            t.txd.remoteResult = 0 ∧ t = { s with txd := t.txd, lod.inbox := s.lod.inbox.erase m }) ∧
        (byteAt m.payload 2 ≠ 0 →
          ∃ t, exec .rateAnswerRx s = .next t ∧ t.txd.proposal = none ∧ t.txd.accepted = s.txd.accepted ∧
            t.txd.remoteResult = byteAt m.payload 2 ∧ t.txd.rejects = satInc 16 s.txd.rejects ∧
            t = { s.told t with txd := t.txd, lod.inbox := s.lod.inbox.erase m })) ∧
      (s.lod.identified = false →
        ∃ t, exec .rateAnswerRx s = .next t ∧ t.lod.protoErrors = satInc 16 s.lod.protoErrors ∧
          t = { s.told t with lod.protoErrors := t.lod.protoErrors, lod.inbox := s.lod.inbox.erase m })) ∧
    (∀ m : LodMessage, s.mgt.restarting = false → s.lod.inbox.find? (fun m => m.type == 0x20) = some m →
      (s.lod.identified = true →
        ∃ t, exec .rateProposeRx s = .next t ∧ t.txd.localResult = proposalResult m.payload s ∧
          t.lod.answers = s.lod.answers ++ [m.payload.take 2 ++ leBytes 1 (proposalResult m.payload s) ++
            leBytes 1 (s.cfgN Param.dmpConstellation)] ∧
          t = { s.told t with txd.localResult := t.txd.localResult, lod.answers := t.lod.answers, lod.inbox := s.lod.inbox.erase m }) ∧
      (s.lod.identified = false →
        ∃ t, exec .rateProposeRx s = .next t ∧ t.lod.protoErrors = satInc 16 s.lod.protoErrors ∧
          t = { s.told t with lod.protoErrors := t.lod.protoErrors, lod.inbox := s.lod.inbox.erase m })) ∧
    (∀ p : Proposal, s.txd.proposal = some p → s.mgt.waiting = [] →
      ∃ t, exec .negotiateTimeout s = .next t ∧ t.txd.proposal = none ∧ t.txd.remoteResult = 0xFF ∧
        t.txd.rejects = satInc 16 s.txd.rejects ∧ t.now = max s.now (p.since + s.cfgN Param.shpNegotiateTimeoutMs * 1000) ∧
        t = { s.later t with txd := t.txd }) ∧
    (∀ (a : Accepted) (rest : List Accepted), s.txd.accepted = a :: rest →
      exec .rateHoldExpire s = .next { s.reach (a.since + s.cfgN Param.shpRateHoldMs * 1000) with txd.accepted := rest }) ∧
    (∀ (r : Request) (p : PendingRate), Admitted s r → r.target = ⟨7, 0, 0⟩ → r.payload = [] → s.txd.pending = some p →
      (p.stage = .resizingDown ∨ p.stage = .placed) → (∀ c ∈ s.mgt.commits, c.id = p.commit → c.landedInPart = false) →
      ∃ t, exec (.rateAbort r) s = .next t ∧ t.txd.pending = none ∧ t.txd.countdown = 0 ∧ t.commit p.commit = none ∧
        (∀ x ∈ t.txd.reserved, x.holder ≠ .rate) ∧
        t = { s.answered t with mgt.commits := t.mgt.commits, txd := t.txd, frm.resizes := t.frm.resizes, frm.resized := t.frm.resized })

/-- Pre-distortion (R182, R200, R201): the ramp ends; clipped samples are counted, and reading the count clears it.

Coefficient lists (R163, R199, R200): a load puts its records at the end of the seat's slate, and changes nothing else but the answer; a read returns
the running list from the index asked. -/
def Obligations.SignalCoefficients : Prop :=
  (∀ s : State,
     exec .dpdRampDone s = .next { s with txd.dpdRamping := false } ∧
     (∀ i : SeatId, Reads s ⟨7, 3, 0⟩ →
       exec (.dpdClipCountRead i) s = .next (readReturns i s.txd.dpdClips { s with txd.dpdClips := 0 })) ∧
     (∀ clipped total : Nat, ∃ t, exec (.outputClipCheck clipped total) s = .next t ∧
       t = { s.told t with txd.dpdClips := satInc 32 s.txd.dpdClips clipped })) ∧
  (∀ (s : State) (r : Request), Admitted s r →
     (r.target = ⟨6, 2, 0⟩ → r.payload.length % 12 = 0 → 12 ≤ r.payload.length → r.payload.length ≤ 996 →
       (s.seat r.seat).nleSlate.length + r.payload.length / 12 ≤ 256 →
       ∃ t, exec (.nleCoefLoad r) s = .next t ∧
         t = (s.answered t).onSeat r.seat fun q => { q with nleSlate := q.nleSlate ++ (records 12 r.payload).map NleTriplet.ofBytes }) ∧
     (r.target = ⟨6, 2, 0⟩ → r.payload.length = 2 →
       ∃ t, exec (.nleCoefRead r) s = .next t ∧ t.rxd.draws = s.rxd.draws + bit s.rxd.nleAdapting ∧
         t = { respond r (okWith (((s.readTriplets.drop (u16At r.payload 0)).take 83).flatMap NleTriplet.bytes)) (takeRequest r s) with
           rxd.draws := t.rxd.draws }) ∧
     (r.target = ⟨7, 3, 0⟩ → r.payload.length % 8 = 0 → 8 ≤ r.payload.length → r.payload.length ≤ 768 →
       (records 8 r.payload).all dpdRecordOk = true →
       ∃ t, exec (.dpdCoefLoad r) s = .next t ∧
         t = (s.answered t).onSeat r.seat fun q => { q with dpdSlate := withDpd q.dpdSlate ((records 8 r.payload).map DpdCoef.ofBytes) }) ∧
     (r.target = ⟨7, 3, 0⟩ → r.payload = [] →
       ∃ p, exec (.dpdCoefRead r) s = .next (respond r (okWith p) (takeRequest r s)) ∧ p.length = 768))

/-- Commit requests (R67 to R69): a check reports the category, the interruption and the targets, and changes nothing else; an apply of slates that
change nothing empties them; an apply whose quoted category is right puts its commit in progress. -/
def Obligations.CommitRequests : Prop :=
  ∀ (s : State) (r : Request) (targets : List Path) (all ch : SlateSet) (e : Evaluation), Served s r → r.target = ⟨0, 4, 0⟩ →
    (s.seat r.seat).slateTargets = targets → (targets.any fun p => !p.isTarget) = false →
    targets.any s.resetRequired = false → (targets.find? fun p => !s.owns r.seat p) = none →
    (s.seat r.seat).slatesFor targets = all → all.empty = false → s.withStored.changes all = ch →
    (ch.empty = true →
      (r.payload = [] →
        exec (.commitCheck r) s = .next (respond r (okWith (checkPayload ⟨0, 0, false, false⟩ [])) (takeRequest r s))) ∧
      (r.payload = leBytes 4 0 →
        ∃ t, exec (.commitApply r) s = .next t ∧ t = (s.answered t).onSeat r.seat fun q => q.clearApplied all)) ∧
    (ch.empty = false → firstUnowned s r.seat targets ch.recs = none →
      (s.txd.pending = none ∨ touchesPair ch.recs 1 = false) → commitRefusal all.recs ch.recs (takeRequest r s).withStored = none →
      evaluate ch false (takeRequest r s).withStored = e → e.undecided = false →
      (r.payload = [] → exec (.commitCheck r) s = .next (respond r (okWith (checkPayload e ch.targets)) (takeRequest r s))) ∧
      (r.payload = leBytes 4 e.category → e.category ≤ 2 →
        exec (.commitApply r) s = .next (launch r targets all ch e (takeRequest r s))))

/-- Activation of a key (R278): the changeover is placed on the first superframe from the earliest one on that nothing holds, and the
request waits for it; nothing else changes.

The arbiter (R186): the superframe that it gives is the first one from the earliest on that nothing holds; no reservation moves. -/
def Obligations.KeyPlacement : Prop :=
  (∀ (s : State) (r : Request) (i : Fin 128), Admitted s r → r.target = ⟨10, 1, i.val⟩ → r.payload = leBytes 8 0 → s.cipherFused = false →
     (s.slot i).usable = true → s.txUse i = false → (s.channel (slotChannel i)).pending = none →
     (s.channel (slotChannel i)).txEpoch ≠ some 0xFFFFFF → s.rxd.sfLock = true →
     ∃ t, exec (.keyActivate r) s = .next t ∧
       (t.channel (slotChannel i)).pending = some ⟨slotBit i, freeSlot s.txd.reserved s.nextTx, freeSlot s.txd.reserved s.nextTx - s.nextTx⟩ ∧
       t.txd.reserved = s.txd.reserved ++ [⟨freeSlot s.txd.reserved s.nextTx, .key (slotChannel i).val⟩] ∧
       t.mgt.waiting = s.mgt.waiting ++ [.keyActivate r (slotChannel i).val] ∧
       t = { s.answered t with sec.channels := t.sec.channels, txd.reserved := t.txd.reserved, mgt.waiting := t.mgt.waiting }) ∧
  (∀ (s : State) (h : Holder) (earliest : Nat),
     let slot := (reserveTx h earliest s).1
     earliest ≤ slot ∧ isReserved s.txd.reserved slot = false ∧
       (∀ n, earliest ≤ n → n < slot → isReserved s.txd.reserved n = true) ∧
       (reserveTx h earliest s).2 = { s with txd.reserved := s.txd.reserved ++ [⟨slot, h⟩] })

/-- Resizes and calendars (R249, R372): an answered first step leads to the second; an unanswered one fails the resize; the two steps of a
resize that the partner starts give the client its new size (the model's reading of how `MAP` follows, log entry 105); an acknowledged group
switches its calendar; without acknowledgement the mismatch is shown. -/
def Obligations.ResizesAndCalendars : Prop :=
  ∀ s : State,
    (∀ (x : Resize) (rest : List Resize), s.frm.resizes = x :: rest → x.step = 0 →
      exec (.oduflexResizeStep (.answer true)) s = .next { s with frm.resizes := { x with step := 1, since := s.now } :: rest }) ∧
    (∀ (c : Fin 64) (units : Nat), s.rxInterop = false → s.deviceState < 2 → s.canFollow c.val units = true →
      (s.frm.following ≠ some ⟨c.val, units⟩ →
        exec (.oduflexResizeStep (.partner c units true)) s = .next { s with
          frm.following := some ⟨c.val, units⟩, frm.resizeClient := c.val, frm.resizeTarget := units }) ∧
      (s.frm.following = some ⟨c.val, units⟩ →
        ∃ t, exec (.oduflexResizeStep (.partner c units true)) s = .next t ∧ t.unitsOf c.val = units ∧ t.frm.following = none ∧
          t.frm.resizeFail = false ∧ t = s.acted t)) ∧
    (∀ (x : Resize) (rest : List Resize), s.frm.resizes = x :: rest →
      ∃ t, exec .resizeTimeout s = .next t ∧ t.frm.resizeFail = true ∧ t.now = max s.now (x.since + 100000) ∧
        t = { s.acted t with now := t.now, hst := t.hst }) ∧
    (∀ (c : Commit) (g : Fin 4) (gs : List Nat), s.switchingCommit = some c → c.plan = [.calendar gs] → s.hst.groups[g].switching = true →
      ∃ t, exec (.flexeCalAck g) s = .next t ∧ t.hst.groups[g].switching = false ∧ t.hst.groups[g].calB = !s.hst.groups[g].calB ∧
        t.hst.switches = satInc 32 s.hst.switches ∧ t = { s.acted t with hst := t.hst, mgt.seats := t.mgt.seats }) ∧
    (∀ (c : Commit) (g : Fin 4), s.switchingCommit = some c → s.hst.groups[g].switching = true →
      ∃ t, exec .flexeCalTimeout s = .next t ∧ t.hst.groups[g].calMismatch = true ∧ t.now = max s.now (s.hst.calAt + 10000) ∧
        t = { s.acted t with now := t.now, hst := t.hst })

/-- A commit boundary (R22, R69): a slate of one value that waits for the boundary of its target takes effect there, in full, and the commit
is over. -/
def Obligations.CommitBoundaryLands : Prop :=
  ∀ (s : State) (c : Commit) (q : CommitPart) (k : Nat) (v : Int), s.txd.counting = true → s.coreOff = false → s.rxd.sfLock = true →
    s.txd.pending = none → (∀ d : ChannelId, (s.channel d).pending = none) → s.frm.resized = [] → s.frm.resizes = [] →
    s.mgt.commits = [c] → c.plan = [.land] → c.landing = true → c.rate = false → c.nle = [] → c.dpd = [] → c.recs = [(k, v)] →
    c.parts = [q] → q.done = false → q.onTx = true → s.txd.sf < q.due → keyCrosses k = true → keyPath k = q.path → keyDirs k = [q.dir] →
    ∃ t, exec (.commitBoundary q.path q.dir) s = .next t ∧ t.valueOf k = v ∧ t.mgt.commits = [] ∧ t.txd.sf = q.due ∧
      t = s.landed t

/-! ### COD -/

/-- The decoder's reports (R212, R214, R215, R219, R221, R222, R226): a block decoded under sync is counted, with the labels of Table 6.4, and
delivered on both outputs; the sixteenth good block in a row gives sync at the candidate phase; a parity error is counted; an estimate above the fail
threshold sets the fail indication; an aligned frame of `IFD` counts towards lock.

FEC requests and tests (R213, R216, R229, R230, R233): a resync drops sync and starts a new search; an injection runs at the rate and for the
time asked, and ends with it, or with rate 0; a self-test that is due leaves exactly the failed clusters degraded, and COD released where no other
part fails; without a test due nothing changes. -/
def Obligations.FecReports : Prop :=
  (∀ s : State, s.decoding = true →
     (∀ b : BlockResult, s.rxInterop = false → s.cod.halted = false → s.cod.sync = true → (b.termination = true → s.cod.termDue = true) →
       ∃ t, exec (.blockDecoded b) s = .next t ∧
         t.cod.ctr.bits = (s.cod.ctr.bits + if b.termination then 0 else (blockLabels s.rxd.constellation).1) % 2 ^ 64 ∧
         t.cod.ctr.corr = (s.cod.ctr.corr + if b.termination then 0 else b.errors) % 2 ^ 64 ∧
         t.cod.ctr.blocks = (s.cod.ctr.blocks + bit (!b.termination)) % 2 ^ 64 ∧
         ∀ run : Nat × Bool, run = iterationsOf b s.effectiveCap (s.cfgB Param.bdeEarlyStop) →
           t.cod.ctr.iter = (s.cod.ctr.iter + run.1) % 2 ^ 64 ∧ t.cod.ctr.capped = (s.cod.ctr.capped + bit (!run.2)) % 2 ^ 64 ∧
             ∀ u : Bool, u = (s.cod.blockBad || (!run.2 && decide (3 < b.outerErrors))) →
               t.cod.ctr.uncorr = (s.cod.ctr.uncorr + bit u) % 2 ^ 64 ∧
                 (s.boundaryHeld = false → (Output.block false u) ∈ t.out ∧ (Output.block true u) ∈ t.out) ∧
                 t = { s.told t with cod := t.cod, rxd := t.rxd, frm := t.frm, sec.channels := t.sec.channels }) ∧
     (∀ b : BlockResult, s.rxInterop = false → s.cod.halted = false → s.cod.sync = false → s.rxd.rxState = .decode →
       b.unsatPpm ≤ s.cfgN Param.bdeSyncPpm → s.cod.goodBlocks = 15 →
       ∃ t, exec (.blockDecoded b) s = .next t ∧ t.cod.sync = true ∧ t.cod.phase = s.cod.candidate ∧ t.cod.fail = false ∧
         t = { s.told t with cod := t.cod, rxd := t.rxd, frm := t.frm, sec.channels := t.sec.channels }) ∧
     (∀ c : Fin 16, s.rxInterop = false →
       ∃ t, exec (.parityError c) s = .next t ∧ t.cod.parityErrs = satInc 32 s.cod.parityErrs ∧
         t = { s.told t with cod := t.cod, frm := t.frm, sec.channels := t.sec.channels }) ∧
     (∀ v : Nat, s.failThreshold < v → s.rxInterop = false →
       ∃ t, exec (.fastBerWindow v) s = .next t ∧ t.cod.fail = true ∧ t.cod.fastBer = v % 2 ^ 32 ∧
         t = { s.told t with cod := t.cod }) ∧
     (∀ n c : Nat, s.rxInterop = true → s.cod.frameLock = true →
       ∃ t, exec (.ifdFrame true n c 0) s = .next t ∧ t.cod.hits = s.cod.hits + 1 ∧ t.cod.misses = 0 ∧
         t.cod.ifdCtr.bits = (s.cod.ifdCtr.bits + n) % 2 ^ 64 ∧ t.cod.ifdCtr.corr = (s.cod.ifdCtr.corr + c) % 2 ^ 64 ∧
         t = { s with cod := t.cod })) ∧
  (∀ s : State,
     (∀ r : Request, Admitted s r → r.payload = [] →
       (r.target = ⟨8, 1, 0⟩ → s.rxInterop = false →
         ∃ t, exec (.fecResync r) s = .next t ∧ t.cod.sync = false ∧ t.cod.candidate = 0 ∧ t.cod.goodBlocks = 0 ∧
           t = { s.answered t with cod := t.cod, frm := t.frm, sec.channels := t.sec.channels }) ∧
       (r.target = ⟨8, 3, 0⟩ → s.rxInterop = true →
         ∃ t, exec (.fecResync r) s = .next t ∧ t.cod.frameLock = false ∧ t.cod.hits = 0 ∧ t.cod.misses = 0 ∧
           t = { s.answered t with cod := t.cod, frm := t.frm, sec.channels := t.sec.channels })) ∧
     (∀ (r : Request) (rate ms : Nat) (i : Injection), Admitted s r → 1000 ≤ rate → rate ≤ 100000000 → 1 ≤ ms → ms ≤ 3600000 →
       r.payload = leBytes 4 rate ++ leBytes 4 ms → i = { ratePpb := rate, since := s.now, until_ := s.now + ms * 1000 } →
       (r.target = ⟨8, 0, 0⟩ → s.txInterop = false →
         ∃ t, exec (.fecInject r) s = .next t ∧ t.cod.benInject = some i ∧ t.cod.ifeInject = s.cod.ifeInject ∧
           t = { s.answered t with cod := t.cod }) ∧
       (r.target = ⟨8, 2, 0⟩ → s.txInterop = true →
         ∃ t, exec (.fecInject r) s = .next t ∧ t.cod.ifeInject = some i ∧ t.cod.benInject = s.cod.benInject ∧
           t = { s.answered t with cod := t.cod })) ∧
     (∀ (r : Request) (ms : Nat), Admitted s r → r.target = ⟨8, 0, 0⟩ → s.txInterop = false → 1 ≤ ms → ms ≤ 3600000 →
       r.payload = leBytes 4 0 ++ leBytes 4 ms → ∃ t, exec (.fecInject r) s = .next t ∧ t.cod.benInject = none ∧
         t = { s.answered t with cod := t.cod }) ∧
     (∀ i : Injection,
       (s.cod.benInject = some i → ∃ t, exec (.injectEnd false) s = .next t ∧ t.cod.benInject = none ∧ t.now = max s.now i.until_ ∧
         t = { s.later t with cod := t.cod }) ∧
       (s.cod.ifeInject = some i → ∃ t, exec (.injectEnd true) s = .next t ∧ t.cod.ifeInject = none ∧ t.now = max s.now i.until_ ∧
         t = { s.later t with cod.ifeInject := none })) ∧
     (∀ (bad : BitVec 16) (part : Option CodPart),
       (s.cod.testing = none → exec (.codSelftest bad part) s = .next s) ∧
       (s.cod.testing = some true →
         ∃ t, exec (.codSelftest bad part) s = .next t ∧ t.cod.degraded = bad ∧ t.cod.released = part.isNone ∧ t.cod.testing = none ∧
           t = { s.told t with cod := t.cod, txd.released := t.txd.released, lod.mode := t.lod.mode, frm := t.frm, mgt.seq := t.mgt.seq,
                               sec.channels := t.sec.channels }) ∧
       (s.cod.testing = some false →
         ∃ t, exec (.codSelftest bad part) s = .next t ∧ t.cod.degraded = bad ∧ t.cod.released = s.cod.released ∧
           t.cod.testing = none ∧
           t = { s.told t with cod := t.cod, txd.released := t.txd.released, lod.mode := t.lod.mode, frm := t.frm, mgt.seq := t.mgt.seq,
                               sec.channels := t.sec.channels })))

/-! ### FRM -/

/-- The line frame (R243, R244, R257): a good frame in or on the way into frame is counted and its overhead taken; five bad alignment words in a
row put it out of frame; after the two persistence times `LOF` sets with its count, and clears; the replacement of a client ends when its
hold does.

GCC channels (R258, R259): the content of a good received frame enters its queue with its length before its bytes; a bad frame is only counted; the
first packet of a transmit queue is sent as one frame, with flags, stuffing and FCS; an empty queue sends a flag. -/
def Obligations.FrameAndChannels : Prop :=
  (∀ s : State, s.deviceState < 2 →
     (∀ (f : OtucFrame) (here : List SliceOverhead), s.rxInterop = false → f.fasOk = true → f.slices.take (presentSlices s.rxC) = here →
       (∀ x ∈ here, x.mfasDiffers = false) → (s.frm.oof = true → 1 ≤ s.frm.fasGood) →
       ∃ t, exec (.rxOtucFrame f) s = .next t ∧ t.frm.oof = false ∧
         t.frm.smBip = (s.frm.smBip + (here.map SliceOverhead.smBip).sum) % 2 ^ 64 ∧ t.frm.pmBip = (s.frm.pmBip + f.pmBip) % 2 ^ 64 ∧
         t.frm.smBei = satInc 32 s.frm.smBei (here.map SliceOverhead.bei).sum ∧ t.frm.sentBei = here.map SliceOverhead.smBip ∧
         t.frm.bdi = f.bdi ∧ t.frm.maint = f.maint ∧ t.frm.ptBad = !f.payloadTypeOk ∧
         (∀ v, f.smTti = some v → t.frm.smTti = vmap v BitVec.toNat) ∧ (∀ v, f.pmTti = some v → t.frm.pmTti = vmap v BitVec.toNat) ∧
         t = { s.told t with frm := t.frm, sec.channels := t.sec.channels }) ∧
     (∀ f : OtucFrame, s.rxInterop = false → f.fasOk = false → s.frm.oof = false → 4 ≤ s.frm.fasBad →
       ∃ t, exec (.rxOtucFrame f) s = .next t ∧ t.frm.oof = true ∧ t.frm.oofSince = s.now ∧ t.frm.smBip = s.frm.smBip ∧
         t = { s.told t with frm := t.frm, sec.channels := t.sec.channels }) ∧
     (s.frm.oof = true → s.frm.lof = false → s.rxInterop = false →
       ∃ t, exec .lofDeclare s = .next t ∧ t.frm.lof = true ∧ t.frm.lofCount = satInc 32 s.frm.lofCount ∧
         t.now = max s.now (s.frm.oofSince + 3000) ∧ t = { s.later t with frm := t.frm, sec.channels := t.sec.channels }) ∧
     (s.frm.oof = false → s.frm.lof = true →
       ∃ t, exec .lofClear s = .next t ∧ t.frm.lof = false ∧ t.frm.lofCount = s.frm.lofCount ∧
         t.now = max s.now (s.frm.inSince + 3000) ∧ t = { s.later t with frm := t.frm, sec.channels := t.sec.channels }) ∧
     (∀ (c : Fin 64) (x : Nat), s.frm.clients[c].clearSince = some x → s.frm.clients[c].replacing = true → s.clientCause c.val = false →
       ∃ t, exec (.restoreHoldExpire c) s = .next t ∧
         t.frm.clients[c] = { s.frm.clients[c] with replacing := false, clearSince := none } ∧
         (∀ d : Fin 64, d ≠ c → t.frm.clients[d] = s.frm.clients[d]) ∧
         t.now = max s.now (x + s.cfgN Param.mapRestoreHoldMs * 1000) ∧ t = { s.later t with frm := t.frm })) ∧
  (∀ (s : State) (ch : Fin 3), (∀ w, s.mem.flipsOf 0 w = 0) →
     (∀ received : List Byte, s.gccOn ch s.rxInterop = true →
       (∀ bytes : List Byte, hdlcContent received = some bytes → s.mem.queues[gccRxQueue ch].dropping = false →
         (countedPacket bytes).length + s.mem.queues[gccRxQueue ch].count ≤ s.queueCapacity (gccRxQueue ch) →
         ∃ t, exec (.gccRxFrame ch received) s = .next t ∧
           t.mem.queues[gccRxQueue ch].words = s.mem.queues[gccRxQueue ch].words ++ packetWords (countedPacket bytes) ∧
           t = s.queueMoved (gccRxQueue ch) t) ∧
       (hdlcContent received = none → exec (.gccRxFrame ch received) s = .next { s with frm.gccBad := satInc 32 s.frm.gccBad })) ∧
     (s.gccOn ch s.txInterop = true →
       (∀ (n : Nat) (bs : List Byte), s.mem.queues[gccTxQueue ch].packetLength = some n →
         countedBytes ((s.mem.queues[gccTxQueue ch].words.take n).map SpqWord.data) 1 1536 = some bs →
         ∃ t, exec (.gccTxPacket ch) s = .next t ∧ t.mem.queues[gccTxQueue ch].words = s.mem.queues[gccTxQueue ch].words.drop n ∧
           t.out.getLast? = some (.gcc ch.val (hdlcFrame bs)) ∧ t = s.queueMoved (gccTxQueue ch) t) ∧
       (s.mem.queues[gccTxQueue ch].packetLength = none → exec (.gccTxPacket ch) s = .next (s.send (.gcc ch.val [0x7E])))))

/-! ### SEC -/

/-- Key slots (R276, R280): a good load begins with the staged key, which is zeroed, and shows 7 until it is done; a load to a slot in use is
refused with 3; when it is done the slot holds the key and its check value; an error of the key store marks the slot and shows 6; a zeroised
slot holds nothing and is used for nothing. No other slot changes.

Cipher segments (R268 to R275, R279, R286): with a usable key the frames of a segment are sent enciphered under slot, epoch and counter in force, with
the tag of the one before, and the counter goes on; without one they are sent as zeros. A received segment is read; the one before it is due for a
verdict where the receiver decrypted it; and where the key parity changes by one epoch the receiver goes to the other slot if that holds a key. -/
def Obligations.KeysAndSegments : Prop :=
  (∀ (s : State) (i : SeatId) (k : Fin 128) (v : Word),
     ((s.seat i).quarantined = false → s.resetRequired ⟨10, 1, 0⟩ = false → s.gateClosed ⟨10, 1, 0⟩ = false → s.cipherFused = false → s.owns i (slotPath k) = true →
       v.toNat % 128 = k.val →
       (s.slotInUse k = false → (s.slot k).loading = none →
         v.toNat / 2 ^ 16 = crc32c ((s.seat i).keyStage.toList.flatMap fun w => leBytes 4 w.toNat) % 65536 →
         ∃ t, exec (.keyLoad i v) s = .next t ∧ t.slot k = { s.slot k with loading := some ⟨i, (s.seat i).keyStage, s.now⟩ } ∧
           (∀ j, j ≠ k → t.slot j = s.slot j) ∧
           t.seat i = { s.seat i with keyStage := Vector.replicate 8 0, keyResult := 7 } ∧ (∀ j, j ≠ i → t.seat j = s.seat j) ∧
           t = { s with mgt.seats := t.mgt.seats, sec.slots := t.sec.slots }) ∧
       (s.slotInUse k = true →
         ∃ t, exec (.keyLoad i v) s = .next t ∧ (t.seat i).keyResult = 3 ∧ (t.seat i).keyStage = Vector.replicate 8 0 ∧
           t = { s.told t with mgt.seats := t.mgt.seats })) ∧
     (∀ l : KeyLoading, (s.slot k).loading = some l →
       (∃ t, exec (.keyLoadDone k true) s = .next t ∧
         t.slot k = { loaded := true, key := l.key, kcv := keyCheckValue l.key } ∧ (∀ j, j ≠ k → t.slot j = s.slot j) ∧
         (t.seat l.seat).keyResult = 1 ∧ t = { s.told t with mgt.seats := t.mgt.seats, sec.slots := t.sec.slots }) ∧
       (∃ t, exec (.keyLoadDone k false) s = .next t ∧
         t.slot k = { s.slot k with fault := true, loading := none } ∧ (∀ j, j ≠ k → t.slot j = s.slot j) ∧
         (t.seat l.seat).keyResult = 6 ∧ t = { s.told t with mgt.seats := t.mgt.seats, sec := t.sec, frm := t.frm })) ∧
     (∀ r : Request, Admitted s r → r.target = slotPath k → r.payload = [0] → s.cipherFused = false →
       ∃ t, exec (.keyZeroise r) s = .next t ∧ t.slot k = {} ∧ t.slotInUse k = false ∧ (∀ j, j ≠ k → t.slot j = s.slot j) ∧
         t = { s.answered t with mgt.seats := t.mgt.seats, mgt.waiting := t.mgt.waiting, sec := t.sec, frm := t.frm,
                                 txd.reserved := t.txd.reserved })) ∧
  (∀ (s : State) (c : ChannelId),
     (∀ (frames : List OduFrame) (x : List OduFrame × Nat × List (List Byte)) (suspensions : List Nat), s.encrypted .tx c = true →
       s.carried .tx c < 64 → s.cipherPower .tx c < 2 →
       (s.sec.released = true → s.txKey c = true → s.sentSegment c true (s.segmentFrames c frames) = x →
         ∃ t, exec (.txSegment c frames suspensions) s = .next t ∧
           t.channel c = { s.channel c with txCounter := ((s.channel c).txCounter + 1) % 2 ^ 64, txTag := some x.2.1, txNoKey := false,
                                            txBips := x.2.2 } ∧
           t.out = s.out ++ [.segment c.val x.1] ∧ (∀ d, d ≠ c → t.channel d = s.channel d) ∧
           t = { s with sec.channels := t.sec.channels, sec.preemptions := t.sec.preemptions, sec.contexts := t.sec.contexts, out := t.out }) ∧
       (s.sec.released = false ∨ s.txKey c = false → s.sentSegment c false (s.segmentFrames c frames) = x →
         ∃ t, exec (.txSegment c frames suspensions) s = .next t ∧ (t.channel c).txTag = none ∧ (t.channel c).txNoKey = true ∧
           (payloadBytes x.1).all (· == 0) = true ∧ ((s.channel c).txNoKey = true → t.out = s.out ++ [.segment c.val x.1]) ∧
           (∀ d, d ≠ c → t.channel d = s.channel d) ∧ t = { s.told t with sec.channels := t.sec.channels })) ∧
     (∀ (frames : List OduFrame) (suspensions : List Nat) (control : Byte) (e n tag e0 : Nat), s.encrypted .rx c = true →
       s.carried .rx c < 64 → s.cipherPower .rx c < 2 → s.decoderLocked = true → s.frm.lof = false → (s.channel c).rxEpoch = some e0 →
       readSegment frames = ⟨control, some (e, n, tag)⟩ → control.getLsbD 0 = true → control.getLsbD 4 = true →
       (decide (e0 % 2 = 1) = control.getLsbD 2 →
         ∃ t, exec (.rxSegmentStart c frames suspensions) s = .next t ∧ (t.channel c).rxRead = true ∧
           (t.channel c).rxCounter = n ∧ (t.channel c).rxEpoch = some e0 ∧
           (t.channel c).rxSync = ((s.channel c).rxRead && s.sec.released) ∧ (t.channel c).rxSilent = control.getLsbD 5 ∧
           (t.channel c).due = (if (s.channel c).rxRuns = true ∧ s.rxKey c = true ∧ s.cipherPower .rx c = 0 then
             some ⟨(s.channel c).rxCounter, (s.channel c).rxDoubt || !(s.channel c).rxRead || !control.getLsbD 1, (s.channel c).rxTag, tag⟩
             else none) ∧
           (∀ d, d ≠ c → t.channel d = s.channel d ∨ t.channel d = (s.channel d).resync) ∧
           t = { s.told t with sec.channels := t.sec.channels, sec.preemptions := t.sec.preemptions, sec.contexts := t.sec.contexts,
                               frm := t.frm }) ∧
       (decide (e0 % 2 = 1) ≠ control.getLsbD 2 → e = e0 + 1 → (s.slot (slotOf c !(s.channel c).rxSlot)).usable = true →
         ∃ t, exec (.rxSegmentStart c frames suspensions) s = .next t ∧ (t.channel c).rxSlot = !(s.channel c).rxSlot ∧
           (t.channel c).rxUsing = true ∧ (t.channel c).rxEpoch = some (e0 + 1) ∧ (t.channel c).rxCounter = n ∧
           (∀ d, d ≠ c → t.channel d = s.channel d ∨ t.channel d = (s.channel d).resync) ∧
           t = { s.told t with sec.channels := t.sec.channels, sec.preemptions := t.sec.preemptions, sec.contexts := t.sec.contexts,
                               frm := t.frm, txd.rxReserved := t.txd.rxReserved })))

/-- Verdicts (R286, R287): every segment judged counts; one in doubt is only unverified; a tag that is the one computed ends the run of
fails; another is a fail, which counts, and with policy 2 and as many fails in a row as the limit says the client is replaced.

The cipher self-test (R285): SEC is released with the cores that pass, 22 at the least; with fewer, or with the other tests failed, it is
not, and at the end of start-up the sequencer reports it. -/
def Obligations.CipherVerdicts : Prop :=
  (∀ (s : State) (c : ChannelId) (d : DueVerdict), (s.channel c).due = some d →
     (d.doubt = true →
       ∃ t, exec (.tagVerdict c) s = .next t ∧
         t.channel c = { s.channel c with due := none, segments := ((s.channel c).segments + 1) % 2 ^ 64,
                                          unverified := satInc 16 (s.channel c).unverified } ∧
         t = { s with sec.channels := t.sec.channels }) ∧
     (d.doubt = false → d.received = d.computed →
       ∃ t, exec (.tagVerdict c) s = .next t ∧ (t.channel c).consec = 0 ∧ (t.channel c).passRun = (s.channel c).passRun + 1 ∧
         (t.channel c).segments = ((s.channel c).segments + 1) % 2 ^ 64 ∧ (t.channel c).authFails = (s.channel c).authFails ∧
         (s.cfgN Param.cipAuthPassCount c.val ≤ (s.channel c).passRun + 1 →
           (t.channel c).authDefect = false ∧ (t.channel c).policyReplaces = false) ∧
         t = { s.told t with sec.channels := t.sec.channels, frm := t.frm }) ∧
     (d.doubt = false → d.received ≠ d.computed →
       ∃ t, exec (.tagVerdict c) s = .next t ∧ (t.channel c).authFails = satInc 32 (s.channel c).authFails ∧
         (t.channel c).consec = satInc 16 (s.channel c).consec ∧ (t.channel c).passRun = 0 ∧
         (t.channel c).segments = ((s.channel c).segments + 1) % 2 ^ 64 ∧
         (s.cfgN Param.cipAuthPolicy c.val = 2 → s.cfgN Param.cipAuthFailCount c.val ≤ satInc 16 (s.channel c).consec →
           (t.channel c).authDefect = true ∧ (t.channel c).policyReplaces = true) ∧
         t = { s.told t with sec.channels := t.sec.channels, frm := t.frm })) ∧
  (∀ (s : State) (failed : BitVec 32), s.cipherFused = false → s.sec.released = false → s.sec.selftestFail = false →
     (((List.range 32).filter fun i => failed.getLsbD i).length ≤ 10 →
       ∃ t, exec (.secSelftest failed true) s = .next t ∧ t.sec.released = true ∧ t.sec.selftestFail = false ∧
         t.sec.cores = 32 - ((List.range 32).filter fun i => failed.getLsbD i).length ∧ t.sec.channels = s.sec.channels ∧
         t.sec.slots = s.sec.slots ∧ t = { s.told t with sec := t.sec }) ∧
     (∀ ok : Bool, 10 < ((List.range 32).filter fun i => failed.getLsbD i).length ∨ ok = false →
       ∃ t, exec (.secSelftest failed ok) s = .next t ∧ t.sec.released = false ∧ t.sec.selftestFail = true ∧
         t.mgt.seq.fault = (s.mgt.seq.fault || decide (s.mgt.seq.step = 8)) ∧
         t = { s.told t with sec := t.sec, mgt.seq := t.mgt.seq }))

/-! ### LOD -/

/-- Lodestone transmission (R299, R300, R302, R314): an `IDENTITY` falls due an interval after the last one; a packet of queue 6 waits for a
slot; at a free slot the first that waits is sent as its chirps: an answer, else a proposal, else an `IDENTITY` that is due, else a
host-opaque message; and the sequence number goes on; a request makes an `IDENTITY` due. -/
def Obligations.LodestoneTransmission : Prop :=
  ∀ s : State,
    (s.lodMode = 2 → s.lod.identityDue = false →
      ∃ t, exec .identityDue s = .next t ∧ t.lod = { s.lod with identityDue := true } ∧
        t.now = max s.now (s.lod.identityAt + s.cfgN Param.lmsIdentityIntervalMs * 1000) ∧ t = { s.later t with lod := t.lod }) ∧
    (∀ (n : Nat) (m : LodMessage), (∀ w, s.mem.flipsOf 0 w = 0) → s.mgt.restarting = false →
      s.mem.queues[(6 : Fin 24)].packetLength = some n → opaqueOf ((s.mem.queues[(6 : Fin 24)].words.take n).map SpqWord.data) = some m →
      ∃ t, exec .lodTxPacket s = .next t ∧ t.lod.opaques = s.lod.opaques ++ [m] ∧
        t.mem.queues[(6 : Fin 24)].words = s.mem.queues[(6 : Fin 24)].words.drop n ∧
        t = { s.queueMoved 6 t with lod.opaques := t.lod.opaques }) ∧
    (∀ (type : Nat) (p : List Byte) (after : Lod), s.txd.counting = true → s.coreOff = false → s.txd.sf % s.slotLength = 0 →
      s.lod.lastSlot ≠ some s.txd.sf → s.lodMode ≠ 0 → s.lod.busyUntil ≤ s.txd.sf → s.deviceState < 3 → s.mgt.restarting = false →
      (s.lod.answers.head? = some p ∧ type = 0x21 ∧ after = { s.lod with answers := s.lod.answers.tail }) ∨
       (s.lod.answers = [] ∧ s.lod.propose = some p ∧ type = 0x20 ∧ after = { s.lod with propose := none }) ∨
       (s.lod.answers = [] ∧ s.lod.propose = none ∧ s.lod.identityDue = true ∧ p = s.identityPayload ∧ type = 0x01 ∧
         after = { s.lod with identityDue := false, template := p, identityAt := s.now }) ∨
       (s.lod.answers = [] ∧ s.lod.propose = none ∧ s.lod.identityDue = false ∧
         (s.lod.opaques.map fun m => (m.type, m.payload)).head? = some (type, p) ∧ after = { s.lod with opaques := s.lod.opaques.tail }) →
      ∃ t, exec .lodSlot s = .next t ∧
        t.lod = { after with
          lastSlot := some s.txd.sf
          txSeq := (s.lod.txSeq + 1) % 256
          frames := satInc 32 s.lod.frames
          busyUntil := s.txd.sf + frameSuperframes (s.cfgN Param.lgSf) p.length } ∧
        (s.nothingSent = false → t.out = s.out ++ [.lodFrame (decide (s.lodMode = 1)) (s.cfgN Param.lgSf)
          (s.cfg Param.lgLevelDb) (frameChirpsOf (s.cfgN Param.lgSf) (s.cfgN Param.lgLinkGroup) (lodBytes type s.lod.txSeq p))]) ∧
        t = { s with lod := t.lod, out := t.out }) ∧
    (∀ r : Request, Admitted s r → r.target = ⟨11, 2, 0⟩ → r.payload = [] →
      ∃ t, exec (.lodIdentityNow r) s = .next t ∧ t = { s.answered t with lod.identityDue := true })

/-- Lodestone reception (R300, R303 to R310): a strong enough preamble starts a reception; a header with a good CRC-8 in the local group is
kept and one with a bad CRC-8 ends it; a complete frame with a good CRC-32C is counted and its message, if known, handed on; the gain follows
only while `LDT` searches; a beacon is forgotten after the partner timeout.

Lodestone messages (R309, R312 to R314): an `IDENTITY` of an expected device identifies the partner, one of another is only noted; a
host-opaque message becomes a packet of queue 7; without valid frames for the timeout the partner and its estimates are lost. -/
def Obligations.LodestoneReceiver : Prop :=
  (∀ s : State, s.ldtOn = true →
     (∀ (m : Nat) (g : Fin 121) (grp : Byte), s.cfgN Param.ldtDetectThresholdDbX2 ≤ m → s.lod.current = none →
       exec (.preambleDetect m g grp) s = .next { s with
         lod.current := some ⟨m, s.lod.gain, grp.toNat⟩
         lod.header := none
         lod.tracked := none
         lod.metric := min 255 m }) ∧
     (∀ (p : Preamble) (b : Vector Byte 4), s.lod.current = some p → s.lod.header = none → p.group = s.cfgN Param.ldtLinkGroup →
       (crc8 [b[0], b[1], b[2]] = b[3] →
         exec (.lodHeader b) s = .next { s with lod.header := some (b[0].toNat, b[1].toNat, b[2].toNat) }) ∧
       (crc8 [b[0], b[1], b[2]] ≠ b[3] → s.lod.tracked = none →
         ∃ t, exec (.lodHeader b) s = .next t ∧ t.lod.current = none ∧ t.lod.header = none ∧
           t.lod.hdrCrc = satInc 16 s.lod.hdrCrc ∧ t = { s.told t with lod := t.lod })) ∧
     (∀ (p : Preamble) (type len seq : Nat) (body : List Byte) (cd fo ppm : Int), s.lod.current = some p →
       s.lod.header = some (type, len, seq) → body.length = len → type < 256 → len < 256 → seq < 256 → s.lod.tracked = none →
       s.mgt.restarting = false → knownMessage type len = true →
       ∀ beacon : Bool,
         ∃ t, exec (.lodFrame (body ++ leBytes 4 (crc32c ([BitVec.ofNat 8 type, BitVec.ofNat 8 len, BitVec.ofNat 8 seq] ++ body)))
             cd fo ppm beacon) s = .next t ∧ t.lod.framesOk = satInc 32 s.lod.framesOk ∧ t.lod.current = none ∧ t.lod.header = none ∧
           t.lod.inService = !beacon ∧ t.lod.rxSeq = some seq ∧ t.lod.lastValid = s.now ∧
           (estimatesInRange s cd fo ppm = true → t.lod.estimateValid = true ∧ t.lod.cd = cd ∧ t.lod.fo = fo ∧ t.lod.rate = ppm) ∧
           (beacon = true → t.lod.rxBeacon = true ∧ t.lod.beaconAt = s.now ∧ t.rxd.rxState = .idle) ∧
           t.lod.inbox = s.lod.inbox ++ [{ type, payload := body, seq, at_ := s.now, metric := p.metric }] ∧
           (beacon = false ∨ s.rxd.rxState = .idle → t = { s.told t with lod := t.lod, rxd := t.rxd, tim := t.tim }) ∧
           t = { s.told t with lod := t.lod, rxd := t.rxd, tim := t.tim, cod := t.cod, frm := t.frm, sec.channels := t.sec.channels,
                               hst.failing := t.hst.failing }) ∧
     (∀ g : Fin 121, s.lod.current = none → exec (.ldtGainUpdate g) s = .next { s with lod.gain := g.val }) ∧
     (s.lod.rxBeacon = true →
       ∃ t, exec .rxBeaconClear s = .next t ∧ t.lod = { s.lod with rxBeacon := false } ∧
         t.now = max s.now (s.lod.beaconAt + s.cfgN Param.lmsPartnerTimeoutMs * 1000) ∧
         t = { s.later t with lod := t.lod, rxd.powerAt := t.rxd.powerAt })) ∧
  (∀ s : State, s.mgt.restarting = false →
     (∀ m : LodMessage, s.lod.inbox.find? (fun m => m.type == 0x01) = some m →
       (s.expects (u64At m.payload 0) = true →
         ∃ t, exec .identityRx s = .next t ∧ t.lod.identified = true ∧ t.lod.partner = m.payload ∧ t.lod.partnerAt = m.at_ ∧
           t.lod.partnerMetric = m.metric ∧ t.lod.inbox = s.lod.inbox.erase m ∧ t = { s.told t with lod := t.lod }) ∧
       (s.expects (u64At m.payload 0) = false →
         ∃ t, exec .identityRx s = .next t ∧ t.lod = { s.lod with inbox := s.lod.inbox.erase m, mismatch := true } ∧
           t = { s.told t with lod := t.lod })) ∧
     (∀ m : LodMessage, s.lod.inbox.find? (fun m => decide (0x80 ≤ m.type)) = some m → (∀ w, s.mem.flipsOf 0 w = 0) →
       s.mem.queues[(7 : Fin 24)].dropping = false →
       (bytesToWords m.payload).length + 1 + s.mem.queues[(7 : Fin 24)].count ≤ s.queueCapacity 7 →
       ∃ t, exec .hostOpaqueRx s = .next t ∧
         t.mem.queues[(7 : Fin 24)].words = s.mem.queues[(7 : Fin 24)].words ++ packetWords
           (BitVec.ofNat 64 (m.payload.length + fieldAt m.type 16 8 + fieldAt m.seq 24 8 + fieldAt m.at_ 32 32) :: bytesToWords m.payload) ∧
         t = { s.queueMoved 7 t with lod.inbox := s.lod.inbox.erase m }) ∧
     (s.lod.identified = true ∨ s.lod.estimateValid = true →
       ∃ t, exec .partnerTimeout s = .next t ∧ t.lod.identified = false ∧ t.lod.estimateValid = false ∧ t.rxd.seedValid = false ∧
         t.lod.partner = [] ∧ t.now = max s.now (s.lod.lastValid + s.cfgN Param.lmsPartnerTimeoutMs * 1000) ∧
         t = { s.later t with lod := t.lod, rxd.seedValid := false }))

/-! ### MON -/

/-- The gain loop (R112 to R116): a set with a level above the upper crossing lowers every gain of the set by one step, within the limits; a
set without a usable chain holds its gains.

Chains and detectors (R322 to R325, R327, R329): a chain settles; a core cycle of its tap runs through it; an output of a settled chain with
a source is delivered and counted, and streamed where it is told to; an apply writes fields cut to their ranges and restarts the detectors,
which keep their levels. No other chain changes. -/
def Obligations.GainAndChains : Prop :=
  (∀ (s : State) (set : Fin 4), s.cfg Param.agcMode = 0 → s.gainSet set ≠ [] → s.deviceState < 2 →
     ((∀ ch ∈ s.gainSet set, s.gainUsable ch = true) →
       (∃ ch ∈ s.gainSet set, ∃ l, s.gainLevel ch = some l ∧ s.gainUpper < l) →
       ∃ t, exec (.agcDecision set) s = .next t ∧
         (∀ ch : Fin 4, t.cnv.gains[ch] = if ch ∈ s.gainSet set then s.cnv.gains[ch] - 1 else s.cnv.gains[ch]) ∧
         (∀ ch ∈ s.gainSet set, t.cnv.held.getLsbD ch.val = false) ∧
         t.now = max s.now (s.cnv.agcAt[set] + s.gainPeriod set) ∧
         t = { s.later t with cnv.gains := t.cnv.gains, cnv.held := t.cnv.held, cnv.atLimit := t.cnv.atLimit,
                              cnv.agcSteps := t.cnv.agcSteps, cnv.agcAt := t.cnv.agcAt, cnv.gainAt := t.cnv.gainAt }) ∧
     ((∃ ch ∈ s.gainSet set, s.gainUsable ch = false) →
       ∃ t, exec (.agcDecision set) s = .next t ∧ (∀ ch ∈ s.gainSet set, t.cnv.held.getLsbD ch.val = true) ∧
         t = { s.later t with cnv.held := t.cnv.held, cnv.agcAt := t.cnv.agcAt })) ∧
  (∀ (s : State) (c : ChainId),
     (s.cfgB Param.dchEnable c.val = true → (s.chain c).settled = false → s.sourceGone c = false → s.deviceState ≠ 4 →
       ∃ t, exec (.chainSettled c) s = .next t ∧ t.chain c = { s.chain c with settled := true, conf := s.chainConf c } ∧
         (∀ d, d ≠ c → t.chain d = s.chain d) ∧ t.now = max s.now ((s.chain c).since + s.settlingUs c) ∧
         t = { s.later t with mon.chains := t.mon.chains }) ∧
     (s.cfgB Param.dchEnable c.val = true → s.deviceState ≠ 4 →
       (∀ cycles : List TapCycle,
         ∃ t, exec (.chainOutput c cycles) s = .next t ∧ (∀ d, d ≠ c → t.chain d = s.chain d) ∧
           t = { s.told t with mon.chains := t.mon.chains, free := t.free, mem := t.mem }) ∧
       (∀ (x : TapCycle) (k : Chain), (s.chain c).cycle (s.cfgN Param.dchPreset c.val) (s.chainInputOf c x) = (k, none) →
         exec (.chainOutput c [x]) s = .next { s.onChain c fun _ => k with free := s.free + 1 }) ∧
       (∀ (x : TapCycle) (k : Chain) (y : BitVec 32), (∀ w, s.mem.flipsOf 0 w = 0) → (s.chain c).settled = true →
         (s.chain c).noSource = false → (s.chain c).cycle (s.cfgN Param.dchPreset c.val) (s.chainInputOf c x) = (k, some y) →
         ∃ t, exec (.chainOutput c [x]) s = .next t ∧ (t.chain c).out = y ∧ (t.chain c).index = (s.chain c).index + 1 ∧
           (t.chain c).ints = k.ints ∧ (t.chain c).combs = k.combs ∧ (t.chain c).phase = k.phase ∧ (t.chain c).fir = k.fir ∧
           (s.cfgB Param.dchStream c.val = true → s.mem.queues[chainQueue c].dropping = false →
             1 + s.mem.queues[chainQueue c].count ≤ s.queueCapacity (chainQueue c) →
             t.mem.queues[chainQueue c].words = s.mem.queues[chainQueue c].words ++
               [⟨BitVec.ofNat 64 (y.toNat + fieldAt (s.chain c).index 32 32), true⟩]) ∧
           t = { s.queueMoved (chainQueue c) t with mon.chains := t.mon.chains, free := t.free })) ∧
     (∀ (i : SeatId) (v : Word), Writes s i ⟨12, 1, 0⟩ → v.getLsbD 0 = true →
       ∃ t, exec (.detApply i c v) s = .next t ∧
         bits (t.chain c).window.toNat 0 5 = min (bits (s.chain c).windowSh.toNat 0 5) 24 ∧
         bits (t.chain c).window.toNat 8 5 = min (bits (s.chain c).windowSh.toNat 8 5) 20 ∧
         bits (t.chain c).window.toNat 16 4 = bits (s.chain c).windowSh.toNat 16 4 ∧
         bits (t.chain c).window.toNat 24 5 = min (bits (s.chain c).windowSh.toNat 24 5) 23 ∧
         bits (t.chain c).thresh.toNat 16 2 = min (bits (s.chain c).threshSh.toNat 16 2) 2 ∧
         (t.chain c).peak = (s.chain c).peak ∧ (t.chain c).rms = (s.chain c).rms ∧ (t.chain c).env = (s.chain c).env ∧
         (t.chain c).peakN = 0 ∧ (t.chain c).rmsN = 0 ∧ (∀ d, d ≠ c → t.chain d = s.chain d) ∧
         t = { s with mon.chains := t.mon.chains }))

/-- Capture (R344, R345): arming starts afresh; the manual trigger starts the part after the trigger of an armed capture that waits for it, and
no other; a stop aborts a capture in progress with cause 1; a capture of a chain whose last byte is written is done, and counted.

Performance records (R332, R333, R335, R339, R340): a sample enters the gauges while the chain is locked; the whole second latches every
total and starts afresh; the end of a drain numbers its records; an on-demand snapshot begins a drain of its own; a record is located by
kind and age. -/
def Obligations.CapturesAndRecords : Prop :=
  (∀ s : State,
     (∀ r : Request, Admitted s r → r.target = ⟨12, 3, 0⟩ → r.payload = [] →
       (s.captureGated = false → (∀ c, s.capturedChain = some c → (s.chain c).noSource = false ∧ (s.chain c).settled = true) →
         ∃ t, exec (.capArm r) s = .next t ∧
           t.mon.cap = { count := s.mon.cap.count, state := 1, conf := s.captureConf } ∧ t = s.answered t) ∧
       (∃ t, exec (.capTrigger r) s = .next t ∧ t = s.answered t ∧
         t.mon.cap = if s.mon.cap.state = 1 ∧ s.cfgN Param.capTrigger = 0 then
           { s.mon.cap with state := 2, trigSrc := 0, trigPos := s.mon.cap.pos, left := s.captureTail } else s.mon.cap) ∧
       (∃ t, exec (.capStop r) s = .next t ∧ t = s.answered t ∧
         t.mon.cap = if s.mon.cap.live = true then { s.mon.cap with state := 4, abortCause := 1, endPos := s.mon.cap.pos }
           else s.mon.cap)) ∧
     (∀ (n : Nat) (data : List CaptureCycle), s.mon.cap.state = 2 →
       (s.capturedChain.isSome = true → s.mon.cap.left = 0 →
         ∃ t, exec (.captureDone n data) s = .next t ∧ t = s.told t ∧
           t.mon.cap = { s.mon.cap with state := 3, endPos := s.mon.cap.pos, count := satInc 32 s.mon.cap.count }) ∧
       (s.capturedChain = none → s.mon.cap.left = 0 → data = [] →
         ∃ t, exec (.captureDone n data) s = .next t ∧ t.mon.cap.state = 3 ∧ t.mon.cap.count = satInc 32 s.mon.cap.count ∧
           t = { s.told t with mem := t.mem }) ∧
       (s.cfgN Param.capSource ≤ 3 → s.mon.cap.left = 1024 * data.length → 0 < s.captureBytes →
         ∃ t, exec (.captureDone n data) s = .next t ∧ t.mon.cap.state = 3 ∧ t.mon.cap.count = satInc 32 s.mon.cap.count ∧
           t.mon.cap.endPos = (s.mon.cap.pos + 1024 * data.length) % s.captureBytes ∧ t = { s.told t with mem := t.mem }))) ∧
  (∀ s : State,
     (∀ e : Estimates, s.lod.estimateValid = false →
       (s.rxd.rxState = .locked →
         ∃ t, exec (.measureSample e) s = .next t ∧ t.rxd.foKHz = e.foKHz ∧ t.rxd.dgd = min 65535 e.dgd ∧
           t.mon.gauges[(0 : Fin 9)] = s.mon.gauges[(0 : Fin 9)].add (s.snrOf 0 e.powerX e.noiseX) ∧
           t.mon.gauges[(1 : Fin 9)] = s.mon.gauges[(1 : Fin 9)].add (s.snrOf 1 e.powerY e.noiseY) ∧
           t.mon.gauges[(2 : Fin 9)] = s.mon.gauges[(2 : Fin 9)].add (s.osnr e) ∧
           t.mon.gauges[(3 : Fin 9)] = s.mon.gauges[(3 : Fin 9)].add s.rxd.cdValue ∧
           t.mon.gauges[(4 : Fin 9)] = s.mon.gauges[(4 : Fin 9)].add (min 65535 e.dgd : Nat) ∧
           t.mon.gauges[(5 : Fin 9)] = s.mon.gauges[(5 : Fin 9)].add s.pdl ∧
           t.mon.gauges[(6 : Fin 9)] = s.mon.gauges[(6 : Fin 9)].add e.foKHz ∧ t.mon.gauges[(7 : Fin 9)] = s.mon.gauges[(7 : Fin 9)] ∧
           t.mon.gauges[(8 : Fin 9)] = s.mon.gauges[(8 : Fin 9)].add s.quality ∧ t.now = max s.now (s.mon.sampledAt + 10000) ∧
           t = { s.later t with mon.gauges := t.mon.gauges, mon.sampledAt := t.now, mon.fecBits := s.preFec.1, mon.fecCorr := s.preFec.2,
                                free := s.free + 1, rxd := t.rxd }) ∧
       (s.rxd.rxState ≠ .locked →
         ∃ t, exec (.measureSample e) s = .next t ∧ t.mon.gauges = s.mon.gauges ∧
           t = { s.later t with mon.sampledAt := t.now, mon.fecBits := s.preFec.1, mon.fecCorr := s.preFec.2, free := s.free + 1 })) ∧
     (s.clk.timeStopped = false → s.tim.devNs < 1000000000 →
       ∃ t, exec .pmIntervalTick s = .next t ∧ t.tim.devS = s.tim.devS + 1 ∧ t.mon.cleared = [] ∧ t.mon.stepped = false ∧
         t.mon.atBoundary = [] ∧ t.mon.gauges = Vector.replicate 9 {} ∧ ∃ d, t.mon.drain = some d ∧ d.content.kind = 0 ∧
         d.content.interval = s.tim.devS ∧ ((∃ b ∈ d.bins, b.1.kind = 1) ↔ (s.tim.devS + 1) % 900 = 0) ∧
         t = { s.later t with cod := t.cod, frm := t.frm, hst.ports := t.hst.ports, mem := t.mem, mon := t.mon, tim := t.tim }) ∧
     (∀ (bad : List PmError) (ns : Nat) (d : Drain), s.mon.drain = some d → s.mon.waiting = [] →
       ∃ t, exec (.pmDrainDone bad ns) s = .next t ∧ t.mon.drain = none ∧ t.mon.snap = s.mon.snap + 1 + d.bins.length ∧
         t.mon.drainNs = min ns 65535 ∧ t = { s.told t with mem := t.mem, mon := t.mon }) ∧
     (∀ r : Request, Asked s r → r.target = ⟨12, 2, 0⟩ →
       (r.payload = [] → s.mon.drain = none → s.tim.devNs < 999990000 →
         ∃ t, exec (.pmSnapshot r) s = .next t ∧
           t = { s.answered t with mon.drain := t.mon.drain, frm := t.frm, mem.bulk := t.mem.bulk, mem.flips := t.mem.flips } ∧
           ∃ d, t.mon.drain = some d ∧ d.bins = [] ∧ d.content.kind = 3 ∧ d.content.interval = s.tim.devS ∧
             d.content.latchNs = s.tim.devNs) ∧
       (∀ (k : Fin 4) (age : Byte) (snap : Nat), r.payload = [BitVec.ofNat 8 k.val, age] → s.mon.snaps[k][age.toNat]? = some snap →
         Answers s .pmLocate r
           (okWith (leBytes 4 (pmAddress k.val (s.mon.written[k] - 1 - age.toNat)) ++ leBytes 8 snap)))))

/-! ### HST -/

/-- Bring-up of a lane (R360 to R363, R375): signal detect ends step 1, or H2 where discovery is armed; CDR lock, training and polarity end their
steps, the last when every lane of the port is so far; a failed training or an exceeded bound counts and restarts the lane at step 1; the other
order is tried while none is known. -/
def Obligations.LaneBringUp : Prop :=
  ∀ (s : State) (l : LaneId),
    (s.lanePower l < 3 →
      ((s.lane l).low = false → (s.lane l).step = 1 →
        ∃ t, exec (.laneSignalDetect l) s = .next t ∧
          t.lane l = { s.lane l with signal := true, present := true, step := 2, refAt := s.now, stepAt := s.now } ∧
          (∀ m, m ≠ l → t.lane m = s.lane m) ∧ t = { s.told t with hst.lanes := t.hst.lanes }) ∧
      ((s.lane l).low = true → s.cfgB Param.lnDiscovery 0 0 l.val = true → s.lanePorted l = true →
        ∃ t, exec (.laneSignalDetect l) s = .next t ∧ (t.lane l).low = false ∧ (t.lane l).step = 2 ∧ (t.lane l).present = true ∧
          (t.lane l).refAt = s.now ∧ (∀ m, m ≠ l → t.lane m = s.lane m) ∧ t = { s.told t with hst.lanes := t.hst.lanes })) ∧
    ((s.lane l).step = 2 →
      ∃ t, exec (.cdrLock l) s = .next t ∧
        t.lane l = { s.lane l with cdr := true, step := if s.trains l then 3 else 4, stepAt := s.now } ∧
        (∀ m, m ≠ l → t.lane m = s.lane m) ∧ t = { s.told t with hst.lanes := t.hst.lanes, tim := t.tim }) ∧
    (∀ taps : Vector Int 6, (s.lane l).step = 3 →
      (∃ t, exec (.trainingDone l true taps) s = .next t ∧
        t.lane l = { s.lane l with trained := true, taps := taps, step := 4, stepAt := s.now } ∧
        (∀ m, m ≠ l → t.lane m = s.lane m) ∧ t = { s with hst.lanes := t.hst.lanes }) ∧
      (∃ t, exec (.trainingDone l false taps) s = .next t ∧ (t.lane l).step = 1 ∧
        (t.lane l).trainFails = satInc 16 (s.lane l).trainFails ∧ (t.lane l).downCount = satInc 16 (s.lane l).downCount ∧
        (t.lane l).cdr = false ∧ t = { s.told t with hst := t.hst, tim := t.tim })) ∧
    (∀ inv : Bool, (s.lane l).step = 4 → (s.lane l).passed = false →
      ∃ t, exec (.polarityDetermined l inv) s = .next t ∧ (t.lane l).kept = true ∧ (t.lane l).passed = true ∧
        (t.lane l).inverted = (if s.cfgN Param.lnRxPolarity 0 0 l.val = 0 then (if (s.lane l).warm then (s.lane l).inverted else inv)
          else decide (s.cfgN Param.lnRxPolarity 0 0 l.val = 2)) ∧
        (t.lane l).step = (if t.laneReady l then (if s.orderKnown then 6 else 5) else 4) ∧ t = { s.told t with hst := t.hst }) ∧
    (s.orderKnown = false → (s.lane l).step = 5 →
      ∃ t, exec .laneOrderTry s = .next t ∧ t.hst.reversed = !s.hst.reversed ∧ t.hst.tryAt = t.now ∧
        t.now = max s.now (s.hst.tryAt + 50000) ∧
        t = { s.later t with hst.reversed := t.hst.reversed, hst.tryAt := t.hst.tryAt }) ∧
    ((s.lane l).low = false → 2 ≤ (s.lane l).step → (s.lane l).step < 7 → ¬((s.lane l).step = 4 ∧ (s.lane l).passed = true) →
      (∀ p, s.portOf l = some p → (s.port p).skewed = false) →
      ∃ t, exec (.bringupTimeout l) s = .next t ∧ (t.lane l).step = 1 ∧ (t.lane l).passed = false ∧ (t.lane l).cdr = false ∧
        (t.lane l).downCount = satInc 16 (s.lane l).downCount ∧ t.now = max s.now (s.bringupBound l) ∧
        t = { s.later t with hst := t.hst, tim := t.tim })

/-- Ports (R361, R363, R364, R377): with a skew up to 180 ns a ready port comes up and the order is held, with a greater one it is tried again; a
codeword is counted; an invalid block is counted; marker loss takes the port down. -/
def Obligations.HostPorts : Prop :=
  ∀ (s : State) (p : PortId),
    (∀ n : Nat, s.portReady p = true → s.lanesLocked p = true →
      (n ≤ 180 → (s.port p).up = false → (s.port p).skewed = false →
        ∃ t, exec (.portUp p n) s = .next t ∧ (t.port p).up = true ∧ (t.port p).skew = n ∧ (t.port p).deskewed = true ∧
          t.hst.orderLocked = true ∧ (∀ l ∈ s.lanesOf s.rxReversed p, (t.lane l).step = 7) ∧ (∀ q, q ≠ p → t.port q = s.port q) ∧
          t = { s.told t with hst := t.hst, frm := t.frm, sec.channels := t.sec.channels }) ∧
      (180 < n → (s.port p).up = false → (s.port p).skewed = false →
        ∃ t, exec (.portUp p n) s = .next t ∧ (t.port p).up = false ∧ (t.port p).skewed = true ∧ (t.port p).skewAt = s.now ∧
          (∀ q, q ≠ p → t.port q = s.port q) ∧ t = { s.told t with hst.ports := t.hst.ports }) ∧
      (n ≤ 180 → (s.port p).skewed = true →
        ∃ t, exec (.deskewRetry p n) s = .next t ∧ (t.port p).up = true ∧ (t.port p).skewed = false ∧
          t.now = max s.now ((s.port p).skewAt + 10000) ∧
          t = { s.later t with hst := t.hst, frm := t.frm, sec.channels := t.sec.channels })) ∧
    ((s.port p).up = true →
      (∀ corr bad lf rf : Bool, 2 ≤ s.portType p.val → s.portType p.val ≤ 12 →
        ∃ t, exec (.auiFecCodeword p corr bad lf rf) s = .next t ∧
          (t.port p).fecUncorr = (if bad then ((s.port p).fecUncorr + 1) % 2 ^ 64 else (s.port p).fecUncorr) ∧
          (t.port p).fecCorr = (if corr && !bad then ((s.port p).fecCorr + 1) % 2 ^ 64 else (s.port p).fecCorr) ∧
          (∀ q, q ≠ p → t.port q = s.port q) ∧ t = { s with hst.ports := t.hst.ports, out := t.out }) ∧
      (∃ t, exec (.pcsBlockError p) s = .next t ∧ (t.port p).blockErrs = satInc 32 (s.port p).blockErrs ∧
        (t.port p).up = true ∧ (∀ q, q ≠ p → t.port q = s.port q) ∧ t = { s.told t with hst.ports := t.hst.ports }) ∧
      (s.portType p.val ≠ 13 →
        ∃ t, exec (.alignmentMarkerLoss p) s = .next t ∧ (t.port p).up = false ∧
          (t.port p).markerErrs = satInc 32 (s.port p).markerErrs ∧ (∀ q, q ≠ p → t.port q = s.port q) ∧
          t = { s.told t with hst := t.hst, frm := t.frm, sec.channels := t.sec.channels }))

/-- Lanes that go down (R357 to R359, R374, R375, R377, R381): an accepted frequency is only noted, another takes the lane to step 2; loss
of signal or of lock to step 1; an absent partner to H2 with nothing kept; a retrain discards the taps and restarts the lane; an eye query
changes only what it measures.

Transparent Lane Mode and FlexE (R367 to R372, R377): a good marker counts towards lock, and what was received before it is freed of its
stuff symbols and descrambled; a period sends on each lane its marker, pad and payload and counts on, and dropped words are counted; the
overhead of a PHY is kept for it, and a bad one is sent back as a fault; a calendar request is acknowledged only if the calendars agree. -/
def Obligations.LaneFaults : Prop :=
  (∀ (s : State) (l : LaneId),
     ((s.lane l).low = false →
       (∀ ppm : Int, (s.lane l).cdr = true →
         (s.freqAccepted l ppm = true →
           ∃ t, exec (.freqOffset l ppm) s = .next t ∧ t.lane l = { s.lane l with freq := ppm } ∧
             t = { s with hst.lanes := t.hst.lanes, frm.clients := t.frm.clients }) ∧
         (s.freqAccepted l ppm = false →
           ∃ t, exec (.freqOffset l ppm) s = .next t ∧ (t.lane l).step = 2 ∧ (t.lane l).cdr = false ∧
             (t.lane l).faults.getLsbD 3 = true ∧ (t.lane l).downCount = satInc 16 (s.lane l).downCount ∧
             t = { s.told t with hst := t.hst, tim := t.tim, frm := t.frm, sec.channels := t.sec.channels })) ∧
       (∀ lost : Bool, ∃ t, exec (.laneDown l lost) s = .next t ∧ (t.lane l).step = 1 ∧ (t.lane l).cdr = false ∧
         (t.lane l).signal = ((s.lane l).signal && !lost) ∧ (t.lane l).faults.getLsbD (if lost then 0 else 1) = true ∧
         (t.lane l).downCount = satInc 16 (s.lane l).downCount ∧
         t = { s.told t with hst := t.hst, tim := t.tim, frm := t.frm, sec.channels := t.sec.channels }) ∧
       ((s.lane l).signal = false →
         ∃ t, exec (.partnerAbsent l) s = .next t ∧ (t.lane l).low = true ∧ (t.lane l).step = 0 ∧ (t.lane l).present = false ∧
           (t.lane l).kept = false ∧ t.now = max s.now ((s.lane l).absentAt + s.cfgN Param.lnAbsentMs 0 0 l.val * 1000) ∧
           t = { s.later t with hst := t.hst, tim := t.tim, frm := t.frm, sec.channels := t.sec.channels })) ∧
     (∀ r : Request, r.target = ⟨13, l.val, 0⟩ → r.payload = [] →
       (Admitted s r → ∃ t, exec (.hstLaneRetrain r) s = .next t ∧ (t.lane l).kept = false ∧
         (t.lane l).taps = #v[0, 0, 0, 64, 0, 0] ∧
         ((s.lane l).low = false ∨ (s.lanePorted l = true ∧ s.lanePower l ≤ 2) → (t.lane l).low = false ∧ (t.lane l).step = 1) ∧
         t = { s.answered t with hst := t.hst, tim := t.tim, frm := t.frm, sec.channels := t.sec.channels }) ∧
       (∀ (snr hi mid lo width ctle : Nat) (dfe : Int), Asked s r →
         ∃ t, exec (.hstLaneEye r snr hi mid lo width ctle dfe) s = .next t ∧
           t.lane l = { s.lane l with snrX4 := min 255 (snr / 25)
                                      ctle := if s.cfgB Param.lnRxEqFreeze 0 0 l.val then (s.lane l).ctle else ctle % 256
                                      dfe := if s.cfgB Param.lnRxEqFreeze 0 0 l.val then (s.lane l).dfe else dfe } ∧
           (∀ m, m ≠ l → t.lane m = s.lane m) ∧ t = { s.answered t with hst.lanes := t.hst.lanes }))) ∧
  (∀ s : State,
     (∀ (l : LaneId) (p : PortId) (w : BitVec 256) (m : Marker) (received : List (Fin 4)) (u : Unstuffed) (bs : List Nat),
       (s.lane l).passed = true → s.orderKnown = true → s.portOf l = some p → s.portType p.val = 13 → Marker.ofNat w.toNat = some m →
       m.lane = physical s.rxReversed l.val - p.val → m.size + 1 = s.portLanes p.val → m.first = p.val →
       tlmUnstuff 0 0 received = u → u.violations = 0 → bs = tlmScramble m.lane (u.payload.flatMap pam4Bits) →
       ∃ t, exec (.tlmMarker l (some w) received) s = .next t ∧ (t.lane l).bad = 0 ∧
         (t.lane l).good = (if (s.lane l).good = 0 ∨ u.payload.length = tlmPayloadSymbols then (s.lane l).good + 1 else 1) ∧
         (t.lane l).locked = ((s.lane l).locked || decide (2 ≤ (t.lane l).good)) ∧ (t.lane l).stuffs = satInc 32 (s.lane l).stuffs u.stuffs ∧
         ((s.port p).up = true → (Output.tlmWords l.val (bitWords (bs.length / 256) bs)) ∈ t.out) ∧
         (∀ k, k ≠ l → t.lane k = s.lane k) ∧
         t = { s.told t with hst.lanes := t.hst.lanes, hst.failing := t.hst.failing, frm := t.frm, sec.channels := t.sec.channels }) ∧
     (∀ (p : PortId) (pad : Fin 4096) (words : List (BitVec 256)), s.portType p.val = 13 →
       (s.boundaryHeld = false →
         ∃ t, exec (.tlmPeriod p pad 0 words) s = .next t ∧ t.port p = { s.port p with period := ((s.port p).period + 1) % 65536, noPad := false } ∧
           (∀ q, q ≠ p → t.port q = s.port q) ∧
           (∀ n, n = (if (s.port p).noPad then 0 else pad.val) →
             t.out = s.out ++ ((List.range (s.portLanes p.val)).map fun i =>
               let l := physical s.txReversed (p.val + i)
               let sent := polarised (s.cfgB Param.lnTxInvert 0 0 l)
               .tlmPeriod l
                 (sent (pam4Symbols (wordBits (BitVec.ofNat 256 (Marker.toNat
                   { lane := i, size := s.portLanes p.val - 1, first := p.val, pad := n, period := (s.port p).period % 65536 })))))
                 (sent (tlmPad n))
                 (sent (tlmStuff 0 0 (pam4Symbols (tlmScramble i
                   ((List.range tlmBlocks).flatMap fun j => wordBits (words.getD (s.portLanes p.val * j + i) 0)))))))) ∧
           t = { s with hst.ports := t.hst.ports, out := t.out }) ∧
       (∀ dropped : Nat, 0 < dropped →
         ∃ t, exec (.tlmPeriod p pad dropped words) s = .next t ∧ (t.port p).period = ((s.port p).period + 1) % 65536 ∧
           (t.port p).markerErrs = satInc 32 (s.port p).markerErrs ∧ (∀ q, q ≠ p → t.port q = s.port q) ∧
           t = { s.told t with hst.ports := t.hst.ports })) ∧
     (∀ (p : PortId) (g : Fin 4) (crc gid phy lock rpf : Bool), s.cfgN Param.pcsFlexeGroup 0 p.val = g.val + 1 →
       (s.port p).up = true → s.isPhy p.val g.val = true →
       ∃ t, exec (.flexeOh p crc gid phy lock rpf) s = .next t ∧
         t.port p = { s.port p with ohLocked := lock, ohCrcBad := !crc, gidBad := if crc then !gid else (s.port p).gidBad
                                    phyBad := if crc then !phy else (s.port p).phyBad, rpf := if crc then rpf else (s.port p).rpf } ∧
         (∀ q, q ≠ p → t.port q = s.port q) ∧ t.hst.ohCrc = (if crc then s.hst.ohCrc else satInc 32 s.hst.ohCrc) ∧
         ((crc && gid && phy && lock) = false → s.boundaryHeld = false → (Output.flexeFault g.val) ∈ t.out) ∧
         t = { s.told t with hst.ports := t.hst.ports, hst.ohCrc := t.hst.ohCrc, hst.failing := t.hst.failing, frm := t.frm,
                             sec.channels := t.sec.channels }) ∧
     (∀ (g : Fin 4) (cal : List Nat), s.phys g ≠ [] →
       ∃ t, exec (.hostCalRequest g cal) s = .next t ∧
         t.hst.groups[g].calMismatch = decide (cal ≠ s.groupCalendar g) ∧
         t.out = (if cal = s.groupCalendar g then s.out ++ s.reaching (.flexeAck g.val) else s.out) ∧
         t = { s with hst.groups := t.hst.groups, out := t.out }))

/-! ### TIM -/

/-- Qualification (R388, R389, R391): a slot within its limits takes its measurement; a qualified slot beyond the hard limit is disqualified and
counted; the ends of soak, wait-to-restore and hold-off, and a cleared wait, do what the rules give. -/
def Obligations.Qualification : Prop :=
  ∀ (s : State) (n : SlotId), s.clk.timeStopped = false →
    (∀ (u : State) (hard soft x : Int), judgeBase (followInputs { s with tim.xtalBPpt := x }) = u → u.slotActive n = true → n ≠ 5 →
      (hard.natAbs ≤ 50000000 → soft.natAbs < s.softLimit →
        ∃ t, exec (.slotMeasure n hard soft x) s = .next t ∧ (t.tslot n).measured = true ∧ (t.tslot n).hard = hard ∧
          (t.tslot n).soft = soft ∧ (t.tslot n).qualified = (u.tslot n).qualified ∧ t = { s.told t with tim := t.tim }) ∧
      (50000000 < hard.natAbs → (u.tslot n).qualified = true →
        ∃ t, exec (.slotMeasure n hard soft x) s = .next t ∧ (t.tslot n).qualified = false ∧
          (t.tslot n).disquals = satInc 32 (u.tslot n).disquals ∧ t = { s.told t with tim := t.tim })) ∧
    (∀ x : Nat, (s.tslot n).soakAt = some x →
      ∃ t, exec (.soakDone n) s = .next t ∧ (t.tslot n).qualified = true ∧ (t.tslot n).soakAt = none ∧
        ((s.tslot n).everDisq = false → (t.tslot n).wtrAt = none) ∧ t.now = max s.now (x + s.cfgN Param.rslSoakS * 1000000) ∧
        t = { s.later t with tim := t.tim }) ∧
    (∀ x : Nat, (s.tslot n).wtrAt = some x →
      ∃ t, exec (.wtrDone n) s = .next t ∧ t.tslot n = { s.tslot n with wtrAt := none, everDisq := false } ∧
        t.now = max s.now (x + s.cfgN Param.rslWtrS * 1000000) ∧ t = { s.later t with tim := t.tim }) ∧
    (n.val = 3 ∨ n.val = 4 → (s.tslot n).actF = true →
      ((s.tslot n).qualified = false →
        ∃ t, exec (.activityLoss n) s = .next t ∧ (t.tslot n).actF = false ∧ (t.tslot n).soakAt = none ∧
          t = { s with tim.slots := t.tim.slots }) ∧
      ((s.tslot n).qualified = true → s.isSelected n = true → 0 < s.cfg Param.rslHoldoffMs → (s.tslot n).holdF = none →
        ∃ t, exec (.activityLoss n) s = .next t ∧ (t.tslot n).actF = false ∧ (t.tslot n).holdF = some s.now ∧
          (t.tslot n).qualified = true ∧ t = { s with tim.slots := t.tim.slots })) ∧
    (∀ x : Nat, n.val = 3 ∨ n.val = 4 → (s.tslot n).actF = false → (s.tslot n).holdF = some x →
      ∃ t, exec (.activityReturn n) s = .next t ∧ (t.tslot n).actF = true ∧ (t.tslot n).holdF = none ∧
        (t.tslot n).qualified = (s.tslot n).qualified ∧ t = { s.told t with tim := t.tim }) ∧
    (∀ x : Nat, (s.tslot n).holdSince = some x → (s.tslot n).qualified = true →
      ∃ t, exec (.holdoffExpire n) s = .next t ∧ (t.tslot n).qualified = false ∧ (t.tslot n).holdSince = none ∧
        (t.tslot n).disquals = satInc 32 (s.tslot n).disquals ∧ t.now = max s.now (x + s.cfgN Param.rslHoldoffMs * 1000) ∧
        t = { s.later t with tim := t.tim }) ∧
    (∀ (x : Nat) (off : Int), s.tim.xtalBAt = some x →
      ∃ t, exec (.xtalBWarmup off) s = .next t ∧ t.tim.xtalBPpt = off ∧
        t.tim.baseB = (s.cfgB Param.rslXtalBUse && s.clk.ready.getLsbD 3 && decide (off.natAbs ≤ 100000000)) ∧
        t.now = max s.now (x + s.cfgN Param.rslXtalBWarmupS * 1000000) ∧ t = { s.later t with tim := t.tim }) ∧
    (∀ r : Request, Admitted s r → r.target = ⟨3, 0, 0⟩ → r.payload = [BitVec.ofNat 8 n.val] →
      ∃ t, exec (.timClearWtr r) s = .next t ∧ t.tslot n = { s.tslot n with wtrAt := none, everDisq := false } ∧
        t = { s.answered t with tim := t.tim })

/-- Selection (R390): in automatic mode the best of the available slots is chosen, the lowest priority number and among equals the lowest slot
number; without reversion a selected slot that is available stays; mode 1 takes the forced slot if it is available, other modes none.
`SELECTOR_RUN` makes both selections so. -/
def Obligations.Selection : Prop :=
  (∀ (forced : Nat) (prio : SlotId → Nat) (cur : Option SlotId) (avail : List SlotId), avail.Pairwise (· < ·) →
    (∀ rev, choose 0 forced rev prio cur avail = none ↔ avail = []) ∧
    (∀ rev c, choose 0 forced rev prio cur avail = some c → c ∈ avail ∧
      ((∀ d ∈ avail, prio c < prio d ∨ (prio c = prio d ∧ c ≤ d)) ∨
        (cur = some c ∧ (rev = true → ∀ d ∈ avail, prio c ≤ prio d)))) ∧
    (∀ c ∈ avail, choose 0 forced false prio (some c) avail = some c) ∧
    (∀ rev c, choose 1 forced rev prio cur avail = some c ↔ c ∈ avail ∧ c.val = forced) ∧
    (∀ rev mode, 2 ≤ mode → choose mode forced rev prio cur avail = none)) ∧
  (∀ s u : State, s.clk.timeStopped = false → judgeBase (followInputs s) = u →
    ∃ t, exec .selectorRun s = .next t ∧ t.tim.selF = u.selected .freq u.tim.selF ∧ t.tim.selP = u.selected .phase u.tim.selP ∧
      t = { s.told t with tim := t.tim })

/-- Time (R394, R397, R398, R400, R403, R410): the loop of the sync channel takes in its reference, and history takes an entry; the limit of holdover
is reached; an edge within the step limit passes through the loop and one beyond it steps; `PPS_OUT` rises and falls; a set time is applied at
the next whole second.

PTP (R385, R397, R405, R407): an Announce message of another device is kept, and where no own clock competes its port follows it; the first Sync
message makes the port slave and the device time valid; a master port answers, and sends what the row names with what the parameters give;
without Sync for 187.5 ms the slot loses its phase. -/
def Obligations.ClocksOfTime : Prop :=
  (∀ s : State, s.clk.timeStopped = false →
     (∀ (x : Nat) (n : SlotId) (v l : Int) (a b : Bool) (r : Int × Int), s.tim.entryAt = some x → s.tim.selF = some n →
       (s.tslot n).holdF = none → r = Config.loop (bandwidthMhz (s.cfgN Param.dplSyncBw)) 1000000 v s.tim.syncFreq s.tim.syncMem →
       ∃ t, exec (.historyEntry v l a b) s = .next t ∧ t.tim.history = ((x + 1000000, r.1) :: s.tim.history).take 1024 ∧
         t.tim.syncFreq = r.1 ∧ t.tim.syncMem = r.2 ∧ t.tim.entryAt = some (x + 1000000) ∧ t.tim.syncState = (if b then 2 else 1) ∧
         t.now = max s.now (x + 1000000) ∧ t = { s.later t with tim := t.tim }) ∧
     (s.tim.holdover = true → s.tim.limit = false →
       ∃ t, exec .holdoverLimit s = .next t ∧ t.tim.limit = true ∧
         (s.cfg Param.hldExpiryAction = 1 → t.tim.squelched = true ∧ t.tim.ppsHigh = false) ∧
         t.now = max s.now (s.tim.holdAt + limitAfter (s.cfgN Param.hldInitPpb) (s.cfgN Param.hldDriftPpbDay)
           (s.cfgN Param.hldFreqLimitPpb) (s.cfgN Param.hldPhaseLimitNs) (s.cfgN Param.hldMaxS)) ∧
         t = { s.later t with tim := t.tim }) ∧
     (∀ (e : PpsEdge) (u : State), (s.tslot 5).actP = true → measurePulse e.intervalPs s = u → u.tim.selP = some 5 → s.mgt.fwReady = true →
       -500000000000 ≤ e.diffPs → e.diffPs < 500000000000 →
       (∀ r : Int × Int, e.diffPs.natAbs ≤ s.cfgN Param.ppsStepLimitNs * 1000 →
         r = Config.loop (bandwidthMhz (s.cfgN Param.dplSyncBw)) (s.now - s.tim.phaseAt.getD s.now) (-e.diffPs) 0 s.tim.phaseMem →
         exec (.ppsInEdge e) s = .next (setDeviceNs ((s.deviceNs : Int) + r.1 / 1000).toNat { u with
           tim.phaseErr := clampInt (-(2 ^ 31)) (2 ^ 31 - 1) e.diffPs
           tim.phaseAt := some s.now
           tim.phaseLocked := true
           tim.phaseMem := r.2 })) ∧
       (s.cfgN Param.ppsStepLimitNs * 1000 < e.diffPs.natAbs →
         ∃ t, exec (.ppsInEdge e) s = .next t ∧ t.tim.steps = satInc 32 s.tim.steps ∧ t.tim.phaseErr = 0 ∧
           t.deviceNs = ((s.deviceNs : Int) + -e.diffPs / 1000).toNat % (2 ^ 48 * 1000000000) ∧
           t = { s.told t with tim := t.tim, mon.stepped := true, mon.flagStep := true })) ∧
     (s.cfgB Param.ppsPpsEnable = true → s.syncOut = true →
       ∃ t, exec .ppsOut s = .next t ∧ t.tim.ppsHigh = true ∧ t.tim.ppsAt = some t.now ∧ t.tim.ppsSecond = some s.ppsNext ∧
         t.now = s.now + (s.ppsWait + 3999) / 4000 ∧ t.out = s.out ++ s.reaching (.pps true) ∧ t = { s.later t with tim := t.tim }) ∧
     (∀ x : Nat, s.tim.ppsHigh = true → s.tim.ppsAt = some x →
       ∃ t, exec .ppsPulseEnd s = .next t ∧ t.tim.ppsHigh = false ∧ t.out = s.out ++ s.reaching (.pps false) ∧
         t.now = max s.now (x + s.cfgN Param.ppsPpsWidthUs) ∧ t = { s.later t with tim := t.tim }) ∧
     (∀ (r : Request) (v : Nat), Admitted s r → r.target = ⟨3, 3, 0⟩ → v < 2 ^ 48 → r.payload = leBytes 8 v →
       s.tim.selP ≠ some 6 → s.tim.selP ≠ some 7 →
       ∃ t, exec (.timSetTime r) s = .next t ∧ t = { s.answered t with tim.setTime := some v }) ∧
     (∀ v : Nat, s.tim.setTime = some v →
       ∃ t, exec .timSetTimeApply s = .next t ∧ t.tim.devS = v ∧ t.tim.devNs = 0 ∧ t.tim.setTime = none ∧ t.tim.timeValid = true ∧
         t.tim.steps = satInc 32 s.tim.steps ∧
         t = { s.later t with tim := t.tim, mon.stepped := true, mon.flagStep := true })) ∧
  (∀ (s : State) (p : Fin 2), s.clk.timeStopped = false → s.mgt.fwReady = true →
     (∀ d : ClockData, s.ptpOn p = true → d.sender / 65536 ≠ s.fuses.deviceId → d.steps < 255 →
       ∃ t, exec (.ptpMessageRx p ⟨s.cfgN Param.ppsPtpDomain, .announce d⟩) s = .next t ∧ (t.ptpPort p).heard = some d ∧
         (t.ptpPort p).heardAt = s.now ∧
         (s.ptpCandidate = false → (s.ptpPort p).state ≠ 3 → (∀ q, q ≠ p → s.heardOn q = none) → (t.ptpPort p).state = 2) ∧
         t = { s.told t with tim := t.tim }) ∧
     (∀ off : Int, s.ptpOn p = true → (s.ptpPort p).state = 2 →
       ∃ t, exec (.ptpMessageRx p ⟨s.cfgN Param.ppsPtpDomain, .sync off⟩) s = .next t ∧ (t.ptpPort p).state = 3 ∧
         (t.ptpPort p).lastSync = some s.now ∧ (t.ptpPort p).heard = (s.ptpPort p).heard ∧ t.tim.timeValid = true ∧
         t.tim.ptpOffset = clampInt (-(2 ^ 31)) (2 ^ 31 - 1) off ∧ (s.dom.holdover = false → (t.tslot (ptpSlot p)).actP = true) ∧
         t = { s.told t with tim := t.tim, mon.stepped := t.mon.stepped, mon.flagStep := t.mon.flagStep }) ∧
     (s.ptpOn p = true → (s.ptpPort p).state = 4 →
       exec (.ptpMessageRx p ⟨s.cfgN Param.ppsPtpDomain, .delayReq⟩) s = .next { s with
         out := s.out ++ s.reaching (.ptp p.val 4 (s.cfgN Param.ppsPtpDomain) (s.cfgN Param.ppsPtpAddress) none) }) ∧
     (∀ k : Fin 4, s.ptpOn p = true → k.val ≠ 3 → (k.val = 2 → (s.ptpPort p).state = 2 ∨ (s.ptpPort p).state = 3) →
       (k.val ≠ 2 → (s.ptpPort p).state = 4) →
       exec (.ptpMessageTx p k) s = .next { s with
         out := s.out ++ s.reaching (.ptp p.val k.val (s.cfgN Param.ppsPtpDomain) (s.cfgN Param.ppsPtpAddress) none) }) ∧
     (∀ u : State, s.ptpOn p = true → judgePtp (expireMasters s) = u → (u.ptpPort p).state = 4 →
       exec (.ptpMessageTx p 3) s = .next { u with
         free := s.free + 1
         out := u.out ++ u.reaching (.ptp p.val 3 (s.cfgN Param.ppsPtpDomain) (s.cfgN Param.ppsPtpAddress) (some (u.announced p))) }) ∧
     (∀ x : Nat, (s.ptpPort p).lastSync = some x →
       ∃ t, exec (.ptpSyncTimeout p) s = .next t ∧ (t.ptpPort p).lastSync = none ∧ (t.tslot (ptpSlot p)).actP = false ∧
         t.now = max s.now (x + 187500) ∧ t = { s.later t with tim := t.tim }))

/-! ### FEH -/

/-- Triggers of the converters (R464 to R470): an apply copies the shadow pair with its length cut to 1 to 32; a trigger of an idle converter begins
a burst of the passes configured, of a busy one is missed and counted; urgent, timer, Flint and comparator triggers likewise; a stop marks
the burst. The other converter keeps what its own bit does not name.

Conversions (R461 to R465, R470, R472): a result of the urgent list goes to its register, scaled by the reference in use; one of a burst to
the buffer; the converter settles; the reference is judged with hysteresis; the read offset moves. -/
def Obligations.Housekeeping : Prop :=
  (∀ (s : State) (i : SeatId) (c : ConvId) (m : BitVec 2), s.hkSimultaneous = false → s.deviceState ≠ 4 →
     (Writes s i hkaPath →
       (∃ t, exec (.seqApply i m) s = .next t ∧ (t.hk c).start = (if m.getLsbD c.val then (s.hk c).startSh else (s.hk c).start) ∧
         (t.hk c).length = (if m.getLsbD c.val then max 1 (min 32 (s.hk c).lengthSh) else (s.hk c).length) ∧
         t = { s with feh.convs := t.feh.convs }) ∧
       (m.getLsbD c.val = true → (s.hk c).burst = false → (s.hk c).settling = false →
         ∃ t, exec (.seqTrigger i m) s = .next t ∧
           t.hk c = { s.hk c with burst := true, passes := s.cfgN Param.hkaBurstPasses 0 c.val,
                                  burstOf := s.cfgN Param.hkaBurstPasses 0 c.val, pass := s.passCodes c, stopping := false } ∧
           t = { s.told t with feh.convs := t.feh.convs }) ∧
       (m.getLsbD c.val = true → (s.hk c).burst = true →
         ∃ t, exec (.seqTrigger i m) s = .next t ∧ t.hk c = { s.hk c with missed := satInc 16 (s.hk c).missed } ∧
           t = { s.told t with feh.convs := t.feh.convs }) ∧
       (m.getLsbD c.val = true → (s.hk c).urgent = false → (s.hk c).settling = false → s.cfgN Param.hkaUrgLength 0 c.val ≠ 0 →
         ∃ t, exec (.urgentTrigger i m) s = .next t ∧ (t.hk c).urgent = true ∧ (t.hk c).urgPos = 0 ∧
           (t.hk c).urg = ((List.range (s.cfgN Param.hkaUrgLength 0 c.val)).map fun j => s.cfgN Param.hkaUrgInput 0 (8 * c.val + j)) ∧
           t = { s.told t with feh.convs := t.feh.convs }) ∧
       (∃ t, exec (.burstStop i m) s = .next t ∧
         (m.getLsbD c.val = false ∨ (s.hk c).burst = false → t.hk c = s.hk c) ∧
         (m.getLsbD c.val = true → (s.hk c).burst = true →
           if (s.hk c).settling = true ∨ (s.hk c).urgent = true then (t.hk c).burst = false ∧ (t.hk c).passes = 0 ∧ (t.hk c).pass = []
           else t.hk c = { s.hk c with stopping := true }) ∧
         t = { s with feh.convs := t.feh.convs })) ∧
     (s.cfg Param.hkaSeqTrigger 0 c.val = 1 → (s.hk c).burst = false → (s.hk c).settling = false →
       ∃ t, exec (.seqTimer c) s = .next t ∧ (t.hk c).burst = true ∧ (t.hk c).pass = s.passCodes c ∧
         (t.hk c).timerAt = (s.hk c).timerAt + s.cfgN Param.hkaTimerUs 0 c.val ∧ t.now = max s.now (t.hk c).timerAt ∧
         t = { s.later t with feh.convs := t.feh.convs }) ∧
     (∀ n : Nat, s.dom.flint.hkDue = n + 1 → s.cfg Param.hkaSeqTrigger 0 c.val = 2 → (s.hk c).burst = false → (s.hk c).settling = false →
       ∃ t, exec .flintHkTrigger s = .next t ∧ (t.hk c).burst = true ∧ (t.hk c).pass = s.passCodes c ∧
         t = { s.told t with feh.convs := t.feh.convs, dom.flint.hkDue := n }) ∧
     (∀ (k : Fin 8) (uv : Nat) (below above was : Bool), s.windowSide k uv = (below, above) →
       was = (s.feh.below.getLsbD k.val || s.feh.above.getLsbD k.val) →
       ∃ t, exec (.compCrossing k uv) s = .next t ∧ t.feh.below = withBit s.feh.below k.val below ∧
         t.feh.above = withBit s.feh.above k.val above ∧
         t.feh.cross = (if was = (below || above) ∨ bits (s.cfgN Param.hkaCompMode 0 k.val) (bit (!(below || above))) 1 = 0 then s.feh.cross
           else withBit s.feh.cross k.val true) ∧
         t = { s.told t with feh.convs := t.feh.convs, feh.below := t.feh.below, feh.above := t.feh.above, feh.cross := t.feh.cross })) ∧
  (∀ (s : State) (c : ConvId), s.deviceState ≠ 4 →
     (∀ (uv other : Int) (vref code : Nat) (rest : List Nat), (s.hk c).settling = false →
       ((s.hk c).urg = code :: rest → (s.hk c).refUsed = 0 →
         ∃ t, exec (.hkConversion c uv other vref) s = .next t ∧ (t.hk c).urg = rest ∧ (t.hk c).urgPos = (s.hk c).urgPos + 1 ∧
           (t.hk c).urgRes[(s.hk c).urgPos % 8]? = some (hkFormat (s.cfgB Param.hkaAlign 0 c.val) (hkResult code uv 1200000)) ∧
           (t.hk c).urgent = ((s.hk c).urgent && decide (rest ≠ [])) ∧ t = { s.told t with feh.convs := t.feh.convs }) ∧
       ((s.hk c).urg = [] → s.hkSimultaneous = false → (s.hk c).pass = code :: rest → rest ≠ [] → (s.hk c).stopping = false →
         (s.hk c).refUsed = 2 →
         exec (.hkConversion c uv other vref) s = .next
           (dmaWrite c (hkFormat (s.cfgB Param.hkaAlign 0 c.val) (hkResult code uv 1800000)) (s.onHk c fun k => { k with pass := rest }))) ∧
       (s.hkSimultaneous = true → c.val = 0 → (s.hk 0).urg = [] → (s.hk 1).urg = [] → (s.hk 1).settling = false →
         ∃ t, exec (.hkConversion c uv other vref) s = .next t ∧ (t.hk 0).urg = [] ∧ (t.hk 1).urg = [] ∧
           t = { s.told t with feh.convs := t.feh.convs, mem := t.mem })) ∧
     ((s.hk c).settling = true → (s.hk c).heldSeq = false → (s.hk c).heldUrg = false → s.hkSimultaneous = false →
       ∃ t, exec (.refSettled c) s = .next t ∧ t.hk c = { s.hk c with settling := false, settledAt := t.now } ∧
         t.now = max s.now ((s.hk c).settleAt + if (s.hk c).refUsed = 1 then 5 else 40) ∧
         t = { s.later t with feh.convs := t.feh.convs }) ∧
     (∀ uv : Nat, (s.hk c).refUsed = 1 →
       ∃ t, exec (.vrefCheck uv) s = .next t ∧
         t.hk c = { s.hk c with vrefFault := if (s.hk c).vrefFault then !decide (1000000 ≤ uv ∧ uv ≤ 1800000)
                                             else decide (uv < 900000 ∨ 1900000 < uv) } ∧
         t = { s.told t with feh.convs := t.feh.convs }) ∧
     (∀ (i : SeatId) (v : BitVec 20), Writes s i hkaPath →
       ∃ t, exec (.dmaRdOffset i c v) s = .next t ∧ (t.hk c).rd = v.toNat ∧
         (t.hk c).full = ((s.hk c).full && decide (v.toNat = (s.hk c).rd)) ∧ (∀ d, d ≠ c → t.hk d = s.hk d) ∧
         t = { s with feh.convs := t.feh.convs }))

/-- Results (R462): right alignment puts a result in [11:0], with zeros above it if it is single-ended and copies of bit 11 if it is
differential; left alignment puts it in [15:4] over four zeros. -/
def Obligations.ResultFormat : Prop :=
  ∀ v : Int,
    (0 ≤ v → v ≤ 4095 → bits (hkFormat false v) 0 12 = v.toNat ∧ bits (hkFormat false v) 12 4 = 0) ∧
    (-2048 ≤ v → v ≤ 2047 → bits (hkFormat false v) 0 12 = natOfInt 12 v ∧
      ∀ b, 12 ≤ b → b < 16 → (hkFormat false v).testBit b = (hkFormat false v).testBit 11) ∧
    (-2048 ≤ v → v ≤ 4095 → bits (hkFormat true v) 4 12 = natOfInt 12 v ∧ bits (hkFormat true v) 0 4 = 0) ∧
    (-2048 ≤ v → v ≤ 4095 → ∀ left : Bool, hkFormat left v < 2 ^ 16)

/-- DACs, bias control and the laser port (R474 to R482): a ramp reaches its target; a short dwell is discarded and a full one gives the error of
its bias, and either goes on to the next; a relock unlocks every bias; the port carries one packet at a time, and its response, a bad
checksum and a missing response do what the rules give; the loop reads the laser before it steps it, and steps within its limit. -/
def Obligations.BiasAndLaser : Prop :=
  ∀ s : State,
    (∀ (n : HkDacId) (x : Nat), s.feh.dacs[n].rampAt = some x →
      ∃ t, exec (.hkdRampDone n) s = .next t ∧ t.feh.dacs[n] = { code := s.feh.dacs[n].target, target := s.feh.dacs[n].target } ∧
        (∀ k, k ≠ n → t.feh.dacs[k] = s.feh.dacs[k]) ∧ t = { s.later t with feh.dacs := t.feh.dacs }) ∧
    (∀ (b : Fin 6) (c : ConvId) (samples made : List (Nat × Int)) (vref want ends : Nat), s.deviceState ≠ 4 → s.feh.active = some b →
      s.clk.safeState = false → s.biasOn b = true → c.val = s.cfgN Param.abcConverter % 2 → want = 16 * s.cfgN Param.abcDwellPeriods →
      made = s.dwellSamples samples vref →
      ends = s.feh.dwellAt + s.cfgN Param.abcDwellPeriods * 1000000 / max 1 (s.cfgN Param.abcDitherHz) →
      ((s.hk c).settling = true ∨ s.feh.dwellAt < (s.hk c).settledAt ∨ 16 * made.length < 15 * want ∨ made = [] →
        exec (.abcDwell samples vref) s = .next (startDwell (s.nextBias (some b)) (s.reach ends))) ∧
      ((s.hk c).settling = false → (s.hk c).settledAt ≤ s.feh.dwellAt → 15 * want ≤ 16 * made.length → made ≠ [] →
        ∃ t, exec (.abcDwell samples vref) s = .next t ∧ t.now = max s.now ends ∧ t.feh.active = s.nextBias (some b) ∧
          t.feh.dwellAt = t.now ∧
          t.feh.biases[b].error = clampInt (-32768) 32767 (roundNearest (16 * ditherSum made) made.length) ∧ t.feh.samples = [] ∧
          (∀ k, k ≠ b → t.feh.biases[k] = s.feh.biases[k]) ∧
          (∀ n, n ≠ biasDac b → t.feh.dacs[n] = s.feh.dacs[n]) ∧ t = { s.later t with feh := t.feh })) ∧
    (∀ r : Request, Admitted s r → r.target = ⟨14, 2, 0⟩ → r.payload = [] →
      ∃ t, exec (.abcRelock r) s = .next t ∧ (∀ b : Fin 6, t.feh.biases[b].locked = false) ∧ t.feh.active = s.nextBias none ∧
        (∀ c : ConvId, (t.hk c).abcRun = none) ∧
        t = { s.answered t with feh.biases := t.feh.biases, feh.active := t.feh.active, feh.dwellAt := s.now, feh.samples := []
                                feh.convs := t.feh.convs }) ∧
    (s.itlOn = true → s.feh.itl.busy = none → s.boundaryHeld = false → (∀ w, s.mem.flipsOf 0 w = 0) →
      (∀ (n : Nat) (ws : List Word64), s.loopOn = false →
        s.mem.queues[(10 : Fin 24)].packetLength = some n → (s.mem.queues[(10 : Fin 24)].words.take n).map SpqWord.data = ws →
        ∀ b0 b1 b2 b3, leBytes 4 ((ws.map BitVec.toNat).headD 0) = [b0, b1, b2, b3] →
        ∃ t, exec .itlTxPacket s = .next t ∧
          t.out.getLast? = some (.itl (itlPacket b0 b1 b2 b3)) ∧ t.feh.itl = { s.feh.itl with busy := some .seat, sentAt := s.now } ∧
          t.mem.queues[(10 : Fin 24)].words = s.mem.queues[(10 : Fin 24)].words.drop n ∧
          t = { s.queueMoved 10 t with feh.itl := t.feh.itl }) ∧
      (∀ v : Int, s.loopOn = true → s.feh.itl.waits = some (.loopWrite v) →
        exec .itlTxPacket s = .next { s with
          feh.itl := { s.feh.itl with busy := some (.loopWrite v), waits := none, sentAt := s.now, written := v,
                                      updates := satInc 32 s.feh.itl.updates }
          out := s.out ++ [.itl (itlPacket 1 0x62 (BitVec.ofNat 8 (natOfInt 16 v / 256)) (BitVec.ofNat 8 (natOfInt 16 v)))] })) ∧
    (∀ (b : Vector Byte 4) (c : ItlCommand), s.feh.itl.busy = some c →
      (b[0] &&& 0xF0 = itlChecksum b[0] b[1] b[2] b[3] →
        (c = .seat → (∀ w, s.mem.flipsOf 0 w = 0) → s.mem.queues[(11 : Fin 24)].dropping = false →
          1 + s.mem.queues[(11 : Fin 24)].count ≤ s.queueCapacity 11 →
          ∃ t, exec (.itlResponse b) s = .next t ∧ t.feh.itl = { s.feh.itl with busy := none, status := b[0].toNat } ∧
            t.mem.queues[(11 : Fin 24)].words = s.mem.queues[(11 : Fin 24)].words ++
              [⟨BitVec.ofNat 64 (leNat b.toList + s.now % 2 ^ 32 * 2 ^ 32), true⟩] ∧
            t = { s.queueMoved 11 t with feh.itl := t.feh.itl }) ∧
        (∀ v : Int, v = intOfNat 16 (b[2].toNat * 256 + b[3].toNat) → c = .loopRead → b[0].toNat % 4 = 0 ∨ b[0].toNat % 4 = 3 →
          exec (.itlResponse b) s = .next { s with
            feh.itl := { s.feh.itl with busy := none, status := b[0].toNat, ftf := v, inForce := v, known := s.loopOn } })) ∧
      (b[0] &&& 0xF0 ≠ itlChecksum b[0] b[1] b[2] b[3] →
        ∃ t, exec (.itlResponse b) s = .next t ∧ t.feh.itl = { s.feh.itl with checksum := satInc 16 s.feh.itl.checksum } ∧
          t = { s.told t with feh.itl := t.feh.itl }) ∧
      (∃ t, exec .itlRspTimeout s = .next t ∧ t.feh.itl = { s.feh.itl with busy := none, timeouts := satInc 16 s.feh.itl.timeouts } ∧
        t.now = max s.now (s.feh.itl.sentAt + s.cfgN Param.itlRspTimeoutMs * 1000) ∧ t = { s.later t with feh.itl := t.feh.itl })) ∧
    (s.loopOn = true →
      (s.feh.itl.known = false →
        ∃ t, exec .ftfLoopPeriod s = .next t ∧ t.feh.itl.waits = some .loopRead ∧ t = { s.later t with feh.itl := t.feh.itl }) ∧
      (∀ fo : Int, s.feh.itl.known = true → s.loopEstimate = some fo → s.cfgN Param.itlFtfDeadbandMhz * 1000 < fo.natAbs →
        0 ≤ s.cfg Param.itlFtfLimitMhz →
        ∃ t, exec .ftfLoopPeriod s = .next t ∧ t = { s.later t with feh.itl := t.feh.itl } ∧
          t.feh.itl.waits = some (.loopWrite t.feh.itl.ftf) ∧
          t.feh.itl.ftf = clampInt (-(s.cfg Param.itlFtfLimitMhz)) (s.cfg Param.itlFtfLimitMhz)
            (s.feh.itl.ftf + clampInt (-(s.cfg Param.itlFtfMaxStepMhz)) (s.cfg Param.itlFtfMaxStepMhz)
              (roundNearest ((if s.cfg Param.itlFtfSign = 1 then -1 else 1) * fo * s.cfg Param.itlFtfGainPct) 100000)) ∧
          -(s.cfg Param.itlFtfLimitMhz) ≤ t.feh.itl.ftf ∧ t.feh.itl.ftf ≤ s.cfg Param.itlFtfLimitMhz))

/-! ### Ownership, slates and seats -/

/-- Ownership (R61 to R65), for a list of any paths: a claim takes the targets that nobody owns and leaves the others, and the targets that
it finds owned are remembered as its failed claim; one that repeats a failed claim is refused as a whole; an owner releases or delegates,
but not its own seat's Unit; seat 0, and it alone, reclaims from owners that do not hold. No other target changes owner, and a change of
owner clears the target's slates and those alone. -/
def Obligations.Ownership : Prop :=
  ∀ (s : State) (r : Request) (ws : List Nat) (ps : List Path), Served s r → r.target = ⟨0, 4, 0⟩ → ps = ws.map Path.ofWord →
    (readPaths r.payload false = .ok ws →
      (isRepeat r ps s = false →
        ∃ t, exec (.claim r) s = .next t ∧
          (∀ q, q.isTarget = true → t.ownerOf q =
            if q ∈ ps ∧ s.resetRequired q = false ∧ s.ownerOf q = none then some r.seat else s.ownerOf q) ∧
          (∀ q i, q.isTarget = true → (t.seat i).recordsFor q = if t.ownerOf q = s.ownerOf q then (s.seat i).recordsFor q else []) ∧
          (t.seat r.seat).failedClaim = (if ownedTargets r.seat ps s = [] then (s.seat r.seat).failedClaim
            else some (failedClaimOf r (ownedTargets r.seat ps s) t)) ∧
          t = { s.answered t with mgt.owners := t.mgt.owners, mgt.seats := t.mgt.seats }) ∧
      (isRepeat r ps s = true → ∃ t, exec (.claim r) s = .next t ∧ t = s.answered t) ∧
      (∃ t, exec (.release r) s = .next t ∧
        (∀ q, q.isTarget = true → t.ownerOf q =
          if q ∈ ps ∧ s.resetRequired q = false ∧ ownSeat r.seat q = false ∧ s.ownerOf q = some r.seat then none else s.ownerOf q) ∧
        (∀ q i, q.isTarget = true → (t.seat i).recordsFor q = if t.ownerOf q = s.ownerOf q then (s.seat i).recordsFor q else []) ∧
        t = { s.answered t with mgt.owners := t.mgt.owners, mgt.seats := t.mgt.seats }) ∧
      (r.seat = 0 →
        ∃ t, exec (.reclaim r) s = .next t ∧
          (∀ q, q.isTarget = true → t.ownerOf q =
            if q ∈ ps ∧ s.resetRequired q = false ∧ foreignSeat 0 q = false ∧ (∀ o, s.ownerOf q = some o → (s.seat o).holds = false) then some 0
            else s.ownerOf q) ∧
          (∀ q i, q.isTarget = true → (t.seat i).recordsFor q = if t.ownerOf q = s.ownerOf q then (s.seat i).recordsFor q else []) ∧
          t = { s.answered t with mgt.owners := t.mgt.owners, mgt.seats := t.mgt.seats })) ∧
    (r.seat ≠ 0 → Answers s .reclaim r (refusal stNotPermitted)) ∧
    (∀ j : SeatId, 4 ≤ r.payload.length → u32At r.payload 0 = j.val → readPaths (r.payload.drop 4) false = .ok ws →
      ((s.seat j).attached = true →
        ∃ t, exec (.delegate r) s = .next t ∧
          (∀ q, q.isTarget = true → t.ownerOf q =
            if q ∈ ps ∧ s.resetRequired q = false ∧ ownSeat r.seat q = false ∧ s.ownerOf q = some r.seat then some j else s.ownerOf q) ∧
          (∀ q i, q.isTarget = true → (t.seat i).recordsFor q = if t.ownerOf q = s.ownerOf q then (s.seat i).recordsFor q else []) ∧
          t = { s.answered t with mgt.owners := t.mgt.owners, mgt.seats := t.mgt.seats }) ∧
      ((s.seat j).attached = false → Answers s .delegate r (refusal stNotPermitted)))

/-- Slates (R60, R66): a write enters all its records, or none if one is not good; a clear leaves nothing of the target and all else; the running
values stay.

`MUTE` and `EVENT_ACK` (R111, R374, R561): a lane's transmitter or a DAC channel is muted or released as told; the named sticky bits are cleared, and
the answer shows what remains. -/
def Obligations.SlatesAndMutes : Prop :=
  (∀ (s : State) (r : Request), Admitted s r →
     (∀ rs : List ParamRecord, r.payload.length = 12 * rs.length → rs.length ≤ 83 → (records 12 r.payload).map ParamRecord.ofBytes = rs →
       (rs.any (fun x => deviceWide r.target x.num) = false →
         (rs.findIdx? (fun x => (x.value r.target).isNone) = none →
           ∃ t, exec (.slateWrite r) s = .next t ∧
             t.seat r.seat = { (s.answered t).seat r.seat with
               slate := rs.foldl (fun m x => match x.value r.target with
                   | some v => nmPut m (paramKey r.target x.num x.elem) v
                   | none => m) (s.seat r.seat).slate
               urgentOut := (t.seat r.seat).urgentOut } ∧
             t = { s.answered t with mgt.seats := t.mgt.seats }) ∧
         (∀ n, rs.findIdx? (fun x => (x.value r.target).isNone) = some n → Answers s .slateWrite r (refusal stBadValue n))) ∧
       (rs.any (fun x => deviceWide r.target x.num) = true → Answers s .slateWrite r (refusal stBadTarget))) ∧
     (r.payload = [] →
       ∃ t, exec (.slateClear r) s = .next t ∧ (t.seat r.seat).recordsFor r.target = [] ∧
         (∀ p, p ≠ r.target → (t.seat r.seat).recordsFor p = (s.seat r.seat).recordsFor p) ∧
         (∀ i, i ≠ r.seat → t.seat i = (s.answered t).seat i) ∧ t = { s.answered t with mgt.seats := t.mgt.seats })) ∧
  (∀ (s : State) (r : Request) (on : Bool),
     (Admitted s r → r.payload = leBytes 4 (bit on) →
       (∀ l : LaneId, r.target = ⟨13, l.val, 0⟩ →
         ∃ t, exec (.mute r) s = .next t ∧ t.lane l = { s.lane l with muted := on } ∧ (∀ m, m ≠ l → t.lane m = s.lane m) ∧
           t = { s.answered t with hst.lanes := t.hst.lanes }) ∧
       (∀ ch : Fin 4, r.target = ⟨5, 4 + ch.val, 0⟩ →
         ∃ t, exec (.mute r) s = .next t ∧ t.cnv.dacs[ch] = { s.cnv.dacs[ch] with muteCommand := on } ∧
           (∀ k : Fin 4, k ≠ ch → t.cnv.dacs[k] = s.cnv.dacs[k]) ∧ t = { s.answered t with cnv.dacs := t.cnv.dacs }) ∧
       (r.target.sec ≠ 13 → r.target.sec ≠ 5 → Answers s .mute r (refusal stBadTarget))) ∧
     (∀ m : BitVec 256, Asked s r → r.payload = leBytes 32 m.toNat →
       ∃ t, exec (.eventAck r) s = .next t ∧ (t.seat r.seat).events.sticky = (s.seat r.seat).events.sticky &&& ~~~ m ∧
         (∀ i, i ≠ r.seat → (t.seat i).events = (s.seat i).events) ∧ t = s.answered t))

/-- Answers (Table 2.19 and the operation tables of FRM, LOD, TIM, FEH and PWR): what the queries return.

A query changes nothing but its channel and the seats' responses, whatever it asks and however it is answered (R54, R57). -/
def Obligations.Queries : Prop :=
  (∀ (s : State) (r : Request), Asked s r →
     (r.payload = [] →
       Answers s .nop r (okWith (leBytes 1 1 ++ leBytes 1 0 ++ leBytes 2 s.mgt.seq.version ++ leBytes 4 s.mgt.build)) ∧
       (r.target = ⟨9, 0, 0⟩ →
         Answers s .frmTtiRead r (okWith ((s.frm.smTti.toList ++ s.frm.pmTti.toList).map (BitVec.ofNat 8)))) ∧
       (r.target = ⟨11, 2, 0⟩ → s.lod.identified = true → Answers s .lodPartnerQuery r
         (okWith (s.lod.partner ++ leBytes 4 (s.now - s.lod.partnerAt) ++ leBytes 4 s.lod.partnerMetric))) ∧
       (r.target = ⟨11, 2, 0⟩ → s.lod.identified = false → Answers s .lodPartnerQuery r (okWith (List.replicate 40 0))) ∧
       (r.target = ⟨3, 0, 0⟩ → Answers s .timQuery r (okWith ((indices 8).flatMap fun n =>
         leBytes 4 (natOfInt 32 (s.tslot n).soft) ++ leBytes 4 (s.slotStatus n)))) ∧
       (r.target = ⟨14, 3, 0⟩ → Answers s .itlLoopQuery r (okWith (leBytes 2 (natOfInt 16 s.feh.itl.inForce) ++
         leBytes 4 (natOfInt 32 s.feh.itl.lastFo) ++ leBytes 4 s.feh.itl.updates ++ leBytes 1 s.feh.itl.status ++ [0]))) ∧
       (r.target = ⟨1, 1, 0⟩ → Answers s .pwrQuery r (okWith ((indices 4).flatMap
         (fun i => toleranceBytes fun g => s.pwr.tolerances[i][g]) ++
           toleranceBytes fun g => if s.flintGroup g then s.pwr.flintTol else none)))) ∧
     (∀ c : ChannelId, r.target = ⟨10, 0, c.val⟩ → r.payload = [] → Answers s .secChannelQuery r
       (okWith (leBytes 1 (s.cfgN Param.cipMode c.val) ++ leBytes 1 (s.cfgN Param.cipClient c.val) ++
         leBytes 1 (slotOf c (s.channel c).txSlot).val ++ leBytes 1 (slotOf c (s.channel c).rxSlot).val ++
         leBytes 4 ((s.channel c).txEpoch.getD 0) ++ leBytes 4 ((s.channel c).rxEpoch.getD 0) ++ leBytes 8 (s.channel c).txCounter ++
         leBytes 2 (s.channel c).consec ++ leBytes 2 0 ++ leBytes 8 (((s.channel c).pending.map KeyChange.sf).getD 0)))) ∧
     (∀ n : Fin 16, r.target = ⟨13, 17, 0⟩ → r.payload = [BitVec.ofNat 8 n.val] → Answers s .flexeCalQuery r
       (okWith (((List.range 80).map fun i => BitVec.ofNat 8 ((nmGet s.hst.calendar (80 * n.val + i)).getD 255)) ++
         (List.range 80).map fun i => BitVec.ofNat 8 ((nmGet s.hst.standby (80 * n.val + i)).getD 255)))) ∧
     (∀ c : Fin 64, r.target = ⟨9, 1, 0⟩ → r.payload = [BitVec.ofNat 8 c.val] → Answers s .frmClientQuery r
       (okWith (leBytes 1 (s.clientType c.val) ++ leBytes 1 (s.firstUnit c.val) ++ leBytes 1 (s.unitsOf c.val) ++
         leBytes 1 (s.hostPort c.val) ++ leBytes 1 (s.classOf c.val) ++ leBytes 3 0 ++ leBytes 8 s.frm.clients[c].hostKbps))) ∧
     (∀ (n : Nat) (bs : List (List Byte)), n ≤ 83 → r.payload.length = 4 * n →
       (∀ x ∈ records 4 r.payload, deviceWide r.target (u16At x 0) = false) →
       (records 4 r.payload).map (readItem s r.target) = bs.map some → Answers s .paramRead r (okWith bs.flatten)) ∧
     (∀ n : Fin 1024, s.owns r.seat r.target = true → r.payload = leBytes 2 n.val → Answers s .slateRead r
       (okWith (leBytes 2 ((s.seat r.seat).recordsFor r.target).length ++ leBytes 2 0 ++
         (((s.seat r.seat).recordsFor r.target).drop n.val |>.take 83).flatMap fun e =>
           recordBytes (keyNum e.1) (keyElem e.1) e.2))) ∧
     (∀ ws : List Nat, r.target = ⟨0, 4, 0⟩ → readPaths r.payload false = .ok ws →
       Answers s .ownerQuery r (okWith (ws.flatMap fun w =>
         if (Path.ofWord w).isTarget = false then [0xFF, 0x80]
         else match s.ownerOf (Path.ofWord w) with
           | none => [0xFF, 0]
           | some o => leBytes 1 o.val ++
               leBytes 1 (bit (s.seat o).absent + 2 * bit (s.seat o).detached + 4 * bit (s.seat o).quarantined))))) ∧
  (∀ (s : State) (r : Request),
     ∀ c ∈ [Instr.nop r, .frmTtiRead r, .frmClientQuery r, .secChannelQuery r, .lodPartnerQuery r, .timQuery r, .pwrQuery r,
         .itlLoopQuery r, .flexeCalQuery r, .domMemberQuery r, .ownerQuery r, .paramRead r, .slateRead r, .pmLocate r],
       ∃ t, exec c s = .next t ∧ t = s.answered t)

/-- Seats (R44 to R47, R77): attach with the protocol version of the device, heartbeat, its timeout and absence, detach, and a seat reset that
leaves rings, slates and quarantine as after reset. Where the seat has no commit in progress, a reset changes nothing but the seat, what waits for
it and its queues.

PCIe resets (R36, R532): a function level reset resets the seat of the function with its MSI-X table; `PERST` resets and detaches both PCIe
seats and holds the endpoint until it is released. -/
def Obligations.SeatLifeAndLinks : Prop :=
  (∀ (s : State) (i : SeatId), s.clk.mgmtStopped = false →
     ((s.seat i).quarantined = false →
       (∀ v : Word, v.toNat / 2 ^ 16 % 2 ^ 8 = 1 → (s.seat i).detached = false → (s.seat i).absent = false →
         ∃ t, exec (.attach i v) s = .next t ∧ (t.seat i).attached = true ∧ (t.seat i).absent = false ∧ (t.seat i).detached = false ∧
           (t.seat i).nonceEcho = v.toNat % 2 ^ 16 ∧ (t.seat i).seqExpect = 0 ∧ (t.seat i).hbStart = s.now ∧
           t = { s.told t with mgt.seats := t.mgt.seats, pwr.groups := t.pwr.groups }) ∧
       (∀ v : Word, v.toNat / 2 ^ 16 % 2 ^ 8 = 1 → (s.seat i).detached = true ∨ (s.seat i).absent = true →
         ∃ t, exec (.attach i v) s = .next t ∧ (t.seat i).attached = true ∧ (t.seat i).absent = false ∧ (t.seat i).detached = false ∧
           (t.seat i).slate = [] ∧ (t.seat i).reqTail = 0 ∧ (t.seat i).rspTail = 0 ∧
           t = s.dropped t) ∧
       (∀ v : Word, v.toNat / 2 ^ 16 % 2 ^ 8 ≠ 1 →
         exec (.attach i v) s = .next (s.onSeat i fun q => { q with writeRefused := true })) ∧
       (∀ v : Word, exec (.heartbeat i v) s = .next (s.onSeat i fun q => { q with beat := v.toNat, hbStart := s.now })) ∧
       (∀ v : Word, v.toNat < 2 ^ 16 → v.toNat = 0 ∨ (10 ≤ v.toNat ∧ v.toNat ≤ 60000) →
         exec (.seatHbTimeoutWrite i v) s = .next (s.onSeat i fun q => { q with hbTimeoutMs := v.toNat, hbStart := s.now })) ∧
       (∃ t, exec (.detach i) s = .next t ∧ (t.seat i).attached = false ∧ (t.seat i).slate = [] ∧
         ((s.seat i).attached = true → (t.seat i).detached = true) ∧ t.pwr.tolerances[i] = Vector.replicate 4 none ∧
         (∀ j : SeatId, j ≠ i → t.pwr.tolerances[j] = s.pwr.tolerances[j]) ∧
         t = { s.dropped t with pwr.tolerances := t.pwr.tolerances })) ∧
     ((s.seat i).attached = true → (s.seat i).absent = false → (s.seat i).hbTimeoutMs ≠ 0 →
       ∃ t, exec (.seatAbsent i) s = .next t ∧ (t.seat i).absent = true ∧ (t.seat i).attached = true ∧
         t.now = max s.now ((s.seat i).hbStart + 1000 * (s.seat i).hbTimeoutMs) ∧
         t = { s.later t with mgt.seats := t.mgt.seats }) ∧
     (∃ t, exec (.seatReset i) s = .next t ∧ (t.seat i).slate = [] ∧ (t.seat i).quarantined = false ∧
       (t.seat i).reqHead = 0 ∧ (t.seat i).reqTail = 0 ∧ (t.seat i).rspHead = 0 ∧ (t.seat i).rspTail = 0 ∧
       (t.seat i).attached = (s.seat i).attached ∧ (∀ r ∈ t.mgt.channel, r.seat ≠ i) ∧
       t = s.dropped t ∧
       ((∀ c ∈ s.mgt.commits, c.req.seat ≠ i) →
         t = { s.told t with mgt.seats := t.mgt.seats, mgt.channel := t.mgt.channel, mgt.waiting := t.mgt.waiting,
                             mon.waiting := t.mon.waiting, mon.atBoundary := t.mon.atBoundary, mem.queues := t.mem.queues,
                             mem.flips := t.mem.flips }))) ∧
  (∀ s : State,
     (∀ (pf : Fin 2) (i : SeatId), seatOfFunction s.mapB pf = i →
       ∃ t, exec (.functionLevelReset pf) s = .next t ∧ (t.seat i).slate = [] ∧ (t.seat i).quarantined = false ∧
         (t.seat i).msix = Vector.replicate 64 {} ∧ (t.seat i).msixPending = 0 ∧
         (t.seat i).attached = (s.seat i).attached ∧ (∀ r ∈ t.mgt.channel, r.seat ≠ i) ∧
         t = s.dropped t) ∧
     (∃ t, exec .pciePerst s = .next t ∧ t.mgt.perst = true ∧
       (∀ pf : Fin 2, (t.seat (seatOfFunction s.mapB pf)).attached = false ∧ (t.seat (seatOfFunction s.mapB pf)).slate = [] ∧
         (t.seat (seatOfFunction s.mapB pf)).quarantined = false ∧
         ((s.seat (seatOfFunction s.mapB pf)).attached = true → (t.seat (seatOfFunction s.mapB pf)).detached = true)) ∧
       t = { s.dropped t with mgt.perst := true, pwr.tolerances := t.pwr.tolerances }) ∧
     exec .pciePerstRelease s = .next { s with mgt.perst := false })

/-- A doorbell of a seat that is not attached (R45) is ignored: the seat's `WRITE_REFUSED` sets, and nothing is accepted, answered or counted as a
violation; errors of memory that come with it only stand in the ring. -/
def Obligations.DoorbellIgnored : Prop :=
  ∀ (s : State) (i : SeatId) (tail : BitVec 7) (upsets : List (Nat × Nat)), s.clk.mgmtStopped = false → (s.seat i).quarantined = false →
    (s.seat i).attached = false →
    ∃ t, exec (.doorbell i tail upsets) s = .next t ∧ t.seat i = { s.seat i with writeRefused := true } ∧
      (∀ j, j ≠ i → t.seat j = s.seat j) ∧ t = { s with mgt.seats := t.mgt.seats, mem.flips := t.mem.flips } ∧
      (upsets = [] → t.mem = s.mem)

/-- Rings (R54, R74, R441, R589): bytes that a seat writes into its request ring stand there; a doorbell for one good single-entry request
passes it to its channel, counts its sequence number and moves the head; a tail that overruns the ring is a violation and moves nothing; a
written response head frees its entries; a ring full for a millisecond is noted.

Writes that no register takes (R39, R75, R533): a violation of type 5; in the boot window bytes of the firmware image. -/
def Obligations.RingServing : Prop :=
  (∀ (s : State) (i : SeatId), s.clk.mgmtStopped = false → (s.seat i).quarantined = false →
     (∀ (off : Fin 8192) (bs : List Byte), (∀ w, s.mem.flipsOf 1 w = 0) → off.val + bs.length ≤ 8192 → s.memoryWf = true →
       ringAccess (isPcieSeat s.mapB i) off.val bs.length = true →
       ∃ t, exec (.ringEntryWrite i off bs 0) s = .next t ∧
         (∀ a, a < 8192 → readBytes (t.seat i).reqRing a 1 =
           if off.val ≤ a ∧ a < off.val + bs.length then [bs.getD (a - off.val) 0] else readBytes (s.seat i).reqRing a 1) ∧
         t.seat i = { s.seat i with reqRing := (t.seat i).reqRing } ∧ (∀ j, j ≠ i → t.seat j = s.seat j) ∧
         t = { s with mgt.seats := t.mgt.seats, mem.rmwCount := t.mem.rmwCount }) ∧
     ((s.seat i).attached = true →
       (∀ (bytes : List Byte) (h : Header) (c : CmdClass), (s.seat i).doorbells = [] → (s.seat i).reqTail = (s.seat i).reqHead →
         (s.seat i).rspFull = false → (s.seat i).rspWait = [] → (∀ w, s.mem.flipsOf 1 w = 0) →
         readBytes (s.seat i).reqRing (ringOffset (s.seat i).reqHead) 128 = bytes → Header.ofNat (leNat (bytes.take 16)) = h →
         h.length ≤ 108 → h.entries = 0 → firstRsvBit (leNat (bytes.take 16)) = none → classOfCode h.cls = some c → c ≠ .urgent →
         crc32c (bytes.take (16 + h.length)) = leNat ((bytes.drop (16 + h.length)).take 4) → h.seq = (s.seat i).seqExpect.toNat →
         ∃ t, exec (.doorbell i ((s.seat i).reqTail + 1) []) s = .next t ∧
           t.mgt.channel = s.mgt.channel ++
             [⟨i, c, h.quiet, h.opcode, h.tag, h.seq, h.target, (bytes.drop 16).take h.length, s.now⟩] ∧
           (t.seat i).reqHead = (s.seat i).reqHead + 1 ∧ (t.seat i).reqTail = (s.seat i).reqTail + 1 ∧
           (t.seat i).seqExpect = (s.seat i).seqExpect + 1 ∧ (t.seat i).doorbells = [] ∧ (∀ j, j ≠ i → t.seat j = s.seat j) ∧
           t = { s with mgt.seats := t.mgt.seats, mgt.channel := t.mgt.channel }) ∧
       (∀ tail : BitVec 7, 64 < ((s.seat i).reqTail - (s.seat i).reqHead).toNat + (tail - (s.seat i).reqTail).toNat →
         tail ≠ (s.seat i).reqTail →
         ∃ t, exec (.doorbell i tail []) s = .next t ∧ (t.seat i).reqTail = (s.seat i).reqTail ∧ (t.seat i).reqHead = (s.seat i).reqHead ∧
           (t.seat i).violTotal = satInc 16 (s.seat i).violTotal ∧ t = { s.told t with mgt.seats := t.mgt.seats })) ∧
     (∀ head : BitVec 7, (s.seat i).rspWait = [] → (s.seat i).doorbells = [] → ((s.seat i).rspTail - head).toNat < 64 →
       exec (.rspHeadWrite i head) s = .next (s.onSeat i fun q => { q with rspHead := head, rspFullSince := none, rspStalled := false })) ∧
     (∀ x : Nat, (s.seat i).rspFullSince = some x → (s.seat i).rspStalled = false →
       ∃ t, exec (.rspRingStalled i) s = .next t ∧ (t.seat i).rspStalled = true ∧ t.now = max s.now (x + 1000) ∧
         t = { s.later t with mgt.seats := t.mgt.seats })) ∧
  (∀ (s : State) (i : SeatId) (bs : List Byte), s.clk.mgmtStopped = false → (s.seat i).quarantined = false →
     (∃ t, exec (.unmappedWrite i none bs) s = .next t ∧ (t.seat i).writeRefused = true ∧
       (t.seat i).violTotal = satInc 16 (s.seat i).violTotal ∧ (∀ j, j ≠ i → (t.seat j).violTotal = (s.seat j).violTotal) ∧
       t = { s.told t with mgt.seats := t.mgt.seats }) ∧
     (∀ a : Nat, s.bootWindow i = true → a + bs.length ≤ 4194304 →
       exec (.unmappedWrite i (some a) bs) s = .next { s with mem.image := writeBytes s.mem.image a bs }))

/-- Unit and Section resets (R77, R196, R291): an accepted reset waits for its release with nothing of its targets in any slate and their
parameters at the defaults, the device-wide ones of `SEC.CIP` apart; nothing of its targets waits in a channel; the release answers it. -/
def Obligations.UnitResets : Prop :=
  ∀ s : State,
    (∀ (r : Request) (ok : Bool), Served s r → r.target.isTarget = true → resetRefused r.target = false →
      s.owns r.seat r.target = true → r.payload = [] →
      ∃ t, exec (.unitReset r ok) s = .next t ∧ t.mgt.resetting = s.mgt.resetting ++ [[r.target]] ∧
        Waiting.reset r [r.target] ∈ t.mgt.waiting ∧ (∀ i, (t.seat i).recordsFor r.target = []) ∧
        (∀ e ∈ t.mgt.running, keyPath e.1 = r.target → r.target.sec = 10 ∧ r.target.unit = 0 ∧ 7 ≤ keyNum e.1) ∧
        (∀ q ∈ t.mgt.channel ++ t.mon.waiting ++ t.mon.atBoundary, q.target ≠ r.target) ∧
        t = { s.landed t with mgt.resetting := t.mgt.resetting, mon := t.mon }) ∧
    (∀ (r : Request) (ok : Bool), Served s r → r.target.isTarget = true → resetRefused r.target = true →
      Answers s (.unitReset · ok) r (refusal stNotPermitted)) ∧
    (∀ (r : Request) (ok : Bool), Served s r → r.target.unit = 0 → r.target.inst = 0 → r.target.sec < 16 →
      r.target.sec ≠ 0 → r.target.sec ≠ 1 → r.target.sec ≠ 2 → r.target.sec ≠ 4 →
      (∀ p ∈ sectionTargets r.target.sec, s.owns r.seat p = true) → r.payload = [] →
      ∃ t, exec (.sectionReset r ok) s = .next t ∧ t.mgt.resetting = s.mgt.resetting ++ [sectionTargets r.target.sec] ∧
        Waiting.reset r (sectionTargets r.target.sec) ∈ t.mgt.waiting ∧
        (∀ i, ∀ p ∈ sectionTargets r.target.sec, (t.seat i).recordsFor p = []) ∧
        (∀ e ∈ t.mgt.running, keyPath e.1 ∉ sectionTargets r.target.sec) ∧
        t = { s.landed t with mgt.resetting := t.mgt.resetting, mon := t.mon }) ∧
    (∀ (p : Path) (ps : List Path), s.mgt.resetting.find? (fun qs => qs.contains p) = some ps →
      (∃ t, exec (.resetRelease p) s = .next t ∧ t.mgt.resetting = s.mgt.resetting.erase ps ∧
        (∀ w, s.mgt.waiting.find? (fun w => match w with | .reset _ qs => decide (qs = ps) | _ => false) = some w →
          t.mgt.waiting = s.mgt.waiting.erase w) ∧
        t = { s.landed t with mgt.resetting := t.mgt.resetting }) ∧
      (⟨7, 1, 0⟩ ∉ ps →
        ∃ t, exec (.resetRelease p) s = .next t ∧
          t = { s.told t with mgt.resetting := t.mgt.resetting, mgt.waiting := t.mgt.waiting, clk := t.clk, mon.chains := t.mon.chains,
                              txd.restartMute := t.txd.restartMute }))

/-- The control restart (R79, R80, R440): by request of seat 0, by the watchdog `watchdog_ms` after a core's last signal or by a bad word of
the firmware memory, firmware is not ready and no request is pending any more; when it is done firmware is ready again if start-up had come
so far. A core that has given its last signal serves nothing more. -/
def Obligations.ControlRestarts : Prop :=
  ∀ s : State, s.clk.mgmtStopped = false →
    (∀ r : Request, Served s r → r.seat = 0 → r.target = ⟨0, 5, 0⟩ → r.payload = [] →
      ∃ t, exec (.controlRestart r) s = .next t ∧ t.mgt.fwReady = false ∧ t.mgt.restarting = true ∧ t.mgt.channel = [] ∧
        (∀ i, (t.seat i).slate = [] ∧ (t.seat i).quarantined = false) ∧
        t = { s.dropped t with mgt.fwReady := false, mgt.restarting := true, mgt.coreStopped := t.mgt.coreStopped }) ∧
    (∀ core : Fin 4, s.mgt.fwReady = true →
      (∃ t, exec (.fwWatchdog core true) s = .next t ∧ t.mgt.fwReady = false ∧ t.mgt.restarting = true ∧ t.mgt.channel = [] ∧
        t.now = max s.now ((s.mgt.coreStopped[core].getD s.now) + 1000 * s.cfgN Param.mpcWatchdogMs) ∧
        (∀ i, (t.seat i).slate = [] ∧ (t.seat i).quarantined = false) ∧
        t = { s.dropped t with now := t.now, mgt.fwReady := false, mgt.restarting := true, mgt.coreStopped := t.mgt.coreStopped }) ∧
      (∃ t, exec (.fwWatchdog core false) s = .next t ∧ t.mgt.coreStopped[core] = some (s.mgt.coreStopped[core].getD s.now) ∧
        (∀ k : Fin 4, k ≠ core → t.mgt.coreStopped[k] = s.mgt.coreStopped[k]) ∧ (core = 0 → t.coreServes .urgent = false) ∧
        t = { s with mgt.coreStopped := t.mgt.coreStopped })) ∧
    (∀ (w : Nat) (b : Bool), s.mgt.restarting = false →
      ∃ t, exec (.fwFetchUncorrectable w b) s = .next t ∧ t.mgt.fwReady = false ∧ t.mgt.restarting = true ∧ t.mgt.channel = [] ∧
        (∀ i, (t.seat i).slate = [] ∧ (t.seat i).quarantined = false) ∧
        t = { s.dropped t with mgt.fwReady := false, mgt.restarting := true, mgt.coreStopped := t.mgt.coreStopped }) ∧
    (s.mgt.restarting = true →
      ∃ t, exec .controlRestartDone s = .next t ∧ t.mgt.restarting = false ∧ t.mgt.fwReady = decide (8 ≤ s.mgt.seq.step) ∧
        t = { s.regrouped t with mgt.restarting := false, mgt.fwReady := t.mgt.fwReady })

/-! ### DOM -/

/-- Discovery (R491 to R493, R504): a `HELLO` goes out of each port that is on; one that is taken shows its sender, and its copies are ignored; a
neighbour and a member are lost when their time is over; a port's link changes with its block lock; a NAK is counted. -/
def Obligations.DomainDiscovery : Prop :=
  ∀ (s : State) (p : TvlId),
    (s.isMember = true → s.tvlOn 0 = true → s.tvlOn 1 = true →
      ∃ t, exec .helloSend s = .next t ∧ t.dom.seq = (s.dom.seq + 2) % 65536 ∧
        t = { s with dom.ports := t.dom.ports, dom.seq := t.dom.seq, out := t.out } ∧
        t.out = s.out ++ s.reaching (.tvedry 0 (tvlBytes 0 (s.ownFrame 1 0xFFFF (helloBytes 0 s)))) ++
          s.reaching (.tvedry 1 (tvlBytes 1 { s.ownFrame 1 0xFFFF (helloBytes 1 s) with seq := (s.dom.seq + 1) % 65536 }))) ∧
    (∀ (bs : List Byte) (f : TvlFrame), tvlOf bs = f → Takes s p f →
      (f.type = 1 → ∃ t, exec (.helloRx p bs) s = .next t ∧ nmGet t.dom.members f.source = some (helloMember f s) ∧
        t.frameSeen f = true ∧ (t.tvl p).rxFrames = satInc 32 (s.tvl p).rxFrames ∧
        (f.hops = 0 → nmGet (t.tvl p).neighbours f.source = some s.now) ∧ t = s.regrouped t) ∧
      (f.type = 3 → ∃ t, exec (.nakRx p bs) s = .next t ∧ (t.tvl p).nakRx = satInc 16 (s.tvl p).nakRx ∧
        t = { s with dom.ports := t.dom.ports, dom.seen := t.dom.seen, out := t.out })) ∧
    (∀ (bs : List Byte) (f : TvlFrame), tvlOf bs = f → headFault s f = none → f.source ≠ s.domainId → s.frameSeen f = true →
      ∀ c ∈ [Instr.helloRx p bs, .rosterRx p bs, .nakRx p bs, .policyRx p bs, .policyAckRx p bs, .hostFrameRx p bs, .npStatusRx p bs,
        .npSelectRx p bs], exec c s = .next s) ∧
    (∀ (id x : Nat), nmGet (s.tvl p).neighbours id = some x →
      ∃ t, exec (.neighbourLost p id) s = .next t ∧ nmGet (t.tvl p).neighbours id = none ∧ t.now = max s.now (x + 30000) ∧
        t = { s.later t with dom.ports := t.dom.ports }) ∧
    (∀ (id : Nat) (m : Member), nmGet s.dom.members id = some m → m.reachable = true → s.dom.isolated = false →
      ∃ t, exec (.reachLost id) s = .next t ∧ nmGet t.dom.members id = some { m with reachable := false } ∧
        t.now = max s.now (m.helloAt + 30000) ∧
        (m.digestOk = true → id ∈ s.dom.roster → t.dom.partitions = satInc 16 s.dom.partitions) ∧
        t = { s.regrouped t with now := t.now }) ∧
    (∀ up : Bool, (s.tvl p).link = !up → s.tvlOn p = true →
      ∃ t, exec (.tvlPortLink p up) s = .next t ∧ (t.tvl p).link = up ∧
        (t.tvl p).linkDowns = (if up then (s.tvl p).linkDowns else satInc 16 (s.tvl p).linkDowns) ∧
        (∀ q, q ≠ p → t.tvl q = s.tvl q) ∧ t = { s.told t with dom.ports := t.dom.ports, tim := t.tim })

/-- Roster, policy and host messages (R494 to R498, R501 to R503): a roster given by authority is taken into the own one; the keeper removes a member
that stays away; a part without Bedrock members adopts those it reaches; a policy goes out numbered and its answers are awaited, or their time
runs out; in holdover a policy changes nothing; host messages pass through queues 8 and 9. -/
def Obligations.RosterAndPolicy : Prop :=
  ∀ (s : State) (p : TvlId),
    (∀ (b : List Byte) (f : TvlFrame), tvlOf b = f → Takes s p f →
      (f.type = 0x02 → s.hasAuthority f.source = true → s.dom.isolated = false →
        ∃ t, exec (.rosterRx p b) s = .next t ∧ (∀ x ∈ rosterOf f.payload, x ∈ t.dom.roster) ∧ t = s.regrouped t) ∧
      (f.type = 0x10 → s.dom.holdover = true →
        ∃ t, exec (.policyRx p b) s = .next t ∧ t = { s.told t with dom := t.dom }) ∧
      (f.type = 0x10 → exec (.policyRx p b) s = .next (hearPolicy f (acceptFrame p f (noteFrame f s)))) ∧
      (∀ (r : Request) (n since : Nat), f.type = 0x11 →
        s.mgt.waiting.find? (Waiting.isPolicy (beAt f.payload 0 2)) = some (.policySend r n [f.source] [] since) →
        ∃ t, exec (.policyAckRx p b) s = .next t ∧ t.mgt.waiting = s.mgt.waiting.filter (fun w => !w.isPolicy n) ∧
          t = { s.told t with mgt.waiting := t.mgt.waiting, dom.ports := t.dom.ports, dom.seen := t.dom.seen }) ∧
      (f.type = 0x30 → s.mem.queues[(9 : Fin 24)].dropping = false →
        (bytesToWords f.payload).length + 1 + s.mem.queues[(9 : Fin 24)].count ≤ s.queueCapacity 9 →
        ∃ t, exec (.hostFrameRx p b) s = .next t ∧
          t.mem.queues[(9 : Fin 24)].words = s.mem.queues[(9 : Fin 24)].words ++ packetWords
            (BitVec.ofNat 64 (f.payload.length + f.source * 2 ^ 16 + s.now % 2 ^ 32 * 2 ^ 32) :: bytesToWords f.payload) ∧
          t = { s.queueMoved 9 t with dom.ports := t.dom.ports, dom.seen := t.dom.seen })) ∧
    (∀ (id x : Nat), nmGet s.dom.outSince id = some x → s.dom.authority = true → s.isKeeper = true → s.mgt.fwReady = true →
      id ∉ s.reachSet →
      ∃ t, exec (.rosterTimeout id) s = .next t ∧ id ∉ t.dom.roster ∧
        t.now = max s.now (x + s.cfgN Param.dauRosterTimeoutS * 1000000) ∧ t = { s.regrouped t with now := t.now }) ∧
    (∀ (n dest : Nat) (ws : List Word64) (bs : List Byte), s.isMember = true → s.dom.isolated = false → s.mgt.fwReady = true →
      s.mem.queues[(8 : Fin 24)].packetLength = some n →
      hostPacket ((s.mem.queues[(8 : Fin 24)].words.take n).map SpqWord.data) = some (dest, bs) →
      ∃ t, exec .domHostTx s = .next t ∧ t.mem.queues[(8 : Fin 24)].words = s.mem.queues[(8 : Fin 24)].words.drop n ∧
        t.dom.seq = (s.dom.seq + 1) % 65536 ∧
        (s.tvlOn 1 = true → s.boundaryHeld = false → t.out.getLast? = some (.tvedry 1 (tvlBytes 1 (s.ownFrame 0x30 dest bs)))) ∧
        t = { s.queueMoved 8 t with dom.ports := t.dom.ports, dom.seq := t.dom.seq }) ∧
    (∀ r : Request, Admitted s r → r.target = ⟨15, 1, 0⟩ →
      (r.payload = [] → s.bedrockQuorum = [] → s.dom.holdover = true →
        ∃ t, exec (.domRosterAdopt r) s = .next t ∧ t.dom.roster = s.reachSet ∧
          t = { s.regrouped t with mgt.channel := t.mgt.channel, mgt.normalRun := t.mgt.normalRun }) ∧
      (∀ n dest : Nat, r.payload.length = 8 + 12 * n → u16At r.payload 6 = n → u16At r.payload 0 = dest → 1 ≤ n → n ≤ 80 → dest < 1024 →
        (s.dom.authority = true →
          ∃ t, exec (.domPolicySend r) s = .next t ∧ t.dom.policy = (s.dom.policy + 1) % 65536 ∧
            t.mgt.waiting = s.mgt.waiting ++ [.policySend r s.dom.policy [dest] [] s.now] ∧
            t = { s.answered t with mgt.waiting := t.mgt.waiting, dom := t.dom }) ∧
        (s.dom.authority = false → Answers s .domPolicySend r (refusal stNotPermitted)))) ∧
    (∀ (r : Request) (n k since : Nat) (dests : List Nat) (answers : List (Nat × Nat × Nat)),
      s.mgt.waiting.find? (Waiting.isPolicy n) = some (.policySend r k dests answers since) →
      ∃ t, exec (.domainTimeout n) s = .next t ∧ t.mgt.waiting = s.mgt.waiting.filter (fun w => !w.isPolicy k) ∧
        t.now = max s.now (since + s.cfgN Param.mbxDomainTimeoutMs * 1000) ∧
        t = { s.later t with mgt.waiting := t.mgt.waiting }) ∧
    (∀ (r : Request) (id : Nat) (m : Member), Asked s r → r.target = ⟨15, 1, 0⟩ → r.payload = leBytes 2 id → id < 1024 →
      id ≠ s.domainId → nmGet s.dom.members id = some m →
      Answers s .domMemberQuery r (okWith (leBytes 8 m.deviceId ++ leBytes 1 m.flags ++ leBytes 1 m.hops ++
        leBytes 2 (min 65535 ((s.now - m.helloAt) / 1000)) ++ (leBytes 1 (bit (s.dom.roster.contains id)) ++ leBytes 3 0))))

/-- The Flint pair (R505 to R510): the decision never wants an unfit secondary anew, and a lockout keeps the primary; frames go out numbered; a valid
frame shows the partner, a bad word is counted; health is taken over; without frames the link is lost; wait-to-restore brings the primary
back; requests are noted, lockout before force. -/
def Obligations.FlintPair : Prop :=
  (∀ (p q : FlintWord) (sd rev ex cur : Bool),
    ((flintDecision p q sd rev ex cur).1 = true → cur = true ∨ (q.healthy = true ∧ q.ready = true)) ∧
    (p.request = 3 ∨ q.request = 3 → flintDecision p q sd rev ex cur = (false, 6)) ∧
    (p.request = 0 → q.request = 0 → p.healthy = false → q.healthy = true → q.ready = true →
      flintDecision p q sd rev ex cur = (true, 1))) ∧
  ∀ s : State,
    (s.clk.timeStopped = false → 5 ≤ s.mgt.seq.step →
      ∃ t, exec .flintFrameTx s = .next t ∧ t.dom.flint.seq = (s.dom.flint.seq + 1) % 16 ∧
        ∃ w, bits w 12 4 = s.dom.flint.seq % 16 ∧ bits w 8 4 = s.cfgN Param.fltPairId % 16 ∧
          (s.boundaryHeld = false → t.out.getLast? = some (.flint w (flintCheck w))) ∧ t = s.regrouped t) ∧
    (∀ (w : BitVec 16) (c : Byte), s.pairOn = true → s.clk.timeStopped = false →
      (flintCheck w.toNat = c.toNat → bits w.toNat 8 4 = s.cfgN Param.fltPairId → w.getLsbD 4 = !s.isSecondary →
        ∃ t, exec (.flintFrameRx w c) s = .next t ∧ t.dom.flint.link = true ∧ t.dom.flint.frameAt = s.now ∧
          t.dom.flint.partner = flintFields w ∧ t = s.regrouped t) ∧
      (flintCheck w.toNat ≠ c.toNat →
        exec (.flintFrameRx w c) s = .next { s with dom.flint.badWords := satInc 32 s.dom.flint.badWords })) ∧
    (∃ t, exec .flintHealthChange s = .next t ∧ t.dom.flint.own.healthy = s.isHealthy ∧ t.dom.flint.own.degraded = s.isDegraded ∧
      t.dom.flint.own.ready = s.isReady ∧ t = s.regrouped t) ∧
    (s.dom.flint.link = true →
      ∃ t, exec .flintLinkLoss s = .next t ∧ t.dom.flint.link = false ∧ t.dom.flint.partner = {} ∧
        t.dom.flint.linkLosses = satInc 16 s.dom.flint.linkLosses ∧ t.now = max s.now (s.dom.flint.frameAt + 1) ∧
        t = { s.regrouped t with now := t.now }) ∧
    (∀ x : Nat, s.dom.flint.wtrAt = some x → s.pairOn = true → s.isSecondary = false → s.dom.flint.link = true →
      s.dom.flint.own.active = false → s.dom.flint.own.healthy = true → s.dom.flint.own.degraded = false →
      s.dom.flint.own.request = 0 → s.dom.flint.partner.request = 0 → s.cfgB Param.fltRevertive = true →
      ∃ t, exec .flintWtrExpire s = .next t ∧ t.dom.flint.own.active = true ∧
        t.now = max s.now (x + s.cfgN Param.fltWtrS * 1000000) ∧ t = { s.regrouped t with now := t.now }) ∧
    (∀ (r : Request) (v : Fin 3), Admitted s r → r.target = ⟨15, 2, 0⟩ → r.payload = [BitVec.ofNat 8 v.val] →
      (∃ t, exec (.flintForce r) s = .next t ∧ t.dom.flint.force = v.val ∧
        t.dom.flint.own.request = (if s.dom.flint.lockout then 3 else v.val) ∧
        t = { s.regrouped t with mgt.channel := t.mgt.channel, mgt.normalRun := t.mgt.normalRun }) ∧
      (v.val = 1 → ∃ t, exec (.flintLockout r) s = .next t ∧ t.dom.flint.lockout = true ∧ t.dom.flint.own.request = 3 ∧
        t = { s.regrouped t with mgt.channel := t.mgt.channel, mgt.normalRun := t.mgt.normalRun }))

/-- 1:N groups (R512 to R515): statuses and selections go out; a status taken is recorded; a selection taken is followed; without selections the state
freezes; wait-to-restore selects none; a request is noted. -/
def Obligations.ProtectionGroups : Prop :=
  ∀ (s : State) (p : TvlId),
    (s.isMember = true → s.dom.isolated = false → s.tvlOn 1 = true → s.boundaryHeld = false →
      (s.npOn = true → ∃ t, exec .npStatusTx s = .next t ∧ t.dom.seq = (s.dom.seq + 1) % 65536 ∧
        t.out.getLast? = some (.tvedry 1 (tvlBytes 1 (s.ownFrame 0x20 0xFFFF (npStatusBytes s)))) ∧
        t = { s with dom.ports := t.dom.ports, dom.seq := t.dom.seq, out := t.out }) ∧
      (s.isArbiter = true → ∃ t, exec .npSelectTx s = .next t ∧ t.dom.seq = (s.dom.seq + 1) % 65536 ∧
        t.out.getLast? = some (.tvedry 1 (tvlBytes 1 (s.ownFrame 0x21 0xFFFF
          (beBytesOf 1 (s.cfgN Param.fltNpGroup) ++ beBytesOf 1 s.dom.np.selected ++ beBytesOf 2 0)))) ∧
        t = { s with dom.ports := t.dom.ports, dom.seq := t.dom.seq, out := t.out })) ∧
    (∀ (b : List Byte) (f : TvlFrame), tvlOf b = f → Takes s p f → s.npOn = true → beAt f.payload 0 1 = s.cfgN Param.fltNpGroup →
      (f.type = 0x20 → ∃ t, exec (.npStatusRx p b) s = .next t ∧ npStatusOf f.payload ∈ t.dom.np.statuses ∧
        t = s.regrouped t) ∧
      (f.type = 0x21 → s.isArbiter = false → ∃ t, exec (.npSelectRx p b) s = .next t ∧ t.dom.np.selected = beAt f.payload 1 1 ∧
        t.dom.np.selectAt = s.now ∧ t.dom.np.frozen = false ∧ t = s.regrouped t)) ∧
    (s.npOn = true → s.isArbiter = false → s.dom.np.frozen = false →
      ∃ t, exec .npSelectTimeout s = .next t ∧ t.dom.np = { s.dom.np with frozen := true } ∧
        t.now = max s.now (s.dom.np.selectAt + 30000) ∧ t = { s.later t with dom.np := t.dom.np }) ∧
    (∀ x : Nat, s.dom.np.quietSince = some x → s.isArbiter = true → s.dom.holdover = false → s.cfgB Param.fltNpRevertive = true →
      ∃ t, exec .npWtrExpire s = .next t ∧ t.dom.np.selected = 0 ∧
        t.now = max s.now (x + s.cfgN Param.fltNpWtrS * 1000000) ∧ t = { s.regrouped t with now := t.now }) ∧
    (∀ (r : Request) (v : Fin 3), Admitted s r → r.target = ⟨15, 2, 0⟩ → r.payload = [BitVec.ofNat 8 v.val] → s.npOn = true →
      (v.val = 1 → s.cfg Param.fltNpMember ≠ 0) →
      ∃ t, exec (.npForce r) s = .next t ∧ t.dom.np.request = v.val ∧
        t = { s.regrouped t with mgt.channel := t.mgt.channel, mgt.normalRun := t.mgt.normalRun })

/-- Authority (R494): for one roster and one Bedrock set, two disjoint parts never both hold authority; the whole roster holds it. -/
def Obligations.AuthorityIsUnique : Prop :=
  ∀ bq roster h1 h2 : List Nat, bq.Nodup → roster ≠ [] → (∀ x ∈ h1, x ∉ h2) →
    ¬ (authorityOf bq roster h1 = true ∧ authorityOf bq roster h2 = true) ∧
    ((∀ x ∈ bq, x ∈ roster) → authorityOf bq roster roster = true)

/-! ### PWR and start-up -/

/-- Cold resets (R77, R523, R524, R527, R531, R545): a device reset, a brown-out and `PORST_N` leave the state of a cold reset with their
causes, but for what is fused and what the supply holds; a rail fault and a second reading at 125 °C shut the device down. -/
def Obligations.ColdResets : Prop :=
  ∀ s : State,
    (∀ r : Request, Asked s r → r.seat = 0 → r.payload = [0x51, 0x4B] →
      ∃ t, exec (.deviceReset r) s = .next t ∧ t.pwr.resetCause = 2 ∧ t.mgt.running = [] ∧ t.mgt.owners = [] ∧ t.mgt.fwReady = false ∧
        t.mgt.seq.step = 0 ∧
        t.pwr = { State.reset.pwr with vinPresent := s.pwr.vinPresent, vinRose := s.pwr.vinRose, porstLow := s.pwr.porstLow,
                                       offLatched := s.pwr.offLatched, priorShutdown := s.pwr.priorShutdown, resetCause := 2 } ∧
        t.out = s.out ∧ t = s.cold t) ∧
    (s.pwr.offLatched = false →
      (∃ t, exec .brownOut s = .next t ∧ t.pwr.resetCause = 3 ∧ t.pwr.powered = false ∧ t.pwr.vinPresent = false ∧
        t.mgt.running = [] ∧ t.out = s.out ∧
        t = { s.cold t with clk.mgmtStopped := true, clk.coreStopped := true, clk.timeStopped := true,
                              clk.hcoreStopped := true }) ∧
      (∃ t, exec .porstAssert s = .next t ∧ t.pwr.resetCause = 1 ∧ t.pwr.powered = false ∧ t.pwr.porstLow = true ∧
        t.mgt.running = [] ∧ t.out = s.out ∧
        t = { s.cold t with clk.mgmtStopped := true, clk.coreStopped := true, clk.timeStopped := true,
                              clk.hcoreStopped := true })) ∧
    (∀ n : Fin 7, ∃ t, exec (.railFault n) s = .next t ∧ t.pwr.resetCause = 5 ∧ t.pwr.powered = false ∧ t.pwr.offLatched = true ∧
      t.pwr.priorShutdown = true ∧ t.mgt.running = [] ∧
      t = { s.cold t with clk.mgmtStopped := true, clk.coreStopped := true, clk.timeStopped := true,
                            clk.hcoreStopped := true }) ∧
    (∀ r : Vector Int 8, s.pwr.hotSince.isSome = true → 1000 ≤ junction r →
      ∃ t, exec (.thermalRead r) s = .next t ∧ t.pwr.resetCause = 4 ∧ t.pwr.powered = false ∧ t.pwr.offLatched = true ∧
        t = { s.cold t with clk.mgmtStopped := true, clk.coreStopped := true, clk.timeStopped := true,
                              clk.hcoreStopped := true }) ∧
    (∀ lost : Bool, exec (.vinRise lost) s = .next { s with
      pwr.vinPresent := true
      pwr.vinRose := true
      pwr.resetCause := if lost then 0 else s.pwr.resetCause
      pwr.priorShutdown := if lost then false else s.pwr.priorShutdown })

/-- Start-up (R529, R532 to R535, R438, R439, R107): each step ends as its rule says; the floor of the firmware version never falls; a
failed step stops the sequencer with its cause. -/
def Obligations.StartUp : Prop :=
  ∀ s : State,
    (∀ (straps : BitVec 8) (temp : Int), s.pwr.vinPresent = true → s.mgt.seq.step = 0 → s.pwr.offLatched = false →
      ∃ t, exec (.startupReference straps temp) s = .next t ∧ t.mgt.seq.step = 1 ∧ t.mgt.seq.straps = straps ∧
        t.mgt.seq.refAt = s.now ∧ t.pwr.powered = true ∧ t.clk.mgmtStopped = false ∧
        t = { s with pwr.porstLow := false, pwr.offLatched := false, pwr.powered := true, clk := t.clk, mgt.seq := t.mgt.seq }) ∧
    (s.pwr.powered = true →
      ∃ t, exec .railsInRegulation s = .next t ∧ t.pwr.pgood = true ∧ t.pwr.inReg = 0x7F ∧
        (s.mgt.seq.step = 1 → s.mgt.seq.fault = false → 2 ≤ t.mgt.seq.step) ∧
        t = { s.told t with pwr := t.pwr, clk := t.clk, mgt.seq := t.mgt.seq }) ∧
    (s.mgt.seq.step = 5 → s.mgt.seq.fault = false →
      (exec (.memorySelftestFill [] [] false) s = .next { s with
        mem.bulk := []
        mem.flips := []
        mem.image := []
        mgt.seq.step := 6 }) ∧
      (∃ t, exec (.memorySelftestFill [] [] true) s = .next t ∧ t.mgt.seq.step = 5 ∧ t.mgt.seq.fault = true ∧ t.mgt.seq.cause = 3)) ∧
    (∀ (i : SeatId) (v : Word), s.clk.mgmtStopped = false → (s.seat i).quarantined = false → s.bootWindow i = true → v.getLsbD 0 = true →
      s.mgt.seq.step = 6 →
      exec (.seqBootGo i v) s = .next { s with
        mgt.seq.fault := false
        mgt.seq.cause := 0
        mgt.seq.verifying := true }) ∧
    (∀ (slot : Fin 2) (version floor build : Nat), s.mgt.seq.step = 6 → s.mgt.seq.fault = false → s.mgt.seq.straps.getLsbD 4 = false →
      (s.fuses.floor ≤ version → floor ≤ version → s.fuses.floorRises < 64 →
        ∃ t, exec (.firmwareVerified slot version floor build) s = .next t ∧ t.mgt.seq.step = 7 ∧ t.fuses.floor = max s.fuses.floor floor ∧
          t.mgt.seq.version = version % 65536 ∧ t.mgt.seq.bootSlot = decide (slot.val = 1) ∧
          t = { s with fuses := t.fuses, mgt.build := build % 2 ^ 32, mgt.seq := t.mgt.seq }) ∧
      (version < s.fuses.floor → slot.val = 1 →
        ∃ t, exec (.firmwareVerified slot version floor build) s = .next t ∧ t.mgt.seq.step = 6 ∧ t.mgt.seq.fault = true ∧
          t.mgt.seq.cause = 5 ∧ t.fuses = s.fuses)) ∧
    (s.mgt.seq.step = 7 → s.mgt.seq.fault = false →
      ∃ t, exec .seatsReady s = .next t ∧ t.mgt.seq.step = 8 ∧ t.mgt.fwReady = true ∧ t.mgt.seq.everReady = true ∧
        t.feh.released = true ∧ t.cnv.initCal = true ∧
        t = { s.regrouped t with mgt.fwReady := true, mgt.seq := t.mgt.seq, cnv := t.cnv, feh := t.feh,
                                 pwr.priorShutdown := t.pwr.priorShutdown }) ∧
    (∀ adcs dacs : List InitCalItem, s.cnv.initCal = true →
      ∃ t, exec (.initCalDone adcs dacs) s = .next t ∧ ((s.mgt.seq.step = 8 → s.deviceState ≠ 4) → t.cnv.initCal = false) ∧
        (s.mgt.seq.step = 8 → s.txd.counting = false → t.txd.counting = true ∧ (s.mgt.seq.fault = false → t.mgt.seq.step = 9)) ∧
        (s.mgt.seq.step ≠ 8 → t.mgt.seq = s.mgt.seq) ∧ t = { s.landed t with mgt.seq := t.mgt.seq }) ∧
    (∀ c : Fin 7, causeFits s.mgt.seq.step c.val = true → s.mgt.seq.fault = false →
      ∃ t, exec (.startupFault c) s = .next t ∧ t.mgt.seq = { s.mgt.seq with fault := true, cause := c.val, verifying := false } ∧
        t.now = (if c.val = 1 then max s.now (s.mgt.seq.refAt + startupBound s.mgt.seq.step) else s.now) ∧
        t = { s.later t with mgt.seq := t.mgt.seq })

/-- Supply and temperature (R524, R526, R528, R543, R549, R550): the supply's events and measures are taken; the core voltage is held in its range; a
second failed phase of a rail stays; a read of a peak returns and clears it; the junction temperature is the highest valid reading.

Power states (R423, R539 to R542): a tolerance is taken and the groups aim anew; a deeper target that has held is entered, an entry and an exit end in
their target and are counted; a resume from the safe state needs its sources. -/
def Obligations.PowerAndHeat : Prop :=
  (∀ s : State,
     (s.pwr.vinLow = false → ∃ t, exec .vinLow s = .next t ∧ t = { s.told t with pwr.vinLow := true }) ∧
     (exec .vinLowClear s = .next { s with pwr.vinLow := false }) ∧
     (∀ n : Fin 7, ∃ t, exec (.phaseFailed n) s = .next t ∧ t.pwr.phasesFailed[n] = satInc 2 s.pwr.phasesFailed[n] ∧
       (∀ m, m ≠ n → t.pwr.phasesFailed[m] = s.pwr.phasesFailed[m]) ∧
       t = { s.told t with pwr.phasesFailed := t.pwr.phasesFailed, pwr.level := t.pwr.level, clk.gated := t.clk.gated,
                           clk.gateWait := t.clk.gateWait, rxd := t.rxd }) ∧
     (∀ n : Nat, s.cfgB Param.regAvsEnable = true → n = Config.avsSteps s.fuses.speedCode s.pwr.tj →
       ∃ t, exec .avsUpdate s = .next t ∧ t.pwr.coreMv = max 620 (min 800 (5 * n)) ∧ 620 ≤ t.pwr.coreMv ∧ t.pwr.coreMv ≤ 800 ∧
         t = { s.told t with pwr.coreMv := t.pwr.coreMv, pwr.avsLimited := decide (160 < n) }) ∧
     (∀ v i : Nat, v < 65536 → i < 65536 →
       ∃ t, exec (.iinMeasure v i) s = .next t ∧
         t = { s.told t with pwr.vinMv := v, pwr.iin10mA := i, pwr.iinPeak := max s.pwr.iinPeak i }) ∧
     (∀ i : SeatId,
       (Reads s ⟨1, 0, 0⟩ → exec (.regIinPeakRead i) s = .next { readReturns i s.pwr.iinPeak s with pwr.iinPeak := 0 }) ∧
       (Reads s ⟨1, 2, 0⟩ →
         exec (.thmMaxSeenRead i) s = .next { readReturns i (natOfInt 16 s.pwr.tjMax) s with pwr.tjMax := 0, pwr.tjSeen := false })) ∧
     (∀ r : Vector Int 8, junction r < 1000 →
       ∃ t, exec (.thermalRead r) s = .next t ∧ t.pwr.temps = r ∧ t.pwr.tj = junction r ∧ t.pwr.hotSince = none ∧
         (s.pwr.tjSeen = true → t.pwr.tjMax = max s.pwr.tjMax (junction r)) ∧
         (∀ n : Fin 8, sensorValid r n = true → r[n] ≤ t.pwr.tj) ∧
         t = { s.told t with
           pwr.temps := r, pwr.tj := t.pwr.tj, pwr.tjMax := t.pwr.tjMax, pwr.tjSeen := true, pwr.hotSince := none
           pwr.invalid := t.pwr.invalid, pwr.level := t.pwr.level, clk.gated := t.clk.gated, clk.gateWait := t.clk.gateWait
           rxd := t.rxd })) ∧
  (∀ s : State,
     (∀ (r : Request) (a b c d : Fin 4294967295), Asked s r → r.target = ⟨1, 1, 0⟩ →
       r.payload = leBytes 4 a.val ++ leBytes 4 b.val ++ leBytes 4 c.val ++ leBytes 4 d.val →
       ∃ t, exec (.pwrTolerance r) s = .next t ∧
         t.pwr.tolerances[r.seat] = #v[some a.val, some b.val, some c.val, some d.val] ∧
         (∀ i, i ≠ r.seat → t.pwr.tolerances[i] = s.pwr.tolerances[i]) ∧
         t = { s.answered t with pwr.tolerances := t.pwr.tolerances, pwr.groups := t.pwr.groups }) ∧
     (∀ (g : Fin 4) (x : Nat), s.pwr.groups[g].holdSince = some x → s.pwr.groups[g].move = none →
       s.pwr.groups[g].state < s.pwr.groups[g].target →
       ∃ t, exec (.deepenHoldExpire g) s = .next t ∧ t.now = max s.now (x + 1000 * s.cfgN Param.pstDeepenHoldMs) ∧
         t.pwr.groups[g] = { s.pwr.groups[g] with holdSince := none, move := some ⟨s.pwr.groups[g].state, s.pwr.groups[g].target, true, t.now⟩ } ∧
         (∀ h, h ≠ g → t.pwr.groups[h] = s.pwr.groups[h]) ∧ t = { s.later t with pwr.groups := t.pwr.groups }) ∧
     (∀ (g : Fin 4) (m : PowerMove), s.pwr.groups[g].move = some m →
       (m.deeper = true → ∃ t, exec (.powerStateEntered g) s = .next t ∧ t.pwr.groups[g].state = m.target ∧
         t.pwr.transitions = satInc 32 s.pwr.transitions ∧ t = { s.acted t with pwr.transitions := t.pwr.transitions }) ∧
       (∀ us : Nat, m.deeper = false → ∃ t, exec (.powerStateExited g us) s = .next t ∧ t.pwr.groups[g].state = m.target ∧
         t.pwr.transitions = satInc 32 s.pwr.transitions ∧ t.pwr.lastExitUs = us % 2 ^ 28 ∧ t.pwr.lastExitFrom = m.from_ ∧
         t.now = max s.now (m.since + us) ∧
         t = { s.landed t with now := t.now, pwr.transitions := t.pwr.transitions, pwr.lastExitUs := t.pwr.lastExitUs,
                               pwr.lastExitFrom := t.pwr.lastExitFrom })) ∧
     (∀ r : Request, Admitted s r → r.target = ⟨2, 3, 0⟩ → r.payload = [] → s.clk.safeState = true →
       (s.forcingReady = true → ∃ t, exec (.clkResume r) s = .next t ∧ t.clk.safeState = false ∧ t.clk.failed = 0 ∧
         t.clk.coreStopped = false ∧ t.clk.hcoreStopped = false ∧ t.clk.timeStopped = false ∧ t = s.landed t) ∧
       (s.forcingReady = false → Answers s .clkResume r (refusal stNotPermitted))))

/-! ### The whole device -/

/-- A step carries out the command at the front of the queue on the queue's rest; with none waiting a microsecond passes (the model's choice, log
entry 3). -/
def Obligations.StepRunsFrontCommand : Prop :=
  ∀ s : State,
    (∀ (c : Instr) (rest : List Instr), step { s with pending := c :: rest } = exec c { s with pending := rest }) ∧
    (s.pending = [] → ∃ t, step s = .next t ∧ t.now = s.now + 1 ∧ t.mgt.running = s.mgt.running ∧ t.pending = [])

/-- Reset (R12, R46, R62, R436, R545, Table 18.3): what the spec gives for the state after a cold reset, and that the invariants hold there. -/
def Obligations.ResetValues : Prop :=
  (∀ p : Path, (p.sec = 0 → 4 ≤ p.unit) → State.reset.ownerOf p = some 0) ∧
  (∀ i : SeatId, State.reset.ownerOf ⟨0, i.val, 0⟩ = some i ∧ (State.reset.seat i).attached = false ∧
    (State.reset.seat i).hbTimeoutMs = 0 ∧ (State.reset.seat i).reqHead = 0 ∧ (State.reset.seat i).rspTail = 0 ∧
    (State.reset.seat i).slate = [] ∧ (State.reset.seat i).events.sticky = 0 ∧
    (State.reset.seat i).events.ringMask = defaultRingMask) ∧
  (∀ (row : ParamRow) (x y z : Nat), State.reset.cfg row x y z = row.defaultOf x y) ∧
  (∀ a : Nat, readByte State.reset.mem.bulk a = 0) ∧ State.reset.pending = [] ∧ State.reset.pwr.resetCause = 0 ∧
  State.reset.mgt.fwReady = false ∧ State.reset.mgt.seq.step = 0 ∧ Safe State.reset

/-- From every safe state every command of the table, and every step, is carried out: it answers a next state, and one that is safe again.
No step takes a sticky bit, or a mask bit, of an event that does not exist (R551, R553), or leaves a memory of the device in another than
its canonical form; and no command is refused or ends in a fault: what the spec refuses it refuses with a status, a discard or a count (R51,
R75, R76). -/
def Obligations.SafeIsKept : Prop :=
  ∀ s : State, Safe s → (∀ c : Instr, ∃ t, exec c s = .next t ∧ Safe t) ∧ ∃ t, step s = .next t ∧ Safe t

/-- No step lowers the version floor that is fused, or changes what else is fused (R2, R534). -/
def Obligations.FusesAreKept : Prop :=
  ∀ s t : State, step s = .next t → s.fuses.floor ≤ t.fuses.floor ∧ t.fuses.deviceId = s.fuses.deviceId ∧
    t.fuses.encEnabled = s.fuses.encEnabled ∧ t.fuses.speedCode = s.fuses.speedCode

/-- The headers, markers and frames of the device spell what they are made of (Tables 2.9, 5.5, 11.7, R53 and R259): a request header, a TLM
marker, a path word, an HDLC frame, in which the flag stands at the ends alone, and the two words of a superframe announcement are read back
as they were built, whatever their fields hold within their widths. -/
def Obligations.EncodingsReadBack : Prop :=
  (∀ h : Header, h.opcode < 2 ^ 16 → h.cls < 4 → h.entries < 8 → h.length < 2 ^ 16 → h.tag < 2 ^ 16 → h.seq < 2 ^ 32 →
    h.target.sec < 16 → h.target.unit < 32 → h.target.inst < 1024 → Header.ofNat h.toNat = h ∧ firstRsvBit h.toNat = none) ∧
  (∀ m : Marker, m.lane < 16 → m.size < 16 → m.first < 16 → m.pad < 2 ^ 12 → m.period < 2 ^ 16 → Marker.ofNat m.toNat = some m) ∧
  (∀ p : Path, p.fits = true → Path.ofWord p.word = p) ∧
  (∀ bs : List Byte, 1 ≤ bs.length → bs.length ≤ 1536 →
    0x7E ∉ stuffBytes (bs ++ fcs32 bs) ∧ hdlcContent (stuffBytes (bs ++ fcs32 bs)) = some bs) ∧
  (∀ a : WordA, a.sf < 2 ^ 32 → a.entropy < 2 ^ 9 → a.pilots < 4 → a.capacity < 2 ^ 8 → a.version < 16 → WordA.ofNat a.toNat = a) ∧
  (∀ b : WordB, b.countdown < 2 ^ 16 → b.nextEntropy < 2 ^ 9 → b.nextPilots < 4 → b.nextCapacity < 2 ^ 8 → b.changeId < 2 ^ 16 →
    WordB.ofNat b.toNat = b)

/-- Requests wait (R79, R80, R422): with MGMT stopped a request changes nothing; with firmware not ready, or no core of its class running,
it waits in its channel; in either case no register of the device changes.

Quarantine and stopped management (R76, R422): a quarantined seat's writes change nothing, but for the reset of the seat. -/
def Obligations.WaitingAndQuarantine : Prop :=
  (∀ (s : State) (r : Request),
     ∀ c ∈ [Instr.nop r, .claim r, .release r, .delegate r, .reclaim r, .slateWrite r, .slateClear r, .commitCheck r, .commitApply r,
         .mute r, .eventAck r, .unitReset r true, .sectionReset r true, .controlRestart r, .deviceReset r, .clkSwitch r, .clkResume r,
         .memRetire r, .memInject r, .keyZeroise r, .keyActivate r, .capArm r, .timSetTime r, .pwrTolerance r, .flintForce r, .npForce r,
         .domPolicySend r],
       (s.clk.mgmtStopped = true → exec c s = .next s) ∧
       (s.clk.mgmtStopped = false → s.mgt.fwReady = false ∨ s.coreServes r.cls = false → r ∉ s.mgt.channel →
         exec c s = .next { s with mgt.channel := s.mgt.channel ++ [r] })) ∧
  (∀ (s : State) (i : SeatId), (s.seat i).quarantined = true →
     (∀ (v : Word) (w : Word64) (off : Fin 1048576), off.val ≠ 0x00C →
       exec (.registerWrite i (.word off v)) s = .next s ∧
       (off.val ≠ 0x008 → exec (.registerWrite i (.pair off w)) s = .next s) ∧
       (∀ wire : List Bool, wireBytes wire = 0x02 :: leBytes 4 off.val ++ leBytes 4 v.toNat → exec (.registerWrite i (.spi wire)) s = .next s) ∧
       (∀ a : BitVec 7, exec (.registerWrite i (.i2c a (leBytes 4 off.val ++ leBytes 4 v.toNat) 0)) s = .next s)) ∧
     (∀ v : Word, v.getLsbD 0 = true → v.getLsbD 1 = false → exec (.registerWrite i (.word 0x00C v)) s = exec (.seatReset i) s) ∧
     (∀ v : Word, exec (.attach i v) s = .next s ∧ exec (.heartbeat i v) s = .next s ∧ exec (.keyLoad i v) s = .next s ∧
       exec (.seatHbTimeoutWrite i v) s = .next s ∧ exec (.seqBootGo i v) s = .next s) ∧
     exec (.detach i) s = .next s ∧
     (∀ (tail : BitVec 7) (u : List (Nat × Nat)), exec (.doorbell i tail u) s = .next s ∧ exec (.rspHeadWrite i tail) s = .next s) ∧
     (∀ (q : Fin 24) (hi : Word), exec (.spqPushLast i q hi) s = .next s ∧ exec (.spqDrop i q) s = .next s) ∧
     (∀ m : BitVec 6, exec (.logClear i m) s = .next s))

/-- The limit of holdover (R403): before the time at which it is reached neither the frequency estimate nor the phase estimate has reached its limit,
and the longest time has not passed. -/
def Obligations.HoldoverLimitIsFirst : Prop :=
  ∀ init drift freqLimit phaseLimit maxS t : Nat, 0 < drift → t < limitAfter init drift freqLimit phaseLimit maxS →
    drift * t < (freqLimit - init) * 86400000000 ∧ phaseScaled init drift t < phaseLimit * phaseScale ∧
    (maxS ≠ 0 → t < maxS * 1000000)

/-- Rate limits (R559): a limited event that has passed less than a second ago sets its sticky bit in every seat and writes no ring entry;
the raise is counted as suppressed. -/
def Obligations.RateLimits : Prop :=
  ∀ (s : State) (n u : Nat) (e : LimitEntry) (row : EventRow), findEvent n = some row → row.limit = .whole →
    s.mgt.limits.find? (fun x => x.event == n && x.member == 0) = some e → s.now < e.passedAt + 1000000 → e.reopened = false →
    (∀ i, ((raiseAt n u 0 s).seat i).events.ring = (s.seat i).events.ring ∧ ((raiseAt n u 0 s).seat i).events.tail = (s.seat i).events.tail ∧
      ((raiseAt n u 0 s).seat i).events.sticky.getLsbD n = decide (n < 256)) ∧
    { e with suppressed := satInc 32 e.suppressed } ∈ (raiseAt n u 0 s).mgt.limits
end

