-- ==== Sys2Proof/Laws/Vectors.lean ====
section
/-!
SUPPORT. What the vector and list helpers of `Word.lean` read as.
-/
namespace Sys2Proof

/-- The modified element reads as the modification. -/
theorem vmod_get_same {α : Type} {n : Nat} (v : Vector α n) (i : Fin n) (f : α → α) : (vmod v i f)[i] = f v[i] := by
  simp [vmod]

/-- Every other element reads as before. -/
theorem vmod_get_other {α : Type} {n : Nat} (v : Vector α n) (i j : Fin n) (f : α → α) (h : j ≠ i) : (vmod v i f)[j] = v[j] := by
  have : i.val ≠ j.val := fun e => h (Fin.ext e.symm)
  simp [vmod, this]

/-- Both cases of a read after a modification. -/
theorem vmod_get {α : Type} {n : Nat} (v : Vector α n) (i j : Fin n) (f : α → α) :
    (vmod v i f)[j] = if j = i then f v[j] else v[j] := by
  by_cases h : j = i
  · subst h; simp [vmod]
  · simp [h, vmod_get_other v i j f h]

/-- Element `i` of a mapped vector. -/
theorem vmap_get {α β : Type} {n : Nat} (v : Vector α n) (f : α → β) (i : Fin n) : (vmap v f)[i] = f v[i] := by
  simp [vmap]

/-- Element `i` of a generated vector. -/
theorem vgen_get {α : Type} {n : Nat} (f : Fin n → α) (i : Fin n) : (vgen n f)[i] = f i := by
  simp [vgen]

/-- A fold keeps what each of its steps keeps. -/
theorem overAll_keeps {σ ι α : Type} (g : σ → α) (is : List ι) (f : ι → σ → σ) (h : ∀ i s, g (f i s) = g s) (s : σ) :
    g (overAll is f s) = g s := by
  induction is generalizing s with
  | nil => rfl
  | cons i is ih => simpa [overAll, h] using ih (f i s)

/-- A fold over a list keeps what each of its steps keeps. -/
theorem foldl_keeps {σ ι α : Type} (g : σ → α) (is : List ι) (f : σ → ι → σ) (h : ∀ s i, g (f s i) = g s) (s : σ) :
    g (is.foldl f s) = g s := by
  induction is generalizing s with
  | nil => rfl
  | cons i is ih => simpa [h] using ih (f s i)

end Sys2Proof
end

