-- ==== Sys2Proof/Laws/State.lean ====
section
/-!
SUPPORT. What the updates of the state read as, field by field, so that no later proof unfolds one.
-/
namespace Sys2Proof.Machine

/-! ### `State.onSeat` -/

@[simp] theorem State.onSeat_now (s : State) (i : SeatId) (f : Seat → Seat) : (s.onSeat i f).now = s.now := rfl
@[simp] theorem State.onSeat_free (s : State) (i : SeatId) (f : Seat → Seat) : (s.onSeat i f).free = s.free := rfl
@[simp] theorem State.onSeat_fuses (s : State) (i : SeatId) (f : Seat → Seat) : (s.onSeat i f).fuses = s.fuses := rfl
@[simp] theorem State.onSeat_pwr (s : State) (i : SeatId) (f : Seat → Seat) : (s.onSeat i f).pwr = s.pwr := rfl
@[simp] theorem State.onSeat_clk (s : State) (i : SeatId) (f : Seat → Seat) : (s.onSeat i f).clk = s.clk := rfl
@[simp] theorem State.onSeat_tim (s : State) (i : SeatId) (f : Seat → Seat) : (s.onSeat i f).tim = s.tim := rfl
@[simp] theorem State.onSeat_mem (s : State) (i : SeatId) (f : Seat → Seat) : (s.onSeat i f).mem = s.mem := rfl
@[simp] theorem State.onSeat_cnv (s : State) (i : SeatId) (f : Seat → Seat) : (s.onSeat i f).cnv = s.cnv := rfl
@[simp] theorem State.onSeat_rxd (s : State) (i : SeatId) (f : Seat → Seat) : (s.onSeat i f).rxd = s.rxd := rfl
@[simp] theorem State.onSeat_txd (s : State) (i : SeatId) (f : Seat → Seat) : (s.onSeat i f).txd = s.txd := rfl
@[simp] theorem State.onSeat_cod (s : State) (i : SeatId) (f : Seat → Seat) : (s.onSeat i f).cod = s.cod := rfl
@[simp] theorem State.onSeat_frm (s : State) (i : SeatId) (f : Seat → Seat) : (s.onSeat i f).frm = s.frm := rfl
@[simp] theorem State.onSeat_sec (s : State) (i : SeatId) (f : Seat → Seat) : (s.onSeat i f).sec = s.sec := rfl
@[simp] theorem State.onSeat_lod (s : State) (i : SeatId) (f : Seat → Seat) : (s.onSeat i f).lod = s.lod := rfl
@[simp] theorem State.onSeat_mon (s : State) (i : SeatId) (f : Seat → Seat) : (s.onSeat i f).mon = s.mon := rfl
@[simp] theorem State.onSeat_hst (s : State) (i : SeatId) (f : Seat → Seat) : (s.onSeat i f).hst = s.hst := rfl
@[simp] theorem State.onSeat_feh (s : State) (i : SeatId) (f : Seat → Seat) : (s.onSeat i f).feh = s.feh := rfl
@[simp] theorem State.onSeat_dom (s : State) (i : SeatId) (f : Seat → Seat) : (s.onSeat i f).dom = s.dom := rfl
@[simp] theorem State.onSeat_tap (s : State) (i : SeatId) (f : Seat → Seat) : (s.onSeat i f).tap = s.tap := rfl
@[simp] theorem State.onSeat_boundary (s : State) (i : SeatId) (f : Seat → Seat) : (s.onSeat i f).boundary = s.boundary := rfl
@[simp] theorem State.onSeat_out (s : State) (i : SeatId) (f : Seat → Seat) : (s.onSeat i f).out = s.out := rfl
@[simp] theorem State.onSeat_pending (s : State) (i : SeatId) (f : Seat → Seat) : (s.onSeat i f).pending = s.pending := rfl

@[simp] theorem State.onSeat_mgt_fwReady (s : State) (i : SeatId) (f : Seat → Seat) : (s.onSeat i f).mgt.fwReady = s.mgt.fwReady := rfl
@[simp] theorem State.onSeat_mgt_restarting (s : State) (i : SeatId) (f : Seat → Seat) : (s.onSeat i f).mgt.restarting = s.mgt.restarting := rfl
@[simp] theorem State.onSeat_mgt_build (s : State) (i : SeatId) (f : Seat → Seat) : (s.onSeat i f).mgt.build = s.mgt.build := rfl
@[simp] theorem State.onSeat_mgt_channel (s : State) (i : SeatId) (f : Seat → Seat) : (s.onSeat i f).mgt.channel = s.mgt.channel := rfl
@[simp] theorem State.onSeat_mgt_normalRun (s : State) (i : SeatId) (f : Seat → Seat) : (s.onSeat i f).mgt.normalRun = s.mgt.normalRun := rfl
@[simp] theorem State.onSeat_mgt_waiting (s : State) (i : SeatId) (f : Seat → Seat) : (s.onSeat i f).mgt.waiting = s.mgt.waiting := rfl
@[simp] theorem State.onSeat_mgt_owners (s : State) (i : SeatId) (f : Seat → Seat) : (s.onSeat i f).mgt.owners = s.mgt.owners := rfl
@[simp] theorem State.onSeat_mgt_running (s : State) (i : SeatId) (f : Seat → Seat) : (s.onSeat i f).mgt.running = s.mgt.running := rfl
@[simp] theorem State.onSeat_mgt_earlyTx (s : State) (i : SeatId) (f : Seat → Seat) : (s.onSeat i f).mgt.earlyTx = s.mgt.earlyTx := rfl
@[simp] theorem State.onSeat_mgt_earlyRx (s : State) (i : SeatId) (f : Seat → Seat) : (s.onSeat i f).mgt.earlyRx = s.mgt.earlyRx := rfl
@[simp] theorem State.onSeat_mgt_commits (s : State) (i : SeatId) (f : Seat → Seat) : (s.onSeat i f).mgt.commits = s.mgt.commits := rfl
@[simp] theorem State.onSeat_mgt_nextCommit (s : State) (i : SeatId) (f : Seat → Seat) : (s.onSeat i f).mgt.nextCommit = s.mgt.nextCommit := rfl
@[simp] theorem State.onSeat_mgt_perst (s : State) (i : SeatId) (f : Seat → Seat) : (s.onSeat i f).mgt.perst = s.mgt.perst := rfl
@[simp] theorem State.onSeat_mgt_resetting (s : State) (i : SeatId) (f : Seat → Seat) : (s.onSeat i f).mgt.resetting = s.mgt.resetting := rfl
@[simp] theorem State.onSeat_mgt_limits (s : State) (i : SeatId) (f : Seat → Seat) : (s.onSeat i f).mgt.limits = s.mgt.limits := rfl
@[simp] theorem State.onSeat_mgt_seq (s : State) (i : SeatId) (f : Seat → Seat) : (s.onSeat i f).mgt.seq = s.mgt.seq := rfl
@[simp] theorem State.onSeat_mgt_coreStopped (s : State) (i : SeatId) (f : Seat → Seat) : (s.onSeat i f).mgt.coreStopped = s.mgt.coreStopped := rfl
@[simp] theorem State.onSeat_mgt_stored (s : State) (i : SeatId) (f : Seat → Seat) : (s.onSeat i f).mgt.stored = s.mgt.stored := rfl
@[simp] theorem State.onSeat_mgt_storedNle (s : State) (i : SeatId) (f : Seat → Seat) : (s.onSeat i f).mgt.storedNle = s.mgt.storedNle := rfl
@[simp] theorem State.onSeat_mgt_storedDpd (s : State) (i : SeatId) (f : Seat → Seat) : (s.onSeat i f).mgt.storedDpd = s.mgt.storedDpd := rfl

/-- The changed seat reads as changed. -/
@[simp] theorem State.onSeat_seat (s : State) (i : SeatId) (f : Seat → Seat) : (s.onSeat i f).seat i = f (s.seat i) := by
  exact vmod_get_same s.mgt.seats i f

/-- Every other seat reads as before. -/
theorem State.onSeat_seat_other (s : State) (i j : SeatId) (f : Seat → Seat) (h : j ≠ i) : (s.onSeat i f).seat j = s.seat j := by
  simpa [State.seat, State.onSeat] using vmod_get_other s.mgt.seats i j f h

/-! ### `State.send`, `State.draw` and `State.reach` -/

@[simp] theorem State.send_now (s : State) (o : Output) : (s.send o).now = s.now := rfl
@[simp] theorem State.send_free (s : State) (o : Output) : (s.send o).free = s.free := rfl
@[simp] theorem State.send_fuses (s : State) (o : Output) : (s.send o).fuses = s.fuses := rfl
@[simp] theorem State.send_mgt (s : State) (o : Output) : (s.send o).mgt = s.mgt := rfl
@[simp] theorem State.send_pwr (s : State) (o : Output) : (s.send o).pwr = s.pwr := rfl
@[simp] theorem State.send_clk (s : State) (o : Output) : (s.send o).clk = s.clk := rfl
@[simp] theorem State.send_tim (s : State) (o : Output) : (s.send o).tim = s.tim := rfl
@[simp] theorem State.send_mem (s : State) (o : Output) : (s.send o).mem = s.mem := rfl
@[simp] theorem State.send_cnv (s : State) (o : Output) : (s.send o).cnv = s.cnv := rfl
@[simp] theorem State.send_rxd (s : State) (o : Output) : (s.send o).rxd = s.rxd := rfl
@[simp] theorem State.send_txd (s : State) (o : Output) : (s.send o).txd = s.txd := rfl
@[simp] theorem State.send_cod (s : State) (o : Output) : (s.send o).cod = s.cod := rfl
@[simp] theorem State.send_frm (s : State) (o : Output) : (s.send o).frm = s.frm := rfl
@[simp] theorem State.send_sec (s : State) (o : Output) : (s.send o).sec = s.sec := rfl
@[simp] theorem State.send_lod (s : State) (o : Output) : (s.send o).lod = s.lod := rfl
@[simp] theorem State.send_mon (s : State) (o : Output) : (s.send o).mon = s.mon := rfl
@[simp] theorem State.send_hst (s : State) (o : Output) : (s.send o).hst = s.hst := rfl
@[simp] theorem State.send_feh (s : State) (o : Output) : (s.send o).feh = s.feh := rfl
@[simp] theorem State.send_dom (s : State) (o : Output) : (s.send o).dom = s.dom := rfl
@[simp] theorem State.send_tap (s : State) (o : Output) : (s.send o).tap = s.tap := rfl
@[simp] theorem State.send_boundary (s : State) (o : Output) : (s.send o).boundary = s.boundary := rfl
@[simp] theorem State.send_pending (s : State) (o : Output) : (s.send o).pending = s.pending := rfl

@[simp] theorem State.send_out (s : State) (o : Output) : (s.send o).out = s.out ++ s.reaching o := rfl
@[simp] theorem State.send_seat (s : State) (o : Output) (i : SeatId) : (s.send o).seat i = s.seat i := rfl

/-- An output whose balls have no cells always leaves the device, and so does every output unless the boundary register holds the balls. -/
theorem State.reaching_free (s : State) (o : Output) (h : s.boundaryHeld = false ∨ o.throughCells = false) : s.reaching o = [o] := by
  unfold State.reaching; rcases h with h | h <;> simp [h]

@[simp] theorem State.send_reaching (s : State) (o p : Output) : (s.send o).reaching p = s.reaching p := rfl
@[simp] theorem State.onSeat_reaching (s : State) (i : SeatId) (f : Seat → Seat) (o : Output) : (s.onSeat i f).reaching o = s.reaching o := rfl

@[simp] theorem State.draw_now (s : State)  : (s.draw).now = s.now := rfl
@[simp] theorem State.draw_fuses (s : State)  : (s.draw).fuses = s.fuses := rfl
@[simp] theorem State.draw_mgt (s : State)  : (s.draw).mgt = s.mgt := rfl
@[simp] theorem State.draw_pwr (s : State)  : (s.draw).pwr = s.pwr := rfl
@[simp] theorem State.draw_clk (s : State)  : (s.draw).clk = s.clk := rfl
@[simp] theorem State.draw_tim (s : State)  : (s.draw).tim = s.tim := rfl
@[simp] theorem State.draw_mem (s : State)  : (s.draw).mem = s.mem := rfl
@[simp] theorem State.draw_cnv (s : State)  : (s.draw).cnv = s.cnv := rfl
@[simp] theorem State.draw_rxd (s : State)  : (s.draw).rxd = s.rxd := rfl
@[simp] theorem State.draw_txd (s : State)  : (s.draw).txd = s.txd := rfl
@[simp] theorem State.draw_cod (s : State)  : (s.draw).cod = s.cod := rfl
@[simp] theorem State.draw_frm (s : State)  : (s.draw).frm = s.frm := rfl
@[simp] theorem State.draw_sec (s : State)  : (s.draw).sec = s.sec := rfl
@[simp] theorem State.draw_lod (s : State)  : (s.draw).lod = s.lod := rfl
@[simp] theorem State.draw_mon (s : State)  : (s.draw).mon = s.mon := rfl
@[simp] theorem State.draw_hst (s : State)  : (s.draw).hst = s.hst := rfl
@[simp] theorem State.draw_feh (s : State)  : (s.draw).feh = s.feh := rfl
@[simp] theorem State.draw_dom (s : State)  : (s.draw).dom = s.dom := rfl
@[simp] theorem State.draw_tap (s : State)  : (s.draw).tap = s.tap := rfl
@[simp] theorem State.draw_boundary (s : State)  : (s.draw).boundary = s.boundary := rfl
@[simp] theorem State.draw_out (s : State)  : (s.draw).out = s.out := rfl
@[simp] theorem State.draw_pending (s : State)  : (s.draw).pending = s.pending := rfl

@[simp] theorem State.draw_free (s : State) : s.draw.free = s.free + 1 := rfl

@[simp] theorem State.reach_free (s : State) (t : Nat) : (s.reach t).free = s.free := rfl
@[simp] theorem State.reach_fuses (s : State) (t : Nat) : (s.reach t).fuses = s.fuses := rfl
@[simp] theorem State.reach_mgt (s : State) (t : Nat) : (s.reach t).mgt = s.mgt := rfl
@[simp] theorem State.reach_pwr (s : State) (t : Nat) : (s.reach t).pwr = s.pwr := rfl
@[simp] theorem State.reach_clk (s : State) (t : Nat) : (s.reach t).clk = s.clk := rfl
@[simp] theorem State.reach_mem (s : State) (t : Nat) : (s.reach t).mem = s.mem := rfl
@[simp] theorem State.reach_cnv (s : State) (t : Nat) : (s.reach t).cnv = s.cnv := rfl
@[simp] theorem State.reach_rxd (s : State) (t : Nat) : (s.reach t).rxd = s.rxd := rfl
@[simp] theorem State.reach_txd (s : State) (t : Nat) : (s.reach t).txd = s.txd := rfl
@[simp] theorem State.reach_cod (s : State) (t : Nat) : (s.reach t).cod = s.cod := rfl
@[simp] theorem State.reach_frm (s : State) (t : Nat) : (s.reach t).frm = s.frm := rfl
@[simp] theorem State.reach_sec (s : State) (t : Nat) : (s.reach t).sec = s.sec := rfl
@[simp] theorem State.reach_lod (s : State) (t : Nat) : (s.reach t).lod = s.lod := rfl
@[simp] theorem State.reach_mon (s : State) (t : Nat) : (s.reach t).mon = s.mon := rfl
@[simp] theorem State.reach_hst (s : State) (t : Nat) : (s.reach t).hst = s.hst := rfl
@[simp] theorem State.reach_feh (s : State) (t : Nat) : (s.reach t).feh = s.feh := rfl
@[simp] theorem State.reach_dom (s : State) (t : Nat) : (s.reach t).dom = s.dom := rfl
@[simp] theorem State.reach_tap (s : State) (t : Nat) : (s.reach t).tap = s.tap := rfl
@[simp] theorem State.reach_boundary (s : State) (t : Nat) : (s.reach t).boundary = s.boundary := rfl
@[simp] theorem State.reach_out (s : State) (t : Nat) : (s.reach t).out = s.out := rfl
@[simp] theorem State.reach_pending (s : State) (t : Nat) : (s.reach t).pending = s.pending := rfl

@[simp] theorem State.reach_now (s : State) (t : Nat) : (s.reach t).now = max s.now t := rfl
@[simp] theorem State.reach_seat (s : State) (t : Nat) (i : SeatId) : (s.reach t).seat i = s.seat i := rfl

/-- The count never goes back. -/
theorem State.le_reach (s : State) (t : Nat) : s.now ≤ (s.reach t).now := Nat.le_max_left _ _

/-- The count reaches the time named. -/
theorem State.reaches (s : State) (t : Nat) : t ≤ (s.reach t).now := Nat.le_max_right _ _

end Sys2Proof.Machine
end

