-- ==== Sys2Proof/Laws/Memory.lean ====
section
/-!
SUPPORT. The sparse memories: every operation keeps the canonical form, a read after a write gives what was written, and a write leaves every
other address as it was.
-/
namespace Sys2Proof.Machine

/-! ### Canonical form -/

/-- The keys rise, and none is below a bound. -/
def risesFrom {α : Type} (lo : Nat) : NMap α → Prop
  | [] => True
  | e :: m => lo ≤ e.1 ∧ risesFrom (e.1 + 1) m

theorem risesFrom_mono {α : Type} {m : NMap α} {lo hi : Nat} (h : lo ≤ hi) (r : risesFrom hi m) : risesFrom lo m := by
  cases m with
  | nil => trivial
  | cons e m => exact ⟨Nat.le_trans h r.1, r.2⟩

theorem nmRising_iff {α : Type} (m : NMap α) : nmRising m = true ↔ risesFrom 0 m := by
  induction m with
  | nil => simp [nmRising, risesFrom]
  | cons e m ih =>
    cases m with
    | nil => simp [nmRising, risesFrom]
    | cons b m =>
      simp only [nmRising, Bool.and_eq_true, decide_eq_true_eq, ih, risesFrom]
      constructor
      · rintro ⟨h, -, h2⟩
        exact ⟨Nat.zero_le _, h, h2⟩
      · rintro ⟨-, h, h2⟩
        exact ⟨h, Nat.zero_le _, h2⟩

theorem risesFrom_put {α : Type} {m : NMap α} {lo i : Nat} (x : α) (h : lo ≤ i) (r : risesFrom lo m) : risesFrom lo (nmPut m i x) := by
  induction m generalizing lo with
  | nil => exact ⟨h, trivial⟩
  | cons e m ih =>
    simp only [nmPut]
    split
    · rename_i hlt
      exact ⟨h, hlt, r.2⟩
    · split
      · rename_i heq
        subst heq
        exact ⟨r.1, r.2⟩
      · exact ⟨r.1, ih (by omega) r.2⟩

theorem risesFrom_filter {α : Type} {m : NMap α} {lo : Nat} (p : Nat × α → Bool) (r : risesFrom lo m) : risesFrom lo (m.filter p) := by
  induction m generalizing lo with
  | nil => trivial
  | cons e m ih =>
    simp only [List.filter_cons]
    split
    · exact ⟨r.1, ih r.2⟩
    · exact risesFrom_mono (Nat.le_succ_of_le r.1) (ih r.2)

theorem nmWf_iff {α : Type} [DecidableEq α] (d : α) (m : NMap α) : nmWf d m = true ↔ risesFrom 0 m ∧ ∀ e ∈ m, e.2 ≠ d := by
  simp [nmWf, nmRising_iff, List.all_eq_true]

theorem mem_nmPut {α : Type} {m : NMap α} {i : Nat} {x : α} {e : Nat × α} (h : e ∈ nmPut m i x) : e = (i, x) ∨ e ∈ m := by
  induction m with
  | nil => exact .inl (by simpa [nmPut] using h)
  | cons b m ih =>
    simp only [nmPut] at h
    split at h
    · exact (List.mem_cons.1 h)
    · split at h
      · exact (List.mem_cons.1 h).imp_right (List.mem_cons_of_mem _)
      · rcases List.mem_cons.1 h with h | h
        · exact .inr (h ▸ List.mem_cons_self)
        · exact (ih h).imp_right (List.mem_cons_of_mem _)

/-- A write keeps the canonical form. -/
theorem nmWf_set {α : Type} [DecidableEq α] {d : α} {m : NMap α} (i : Nat) (x : α) (h : nmWf d m = true) : nmWf d (nmSet d m i x) = true := by
  rw [nmWf_iff] at h ⊢
  unfold nmSet
  split
  · exact ⟨risesFrom_filter _ h.1, fun e he => h.2 e ((List.mem_filter.1 he).1)⟩
  · rename_i hx
    refine ⟨risesFrom_put x (Nat.zero_le i) h.1, fun e he => ?_⟩
    rcases mem_nmPut he with rfl | he
    · exact hx
    · exact h.2 e he

/-- So does leaving entries out. -/
theorem nmWf_filter {α : Type} [DecidableEq α] {d : α} {m : NMap α} (p : Nat × α → Bool) (h : nmWf d m = true) :
    nmWf d (m.filter p) = true := by
  rw [nmWf_iff] at h ⊢
  exact ⟨risesFrom_filter _ h.1, fun e he => h.2 e ((List.mem_filter.1 he).1)⟩

theorem memWf_writeByte {m : List Host.Cell} (a : Nat) (b : Byte) (h : memWf m = true) : memWf (writeByte m a b) = true := nmWf_set a b h

theorem memWf_writeBytes {m : List Host.Cell} (a : Nat) (bs : List Byte) (h : memWf m = true) : memWf (writeBytes m a bs) = true := by
  induction bs generalizing m a with
  | nil => exact h
  | cons b bs ih => exact ih (a + 1) (memWf_writeByte a b h)

theorem memWf_writeRing {m : List Host.Cell} (i : BitVec 7) (bs : List Byte) (h : memWf m = true) : memWf (writeRing m i bs) = true := by
  unfold writeRing
  generalize List.range _ = ks
  induction ks generalizing m with
  | nil => exact h
  | cons k ks ih => exact ih (memWf_writeBytes _ _ h)

theorem nmWf_setFlips {s : State} (g : MemGroup) (word mask : Nat) (h : nmWf 0 s.mem.flips = true) :
    nmWf 0 (setFlips g word mask s).mem.flips = true := nmWf_set _ _ h

/-! ### Reads after writes -/

theorem nmGet_put_same {α : Type} (m : NMap α) (i : Nat) (x : α) : nmGet (nmPut m i x) i = some x := by
  induction m with
  | nil => simp [nmPut, nmGet]
  | cons e m ih =>
    simp only [nmPut]
    split
    · simp [nmGet]
    · split
      · simp [nmGet]
      · rename_i h
        simp [nmGet, h, ih]

theorem nmGet_put_other {α : Type} (m : NMap α) {i j : Nat} (x : α) (h : j ≠ i) : nmGet (nmPut m i x) j = nmGet m j := by
  induction m with
  | nil => simp [nmPut, nmGet, h]
  | cons e m ih =>
    simp only [nmPut]
    split
    · simp [nmGet, h]
    · split
      · rename_i heq
        subst heq
        simp [nmGet, h]
      · simp [nmGet, ih]

theorem nmGet_del_same {α : Type} (m : NMap α) (i : Nat) : nmGet (nmDel m i) i = none := by
  induction m with
  | nil => rfl
  | cons e m ih =>
    simp only [nmDel, List.filter_cons] at ih ⊢
    split
    · rename_i h
      simp only [nmGet]
      rw [if_neg (by intro h2; simp [h2] at h)]
      exact ih
    · exact ih

theorem nmGet_del_other {α : Type} (m : NMap α) {i j : Nat} (h : j ≠ i) : nmGet (nmDel m i) j = nmGet m j := by
  induction m with
  | nil => rfl
  | cons e m ih =>
    simp only [nmDel, List.filter_cons] at ih ⊢
    split
    · simp only [nmGet, ih]
    · rename_i he
      have : e.1 = i := by simpa using he
      rw [ih]
      simp only [nmGet]
      rw [if_neg (by omega)]

/-- A read after a write of the same byte. -/
@[simp] theorem readByte_writeByte_same (m : List Host.Cell) (a : Nat) (b : Byte) : readByte (writeByte m a b) a = b := by
  unfold readByte writeByte nmSet
  split
  · rename_i h
    simp [nmGet_del_same, h]
  · simp [nmGet_put_same]

/-- A write leaves every other byte. -/
theorem readByte_writeByte_other (m : List Host.Cell) {a c : Nat} (b : Byte) (h : c ≠ a) : readByte (writeByte m a b) c = readByte m c := by
  unfold readByte writeByte nmSet
  split
  · rw [nmGet_del_other m h]
  · rw [nmGet_put_other m b h]

/-- What a write of several bytes reads as. -/
theorem readByte_writeBytes (m : List Host.Cell) (a : Nat) (bs : List Byte) (c : Nat) :
    readByte (writeBytes m a bs) c = if a ≤ c ∧ c < a + bs.length then bs.getD (c - a) 0 else readByte m c := by
  induction bs generalizing m a with
  | nil => exact (if_neg fun h => by have := h.2; simp only [List.length_nil] at this; omega).symm
  | cons b bs ih =>
    simp only [writeBytes, ih, List.length_cons]
    by_cases h : c = a
    · subst h
      rw [if_neg (by omega), if_pos (by omega)]
      simp
    · by_cases h2 : a + 1 ≤ c ∧ c < a + 1 + bs.length
      · rw [if_pos h2, if_pos (by omega), show c - a = (c - (a + 1)) + 1 by omega]
        simp
      · rw [if_neg h2, if_neg (by omega), readByte_writeByte_other m b h]

end Sys2Proof.Machine
end

