-- ==== Sys2Proof/Laws/Ops.lean ====
section
/-!
SUPPORT. What the shared operations of `Machine/Ops.lean` can do, once: which parts of the state each leaves as they were.
-/
namespace Sys2Proof.Machine

/-- What a raise and a response may change: the seats, the rate-limit table, the capture engine (a trigger) and what is sent. -/
def calm (s : State) : State :=
  { s with mgt.seats := State.reset.mgt.seats, mgt.limits := [], mon.cap := State.reset.mon.cap, out := [] }

/-- Two states that agree but for the seats, the limits, the capture engine and the output agree on every other part. -/
theorem calm_parts {s t : State} (h : calm t = calm s) :
    t.now = s.now ∧ t.free = s.free ∧ t.fuses = s.fuses ∧ t.pwr = s.pwr ∧ t.clk = s.clk ∧ t.tim = s.tim ∧ t.mem = s.mem ∧
      t.cnv = s.cnv ∧ t.rxd = s.rxd ∧ t.txd = s.txd ∧ t.cod = s.cod ∧ t.frm = s.frm ∧ t.sec = s.sec ∧ t.lod = s.lod ∧
      t.hst = s.hst ∧ t.feh = s.feh ∧ t.dom = s.dom ∧ t.tap = s.tap ∧ t.boundary = s.boundary ∧
      t.pending = s.pending := by
  simp only [calm, State.mk.injEq] at h
  obtain ⟨h1, h2, h3, -, h5, h6, h7, h8, h9, h10, h11, h12, h13, h14, h15, -, h17, h18, h19, h20, h21, -, h23⟩ := h
  exact ⟨h1, h2, h3, h5, h6, h7, h8, h9, h10, h11, h12, h13, h14, h15, h17, h18, h19, h20, h21, h23⟩

@[simp] theorem calm_onSeat (s : State) (i : SeatId) (f : Seat → Seat) : calm (s.onSeat i f) = calm s := rfl
@[simp] theorem calm_send (s : State) (o : Output) : calm (s.send o) = calm s := rfl

@[simp] theorem calm_fireCapture (n : Nat) (s : State) : calm (fireCapture n s) = calm s := by
  unfold fireCapture; split <;> rfl

@[simp] theorem calm_offerMsix (i : SeatId) (v : Nat) (s : State) : calm (offerMsix i v s) = calm s := by
  unfold offerMsix
  split
  · rfl
  · dsimp only
    split
    · rfl
    · split <;> rfl

/-- A raise changes nothing but seats, limits, capture and output. -/
@[simp] theorem calm_raiseAt (n u i : Nat) (s : State) : calm (raiseAt n u i s) = calm s := by
  unfold raiseAt
  dsimp only
  split <;> simp only [calm_fireCapture, overAll_keeps calm _ _ (fun i s => calm_offerMsix i _ s)] <;> rfl

@[simp] theorem calm_raise (n : Nat) (s : State) : calm (raise n s) = calm s := calm_raiseAt _ _ _ s
@[simp] theorem calm_raiseFor (n i : Nat) (s : State) : calm (raiseFor n i s) = calm s := calm_raiseAt _ _ _ s

@[simp] theorem calm_postInto (i : SeatId) (p : Posting) (s : State) : calm (postInto i p s) = calm s := by
  unfold postInto
  dsimp only
  split <;> simp

@[simp] theorem calm_post (i : SeatId) (p : Posting) (s : State) : calm (post i p s) = calm s := by
  unfold post; split <;> simp

/-- A response changes nothing but seats and output, and with them at most the limits and the capture engine. -/
@[simp] theorem calm_respond (r : Request) (rep : Reply) (s : State) : calm (respond r rep s) = calm s := by
  unfold respond; dsimp only; split <;> split <;> simp

@[simp] theorem calm_flushWaiting (i : SeatId) (s : State) : calm (flushWaiting i s) = calm s := by
  unfold flushWaiting
  refine foldl_keeps calm _ _ (fun s k => ?_) s
  split
  · rfl
  · split <;> simp

@[simp] theorem calm_flushPosts (i : SeatId) (s : State) : calm (flushPosts i s) = calm s := by
  unfold flushPosts; dsimp only; split <;> simp

@[simp] theorem calm_violation (i : SeatId) (k n : Nat) (s : State) : calm (violation i k n s) = calm s := by
  unfold violation; dsimp only; split <;> simp

@[simp] theorem calm_refuseWrite (i : SeatId) (s : State) : calm (refuseWrite i s) = calm s := rfl
@[simp] theorem calm_readReturns (i : SeatId) (v : Nat) (s : State) : calm (readReturns i v s) = calm s := rfl

/-! ### Field by field -/

/-- What does not depend on the seats, the limits, the capture engine or the output is the same in two such states. -/
theorem calm_lift {α : Type} (g : State → α) (hg : ∀ s, g s = g (calm s)) {s t : State} (h : calm t = calm s) : g t = g s := by
  rw [hg t, h, ← hg s]

@[simp] theorem raiseAt_now (n u i : Nat) (s : State) : (raiseAt n u i s).now = s.now := calm_lift (fun x => x.now) (fun _ => rfl) (calm_raiseAt n u i s)
@[simp] theorem raiseAt_free (n u i : Nat) (s : State) : (raiseAt n u i s).free = s.free := calm_lift (fun x => x.free) (fun _ => rfl) (calm_raiseAt n u i s)
@[simp] theorem raiseAt_fuses (n u i : Nat) (s : State) : (raiseAt n u i s).fuses = s.fuses := calm_lift (fun x => x.fuses) (fun _ => rfl) (calm_raiseAt n u i s)
@[simp] theorem raiseAt_pwr (n u i : Nat) (s : State) : (raiseAt n u i s).pwr = s.pwr := calm_lift (fun x => x.pwr) (fun _ => rfl) (calm_raiseAt n u i s)
@[simp] theorem raiseAt_clk (n u i : Nat) (s : State) : (raiseAt n u i s).clk = s.clk := calm_lift (fun x => x.clk) (fun _ => rfl) (calm_raiseAt n u i s)
@[simp] theorem raiseAt_tim (n u i : Nat) (s : State) : (raiseAt n u i s).tim = s.tim := calm_lift (fun x => x.tim) (fun _ => rfl) (calm_raiseAt n u i s)
@[simp] theorem raiseAt_mem (n u i : Nat) (s : State) : (raiseAt n u i s).mem = s.mem := calm_lift (fun x => x.mem) (fun _ => rfl) (calm_raiseAt n u i s)
@[simp] theorem raiseAt_cnv (n u i : Nat) (s : State) : (raiseAt n u i s).cnv = s.cnv := calm_lift (fun x => x.cnv) (fun _ => rfl) (calm_raiseAt n u i s)
@[simp] theorem raiseAt_rxd (n u i : Nat) (s : State) : (raiseAt n u i s).rxd = s.rxd := calm_lift (fun x => x.rxd) (fun _ => rfl) (calm_raiseAt n u i s)
@[simp] theorem raiseAt_txd (n u i : Nat) (s : State) : (raiseAt n u i s).txd = s.txd := calm_lift (fun x => x.txd) (fun _ => rfl) (calm_raiseAt n u i s)
@[simp] theorem raiseAt_cod (n u i : Nat) (s : State) : (raiseAt n u i s).cod = s.cod := calm_lift (fun x => x.cod) (fun _ => rfl) (calm_raiseAt n u i s)
@[simp] theorem raiseAt_frm (n u i : Nat) (s : State) : (raiseAt n u i s).frm = s.frm := calm_lift (fun x => x.frm) (fun _ => rfl) (calm_raiseAt n u i s)
@[simp] theorem raiseAt_sec (n u i : Nat) (s : State) : (raiseAt n u i s).sec = s.sec := calm_lift (fun x => x.sec) (fun _ => rfl) (calm_raiseAt n u i s)
@[simp] theorem raiseAt_lod (n u i : Nat) (s : State) : (raiseAt n u i s).lod = s.lod := calm_lift (fun x => x.lod) (fun _ => rfl) (calm_raiseAt n u i s)
@[simp] theorem raiseAt_hst (n u i : Nat) (s : State) : (raiseAt n u i s).hst = s.hst := calm_lift (fun x => x.hst) (fun _ => rfl) (calm_raiseAt n u i s)
@[simp] theorem raiseAt_feh (n u i : Nat) (s : State) : (raiseAt n u i s).feh = s.feh := calm_lift (fun x => x.feh) (fun _ => rfl) (calm_raiseAt n u i s)
@[simp] theorem raiseAt_dom (n u i : Nat) (s : State) : (raiseAt n u i s).dom = s.dom := calm_lift (fun x => x.dom) (fun _ => rfl) (calm_raiseAt n u i s)
@[simp] theorem raiseAt_tap (n u i : Nat) (s : State) : (raiseAt n u i s).tap = s.tap := calm_lift (fun x => x.tap) (fun _ => rfl) (calm_raiseAt n u i s)
@[simp] theorem raiseAt_boundary (n u i : Nat) (s : State) : (raiseAt n u i s).boundary = s.boundary := calm_lift (fun x => x.boundary) (fun _ => rfl) (calm_raiseAt n u i s)
@[simp] theorem raiseAt_pending (n u i : Nat) (s : State) : (raiseAt n u i s).pending = s.pending := calm_lift (fun x => x.pending) (fun _ => rfl) (calm_raiseAt n u i s)
@[simp] theorem raiseAt_mgt_fwReady (n u i : Nat) (s : State) : (raiseAt n u i s).mgt.fwReady = s.mgt.fwReady := calm_lift (fun x => x.mgt.fwReady) (fun _ => rfl) (calm_raiseAt n u i s)
@[simp] theorem raiseAt_mgt_restarting (n u i : Nat) (s : State) : (raiseAt n u i s).mgt.restarting = s.mgt.restarting := calm_lift (fun x => x.mgt.restarting) (fun _ => rfl) (calm_raiseAt n u i s)
@[simp] theorem raiseAt_mgt_build (n u i : Nat) (s : State) : (raiseAt n u i s).mgt.build = s.mgt.build := calm_lift (fun x => x.mgt.build) (fun _ => rfl) (calm_raiseAt n u i s)
@[simp] theorem raiseAt_mgt_channel (n u i : Nat) (s : State) : (raiseAt n u i s).mgt.channel = s.mgt.channel := calm_lift (fun x => x.mgt.channel) (fun _ => rfl) (calm_raiseAt n u i s)
@[simp] theorem raiseAt_mgt_normalRun (n u i : Nat) (s : State) : (raiseAt n u i s).mgt.normalRun = s.mgt.normalRun := calm_lift (fun x => x.mgt.normalRun) (fun _ => rfl) (calm_raiseAt n u i s)
@[simp] theorem raiseAt_mgt_waiting (n u i : Nat) (s : State) : (raiseAt n u i s).mgt.waiting = s.mgt.waiting := calm_lift (fun x => x.mgt.waiting) (fun _ => rfl) (calm_raiseAt n u i s)
@[simp] theorem raiseAt_mgt_owners (n u i : Nat) (s : State) : (raiseAt n u i s).mgt.owners = s.mgt.owners := calm_lift (fun x => x.mgt.owners) (fun _ => rfl) (calm_raiseAt n u i s)
@[simp] theorem raiseAt_mgt_running (n u i : Nat) (s : State) : (raiseAt n u i s).mgt.running = s.mgt.running := calm_lift (fun x => x.mgt.running) (fun _ => rfl) (calm_raiseAt n u i s)
@[simp] theorem raiseAt_mgt_earlyTx (n u i : Nat) (s : State) : (raiseAt n u i s).mgt.earlyTx = s.mgt.earlyTx := calm_lift (fun x => x.mgt.earlyTx) (fun _ => rfl) (calm_raiseAt n u i s)
@[simp] theorem raiseAt_mgt_earlyRx (n u i : Nat) (s : State) : (raiseAt n u i s).mgt.earlyRx = s.mgt.earlyRx := calm_lift (fun x => x.mgt.earlyRx) (fun _ => rfl) (calm_raiseAt n u i s)
@[simp] theorem raiseAt_mgt_commits (n u i : Nat) (s : State) : (raiseAt n u i s).mgt.commits = s.mgt.commits := calm_lift (fun x => x.mgt.commits) (fun _ => rfl) (calm_raiseAt n u i s)
@[simp] theorem raiseAt_mgt_nextCommit (n u i : Nat) (s : State) : (raiseAt n u i s).mgt.nextCommit = s.mgt.nextCommit := calm_lift (fun x => x.mgt.nextCommit) (fun _ => rfl) (calm_raiseAt n u i s)
@[simp] theorem raiseAt_mgt_perst (n u i : Nat) (s : State) : (raiseAt n u i s).mgt.perst = s.mgt.perst := calm_lift (fun x => x.mgt.perst) (fun _ => rfl) (calm_raiseAt n u i s)
@[simp] theorem raiseAt_mgt_resetting (n u i : Nat) (s : State) : (raiseAt n u i s).mgt.resetting = s.mgt.resetting := calm_lift (fun x => x.mgt.resetting) (fun _ => rfl) (calm_raiseAt n u i s)
@[simp] theorem raiseAt_mgt_seq (n u i : Nat) (s : State) : (raiseAt n u i s).mgt.seq = s.mgt.seq := calm_lift (fun x => x.mgt.seq) (fun _ => rfl) (calm_raiseAt n u i s)
@[simp] theorem raiseAt_mgt_coreStopped (n u i : Nat) (s : State) : (raiseAt n u i s).mgt.coreStopped = s.mgt.coreStopped := calm_lift (fun x => x.mgt.coreStopped) (fun _ => rfl) (calm_raiseAt n u i s)
@[simp] theorem raiseAt_mgt_stored (n u i : Nat) (s : State) : (raiseAt n u i s).mgt.stored = s.mgt.stored := calm_lift (fun x => x.mgt.stored) (fun _ => rfl) (calm_raiseAt n u i s)
@[simp] theorem raiseAt_mgt_storedNle (n u i : Nat) (s : State) : (raiseAt n u i s).mgt.storedNle = s.mgt.storedNle := calm_lift (fun x => x.mgt.storedNle) (fun _ => rfl) (calm_raiseAt n u i s)
@[simp] theorem raiseAt_mgt_storedDpd (n u i : Nat) (s : State) : (raiseAt n u i s).mgt.storedDpd = s.mgt.storedDpd := calm_lift (fun x => x.mgt.storedDpd) (fun _ => rfl) (calm_raiseAt n u i s)
@[simp] theorem raiseAt_mon_chains (n u i : Nat) (s : State) : (raiseAt n u i s).mon.chains = s.mon.chains := calm_lift (fun x => x.mon.chains) (fun _ => rfl) (calm_raiseAt n u i s)
@[simp] theorem raiseAt_mon_gauges (n u i : Nat) (s : State) : (raiseAt n u i s).mon.gauges = s.mon.gauges := calm_lift (fun x => x.mon.gauges) (fun _ => rfl) (calm_raiseAt n u i s)
@[simp] theorem raiseAt_mon_latched (n u i : Nat) (s : State) : (raiseAt n u i s).mon.latched = s.mon.latched := calm_lift (fun x => x.mon.latched) (fun _ => rfl) (calm_raiseAt n u i s)
@[simp] theorem raiseAt_mon_cleared (n u i : Nat) (s : State) : (raiseAt n u i s).mon.cleared = s.mon.cleared := calm_lift (fun x => x.mon.cleared) (fun _ => rfl) (calm_raiseAt n u i s)
@[simp] theorem raiseAt_mon_early (n u i : Nat) (s : State) : (raiseAt n u i s).mon.early = s.mon.early := calm_lift (fun x => x.mon.early) (fun _ => rfl) (calm_raiseAt n u i s)
@[simp] theorem raiseAt_mon_stepped (n u i : Nat) (s : State) : (raiseAt n u i s).mon.stepped = s.mon.stepped := calm_lift (fun x => x.mon.stepped) (fun _ => rfl) (calm_raiseAt n u i s)
@[simp] theorem raiseAt_mon_bin15 (n u i : Nat) (s : State) : (raiseAt n u i s).mon.bin15 = s.mon.bin15 := calm_lift (fun x => x.mon.bin15) (fun _ => rfl) (calm_raiseAt n u i s)
@[simp] theorem raiseAt_mon_bin24 (n u i : Nat) (s : State) : (raiseAt n u i s).mon.bin24 = s.mon.bin24 := calm_lift (fun x => x.mon.bin24) (fun _ => rfl) (calm_raiseAt n u i s)
@[simp] theorem raiseAt_mon_drain (n u i : Nat) (s : State) : (raiseAt n u i s).mon.drain = s.mon.drain := calm_lift (fun x => x.mon.drain) (fun _ => rfl) (calm_raiseAt n u i s)
@[simp] theorem raiseAt_mon_waiting (n u i : Nat) (s : State) : (raiseAt n u i s).mon.waiting = s.mon.waiting := calm_lift (fun x => x.mon.waiting) (fun _ => rfl) (calm_raiseAt n u i s)
@[simp] theorem raiseAt_mon_atBoundary (n u i : Nat) (s : State) : (raiseAt n u i s).mon.atBoundary = s.mon.atBoundary := calm_lift (fun x => x.mon.atBoundary) (fun _ => rfl) (calm_raiseAt n u i s)
@[simp] theorem raiseAt_mon_written (n u i : Nat) (s : State) : (raiseAt n u i s).mon.written = s.mon.written := calm_lift (fun x => x.mon.written) (fun _ => rfl) (calm_raiseAt n u i s)
@[simp] theorem raiseAt_mon_snaps (n u i : Nat) (s : State) : (raiseAt n u i s).mon.snaps = s.mon.snaps := calm_lift (fun x => x.mon.snaps) (fun _ => rfl) (calm_raiseAt n u i s)
@[simp] theorem raiseAt_mon_drainNs (n u i : Nat) (s : State) : (raiseAt n u i s).mon.drainNs = s.mon.drainNs := calm_lift (fun x => x.mon.drainNs) (fun _ => rfl) (calm_raiseAt n u i s)
@[simp] theorem raiseAt_mon_snap (n u i : Nat) (s : State) : (raiseAt n u i s).mon.snap = s.mon.snap := calm_lift (fun x => x.mon.snap) (fun _ => rfl) (calm_raiseAt n u i s)
@[simp] theorem raiseAt_mon_interval (n u i : Nat) (s : State) : (raiseAt n u i s).mon.interval = s.mon.interval := calm_lift (fun x => x.mon.interval) (fun _ => rfl) (calm_raiseAt n u i s)
@[simp] theorem raiseAt_mon_lastKind (n u i : Nat) (s : State) : (raiseAt n u i s).mon.lastKind = s.mon.lastKind := calm_lift (fun x => x.mon.lastKind) (fun _ => rfl) (calm_raiseAt n u i s)
@[simp] theorem raiseAt_mon_flagStep (n u i : Nat) (s : State) : (raiseAt n u i s).mon.flagStep = s.mon.flagStep := calm_lift (fun x => x.mon.flagStep) (fun _ => rfl) (calm_raiseAt n u i s)
@[simp] theorem raiseAt_mon_flagStore (n u i : Nat) (s : State) : (raiseAt n u i s).mon.flagStore = s.mon.flagStore := calm_lift (fun x => x.mon.flagStore) (fun _ => rfl) (calm_raiseAt n u i s)
@[simp] theorem raiseAt_mon_sampledAt (n u i : Nat) (s : State) : (raiseAt n u i s).mon.sampledAt = s.mon.sampledAt := calm_lift (fun x => x.mon.sampledAt) (fun _ => rfl) (calm_raiseAt n u i s)
@[simp] theorem raiseAt_mon_fecBits (n u i : Nat) (s : State) : (raiseAt n u i s).mon.fecBits = s.mon.fecBits := calm_lift (fun x => x.mon.fecBits) (fun _ => rfl) (calm_raiseAt n u i s)
@[simp] theorem raiseAt_mon_fecCorr (n u i : Nat) (s : State) : (raiseAt n u i s).mon.fecCorr = s.mon.fecCorr := calm_lift (fun x => x.mon.fecCorr) (fun _ => rfl) (calm_raiseAt n u i s)
@[simp] theorem raiseAt_mon_unpairedCount (n u i : Nat) (s : State) : (raiseAt n u i s).mon.unpairedCount = s.mon.unpairedCount := calm_lift (fun x => x.mon.unpairedCount) (fun _ => rfl) (calm_raiseAt n u i s)
@[simp] theorem raiseAt_cfg (n u i : Nat) (s : State) (row : ParamRow) (x y z : Nat) : (raiseAt n u i s).cfg row x y z = s.cfg row x y z := calm_lift (fun t => t.cfg row x y z) (fun _ => rfl) (calm_raiseAt n u i s)
@[simp] theorem raiseAt_owns (n u i : Nat) (s : State) (seat : SeatId) (path : Path) : (raiseAt n u i s).owns seat path = s.owns seat path := calm_lift (fun t => t.owns seat path) (fun _ => rfl) (calm_raiseAt n u i s)
@[simp] theorem raiseAt_deviceState (n u i : Nat) (s : State) : (raiseAt n u i s).deviceState = s.deviceState := calm_lift (fun t => t.deviceState) (fun _ => rfl) (calm_raiseAt n u i s)

@[simp] theorem raise_now (n : Nat) (s : State) : (raise n s).now = s.now := calm_lift (fun x => x.now) (fun _ => rfl) (calm_raise n s)
@[simp] theorem raise_free (n : Nat) (s : State) : (raise n s).free = s.free := calm_lift (fun x => x.free) (fun _ => rfl) (calm_raise n s)
@[simp] theorem raise_fuses (n : Nat) (s : State) : (raise n s).fuses = s.fuses := calm_lift (fun x => x.fuses) (fun _ => rfl) (calm_raise n s)
@[simp] theorem raise_pwr (n : Nat) (s : State) : (raise n s).pwr = s.pwr := calm_lift (fun x => x.pwr) (fun _ => rfl) (calm_raise n s)
@[simp] theorem raise_clk (n : Nat) (s : State) : (raise n s).clk = s.clk := calm_lift (fun x => x.clk) (fun _ => rfl) (calm_raise n s)
@[simp] theorem raise_tim (n : Nat) (s : State) : (raise n s).tim = s.tim := calm_lift (fun x => x.tim) (fun _ => rfl) (calm_raise n s)
@[simp] theorem raise_mem (n : Nat) (s : State) : (raise n s).mem = s.mem := calm_lift (fun x => x.mem) (fun _ => rfl) (calm_raise n s)
@[simp] theorem raise_cnv (n : Nat) (s : State) : (raise n s).cnv = s.cnv := calm_lift (fun x => x.cnv) (fun _ => rfl) (calm_raise n s)
@[simp] theorem raise_rxd (n : Nat) (s : State) : (raise n s).rxd = s.rxd := calm_lift (fun x => x.rxd) (fun _ => rfl) (calm_raise n s)
@[simp] theorem raise_txd (n : Nat) (s : State) : (raise n s).txd = s.txd := calm_lift (fun x => x.txd) (fun _ => rfl) (calm_raise n s)
@[simp] theorem raise_cod (n : Nat) (s : State) : (raise n s).cod = s.cod := calm_lift (fun x => x.cod) (fun _ => rfl) (calm_raise n s)
@[simp] theorem raise_frm (n : Nat) (s : State) : (raise n s).frm = s.frm := calm_lift (fun x => x.frm) (fun _ => rfl) (calm_raise n s)
@[simp] theorem raise_sec (n : Nat) (s : State) : (raise n s).sec = s.sec := calm_lift (fun x => x.sec) (fun _ => rfl) (calm_raise n s)
@[simp] theorem raise_lod (n : Nat) (s : State) : (raise n s).lod = s.lod := calm_lift (fun x => x.lod) (fun _ => rfl) (calm_raise n s)
@[simp] theorem raise_hst (n : Nat) (s : State) : (raise n s).hst = s.hst := calm_lift (fun x => x.hst) (fun _ => rfl) (calm_raise n s)
@[simp] theorem raise_feh (n : Nat) (s : State) : (raise n s).feh = s.feh := calm_lift (fun x => x.feh) (fun _ => rfl) (calm_raise n s)
@[simp] theorem raise_dom (n : Nat) (s : State) : (raise n s).dom = s.dom := calm_lift (fun x => x.dom) (fun _ => rfl) (calm_raise n s)
@[simp] theorem raise_tap (n : Nat) (s : State) : (raise n s).tap = s.tap := calm_lift (fun x => x.tap) (fun _ => rfl) (calm_raise n s)
@[simp] theorem raise_boundary (n : Nat) (s : State) : (raise n s).boundary = s.boundary := calm_lift (fun x => x.boundary) (fun _ => rfl) (calm_raise n s)
@[simp] theorem raise_pending (n : Nat) (s : State) : (raise n s).pending = s.pending := calm_lift (fun x => x.pending) (fun _ => rfl) (calm_raise n s)
@[simp] theorem raise_mgt_fwReady (n : Nat) (s : State) : (raise n s).mgt.fwReady = s.mgt.fwReady := calm_lift (fun x => x.mgt.fwReady) (fun _ => rfl) (calm_raise n s)
@[simp] theorem raise_mgt_restarting (n : Nat) (s : State) : (raise n s).mgt.restarting = s.mgt.restarting := calm_lift (fun x => x.mgt.restarting) (fun _ => rfl) (calm_raise n s)
@[simp] theorem raise_mgt_build (n : Nat) (s : State) : (raise n s).mgt.build = s.mgt.build := calm_lift (fun x => x.mgt.build) (fun _ => rfl) (calm_raise n s)
@[simp] theorem raise_mgt_channel (n : Nat) (s : State) : (raise n s).mgt.channel = s.mgt.channel := calm_lift (fun x => x.mgt.channel) (fun _ => rfl) (calm_raise n s)
@[simp] theorem raise_mgt_normalRun (n : Nat) (s : State) : (raise n s).mgt.normalRun = s.mgt.normalRun := calm_lift (fun x => x.mgt.normalRun) (fun _ => rfl) (calm_raise n s)
@[simp] theorem raise_mgt_waiting (n : Nat) (s : State) : (raise n s).mgt.waiting = s.mgt.waiting := calm_lift (fun x => x.mgt.waiting) (fun _ => rfl) (calm_raise n s)
@[simp] theorem raise_mgt_owners (n : Nat) (s : State) : (raise n s).mgt.owners = s.mgt.owners := calm_lift (fun x => x.mgt.owners) (fun _ => rfl) (calm_raise n s)
@[simp] theorem raise_mgt_running (n : Nat) (s : State) : (raise n s).mgt.running = s.mgt.running := calm_lift (fun x => x.mgt.running) (fun _ => rfl) (calm_raise n s)
@[simp] theorem raise_mgt_earlyTx (n : Nat) (s : State) : (raise n s).mgt.earlyTx = s.mgt.earlyTx := calm_lift (fun x => x.mgt.earlyTx) (fun _ => rfl) (calm_raise n s)
@[simp] theorem raise_mgt_earlyRx (n : Nat) (s : State) : (raise n s).mgt.earlyRx = s.mgt.earlyRx := calm_lift (fun x => x.mgt.earlyRx) (fun _ => rfl) (calm_raise n s)
@[simp] theorem raise_mgt_commits (n : Nat) (s : State) : (raise n s).mgt.commits = s.mgt.commits := calm_lift (fun x => x.mgt.commits) (fun _ => rfl) (calm_raise n s)
@[simp] theorem raise_mgt_nextCommit (n : Nat) (s : State) : (raise n s).mgt.nextCommit = s.mgt.nextCommit := calm_lift (fun x => x.mgt.nextCommit) (fun _ => rfl) (calm_raise n s)
@[simp] theorem raise_mgt_perst (n : Nat) (s : State) : (raise n s).mgt.perst = s.mgt.perst := calm_lift (fun x => x.mgt.perst) (fun _ => rfl) (calm_raise n s)
@[simp] theorem raise_mgt_resetting (n : Nat) (s : State) : (raise n s).mgt.resetting = s.mgt.resetting := calm_lift (fun x => x.mgt.resetting) (fun _ => rfl) (calm_raise n s)
@[simp] theorem raise_mgt_seq (n : Nat) (s : State) : (raise n s).mgt.seq = s.mgt.seq := calm_lift (fun x => x.mgt.seq) (fun _ => rfl) (calm_raise n s)
@[simp] theorem raise_mgt_coreStopped (n : Nat) (s : State) : (raise n s).mgt.coreStopped = s.mgt.coreStopped := calm_lift (fun x => x.mgt.coreStopped) (fun _ => rfl) (calm_raise n s)
@[simp] theorem raise_mgt_stored (n : Nat) (s : State) : (raise n s).mgt.stored = s.mgt.stored := calm_lift (fun x => x.mgt.stored) (fun _ => rfl) (calm_raise n s)
@[simp] theorem raise_mgt_storedNle (n : Nat) (s : State) : (raise n s).mgt.storedNle = s.mgt.storedNle := calm_lift (fun x => x.mgt.storedNle) (fun _ => rfl) (calm_raise n s)
@[simp] theorem raise_mgt_storedDpd (n : Nat) (s : State) : (raise n s).mgt.storedDpd = s.mgt.storedDpd := calm_lift (fun x => x.mgt.storedDpd) (fun _ => rfl) (calm_raise n s)
@[simp] theorem raise_mon_chains (n : Nat) (s : State) : (raise n s).mon.chains = s.mon.chains := calm_lift (fun x => x.mon.chains) (fun _ => rfl) (calm_raise n s)
@[simp] theorem raise_mon_gauges (n : Nat) (s : State) : (raise n s).mon.gauges = s.mon.gauges := calm_lift (fun x => x.mon.gauges) (fun _ => rfl) (calm_raise n s)
@[simp] theorem raise_mon_latched (n : Nat) (s : State) : (raise n s).mon.latched = s.mon.latched := calm_lift (fun x => x.mon.latched) (fun _ => rfl) (calm_raise n s)
@[simp] theorem raise_mon_cleared (n : Nat) (s : State) : (raise n s).mon.cleared = s.mon.cleared := calm_lift (fun x => x.mon.cleared) (fun _ => rfl) (calm_raise n s)
@[simp] theorem raise_mon_early (n : Nat) (s : State) : (raise n s).mon.early = s.mon.early := calm_lift (fun x => x.mon.early) (fun _ => rfl) (calm_raise n s)
@[simp] theorem raise_mon_stepped (n : Nat) (s : State) : (raise n s).mon.stepped = s.mon.stepped := calm_lift (fun x => x.mon.stepped) (fun _ => rfl) (calm_raise n s)
@[simp] theorem raise_mon_bin15 (n : Nat) (s : State) : (raise n s).mon.bin15 = s.mon.bin15 := calm_lift (fun x => x.mon.bin15) (fun _ => rfl) (calm_raise n s)
@[simp] theorem raise_mon_bin24 (n : Nat) (s : State) : (raise n s).mon.bin24 = s.mon.bin24 := calm_lift (fun x => x.mon.bin24) (fun _ => rfl) (calm_raise n s)
@[simp] theorem raise_mon_drain (n : Nat) (s : State) : (raise n s).mon.drain = s.mon.drain := calm_lift (fun x => x.mon.drain) (fun _ => rfl) (calm_raise n s)
@[simp] theorem raise_mon_waiting (n : Nat) (s : State) : (raise n s).mon.waiting = s.mon.waiting := calm_lift (fun x => x.mon.waiting) (fun _ => rfl) (calm_raise n s)
@[simp] theorem raise_mon_atBoundary (n : Nat) (s : State) : (raise n s).mon.atBoundary = s.mon.atBoundary := calm_lift (fun x => x.mon.atBoundary) (fun _ => rfl) (calm_raise n s)
@[simp] theorem raise_mon_written (n : Nat) (s : State) : (raise n s).mon.written = s.mon.written := calm_lift (fun x => x.mon.written) (fun _ => rfl) (calm_raise n s)
@[simp] theorem raise_mon_snaps (n : Nat) (s : State) : (raise n s).mon.snaps = s.mon.snaps := calm_lift (fun x => x.mon.snaps) (fun _ => rfl) (calm_raise n s)
@[simp] theorem raise_mon_drainNs (n : Nat) (s : State) : (raise n s).mon.drainNs = s.mon.drainNs := calm_lift (fun x => x.mon.drainNs) (fun _ => rfl) (calm_raise n s)
@[simp] theorem raise_mon_snap (n : Nat) (s : State) : (raise n s).mon.snap = s.mon.snap := calm_lift (fun x => x.mon.snap) (fun _ => rfl) (calm_raise n s)
@[simp] theorem raise_mon_interval (n : Nat) (s : State) : (raise n s).mon.interval = s.mon.interval := calm_lift (fun x => x.mon.interval) (fun _ => rfl) (calm_raise n s)
@[simp] theorem raise_mon_lastKind (n : Nat) (s : State) : (raise n s).mon.lastKind = s.mon.lastKind := calm_lift (fun x => x.mon.lastKind) (fun _ => rfl) (calm_raise n s)
@[simp] theorem raise_mon_flagStep (n : Nat) (s : State) : (raise n s).mon.flagStep = s.mon.flagStep := calm_lift (fun x => x.mon.flagStep) (fun _ => rfl) (calm_raise n s)
@[simp] theorem raise_mon_flagStore (n : Nat) (s : State) : (raise n s).mon.flagStore = s.mon.flagStore := calm_lift (fun x => x.mon.flagStore) (fun _ => rfl) (calm_raise n s)
@[simp] theorem raise_mon_sampledAt (n : Nat) (s : State) : (raise n s).mon.sampledAt = s.mon.sampledAt := calm_lift (fun x => x.mon.sampledAt) (fun _ => rfl) (calm_raise n s)
@[simp] theorem raise_mon_fecBits (n : Nat) (s : State) : (raise n s).mon.fecBits = s.mon.fecBits := calm_lift (fun x => x.mon.fecBits) (fun _ => rfl) (calm_raise n s)
@[simp] theorem raise_mon_fecCorr (n : Nat) (s : State) : (raise n s).mon.fecCorr = s.mon.fecCorr := calm_lift (fun x => x.mon.fecCorr) (fun _ => rfl) (calm_raise n s)
@[simp] theorem raise_mon_unpairedCount (n : Nat) (s : State) : (raise n s).mon.unpairedCount = s.mon.unpairedCount := calm_lift (fun x => x.mon.unpairedCount) (fun _ => rfl) (calm_raise n s)
@[simp] theorem raise_cfg (n : Nat) (s : State) (row : ParamRow) (x y z : Nat) : (raise n s).cfg row x y z = s.cfg row x y z := calm_lift (fun t => t.cfg row x y z) (fun _ => rfl) (calm_raise n s)
@[simp] theorem raise_owns (n : Nat) (s : State) (seat : SeatId) (path : Path) : (raise n s).owns seat path = s.owns seat path := calm_lift (fun t => t.owns seat path) (fun _ => rfl) (calm_raise n s)
@[simp] theorem raise_deviceState (n : Nat) (s : State) : (raise n s).deviceState = s.deviceState := calm_lift (fun t => t.deviceState) (fun _ => rfl) (calm_raise n s)

@[simp] theorem raiseFor_now (n i : Nat) (s : State) : (raiseFor n i s).now = s.now := calm_lift (fun x => x.now) (fun _ => rfl) (calm_raiseFor n i s)
@[simp] theorem raiseFor_free (n i : Nat) (s : State) : (raiseFor n i s).free = s.free := calm_lift (fun x => x.free) (fun _ => rfl) (calm_raiseFor n i s)
@[simp] theorem raiseFor_fuses (n i : Nat) (s : State) : (raiseFor n i s).fuses = s.fuses := calm_lift (fun x => x.fuses) (fun _ => rfl) (calm_raiseFor n i s)
@[simp] theorem raiseFor_pwr (n i : Nat) (s : State) : (raiseFor n i s).pwr = s.pwr := calm_lift (fun x => x.pwr) (fun _ => rfl) (calm_raiseFor n i s)
@[simp] theorem raiseFor_clk (n i : Nat) (s : State) : (raiseFor n i s).clk = s.clk := calm_lift (fun x => x.clk) (fun _ => rfl) (calm_raiseFor n i s)
@[simp] theorem raiseFor_tim (n i : Nat) (s : State) : (raiseFor n i s).tim = s.tim := calm_lift (fun x => x.tim) (fun _ => rfl) (calm_raiseFor n i s)
@[simp] theorem raiseFor_mem (n i : Nat) (s : State) : (raiseFor n i s).mem = s.mem := calm_lift (fun x => x.mem) (fun _ => rfl) (calm_raiseFor n i s)
@[simp] theorem raiseFor_cnv (n i : Nat) (s : State) : (raiseFor n i s).cnv = s.cnv := calm_lift (fun x => x.cnv) (fun _ => rfl) (calm_raiseFor n i s)
@[simp] theorem raiseFor_rxd (n i : Nat) (s : State) : (raiseFor n i s).rxd = s.rxd := calm_lift (fun x => x.rxd) (fun _ => rfl) (calm_raiseFor n i s)
@[simp] theorem raiseFor_txd (n i : Nat) (s : State) : (raiseFor n i s).txd = s.txd := calm_lift (fun x => x.txd) (fun _ => rfl) (calm_raiseFor n i s)
@[simp] theorem raiseFor_cod (n i : Nat) (s : State) : (raiseFor n i s).cod = s.cod := calm_lift (fun x => x.cod) (fun _ => rfl) (calm_raiseFor n i s)
@[simp] theorem raiseFor_frm (n i : Nat) (s : State) : (raiseFor n i s).frm = s.frm := calm_lift (fun x => x.frm) (fun _ => rfl) (calm_raiseFor n i s)
@[simp] theorem raiseFor_sec (n i : Nat) (s : State) : (raiseFor n i s).sec = s.sec := calm_lift (fun x => x.sec) (fun _ => rfl) (calm_raiseFor n i s)
@[simp] theorem raiseFor_lod (n i : Nat) (s : State) : (raiseFor n i s).lod = s.lod := calm_lift (fun x => x.lod) (fun _ => rfl) (calm_raiseFor n i s)
@[simp] theorem raiseFor_hst (n i : Nat) (s : State) : (raiseFor n i s).hst = s.hst := calm_lift (fun x => x.hst) (fun _ => rfl) (calm_raiseFor n i s)
@[simp] theorem raiseFor_feh (n i : Nat) (s : State) : (raiseFor n i s).feh = s.feh := calm_lift (fun x => x.feh) (fun _ => rfl) (calm_raiseFor n i s)
@[simp] theorem raiseFor_dom (n i : Nat) (s : State) : (raiseFor n i s).dom = s.dom := calm_lift (fun x => x.dom) (fun _ => rfl) (calm_raiseFor n i s)
@[simp] theorem raiseFor_tap (n i : Nat) (s : State) : (raiseFor n i s).tap = s.tap := calm_lift (fun x => x.tap) (fun _ => rfl) (calm_raiseFor n i s)
@[simp] theorem raiseFor_boundary (n i : Nat) (s : State) : (raiseFor n i s).boundary = s.boundary := calm_lift (fun x => x.boundary) (fun _ => rfl) (calm_raiseFor n i s)
@[simp] theorem raiseFor_pending (n i : Nat) (s : State) : (raiseFor n i s).pending = s.pending := calm_lift (fun x => x.pending) (fun _ => rfl) (calm_raiseFor n i s)
@[simp] theorem raiseFor_mgt_fwReady (n i : Nat) (s : State) : (raiseFor n i s).mgt.fwReady = s.mgt.fwReady := calm_lift (fun x => x.mgt.fwReady) (fun _ => rfl) (calm_raiseFor n i s)
@[simp] theorem raiseFor_mgt_restarting (n i : Nat) (s : State) : (raiseFor n i s).mgt.restarting = s.mgt.restarting := calm_lift (fun x => x.mgt.restarting) (fun _ => rfl) (calm_raiseFor n i s)
@[simp] theorem raiseFor_mgt_build (n i : Nat) (s : State) : (raiseFor n i s).mgt.build = s.mgt.build := calm_lift (fun x => x.mgt.build) (fun _ => rfl) (calm_raiseFor n i s)
@[simp] theorem raiseFor_mgt_channel (n i : Nat) (s : State) : (raiseFor n i s).mgt.channel = s.mgt.channel := calm_lift (fun x => x.mgt.channel) (fun _ => rfl) (calm_raiseFor n i s)
@[simp] theorem raiseFor_mgt_normalRun (n i : Nat) (s : State) : (raiseFor n i s).mgt.normalRun = s.mgt.normalRun := calm_lift (fun x => x.mgt.normalRun) (fun _ => rfl) (calm_raiseFor n i s)
@[simp] theorem raiseFor_mgt_waiting (n i : Nat) (s : State) : (raiseFor n i s).mgt.waiting = s.mgt.waiting := calm_lift (fun x => x.mgt.waiting) (fun _ => rfl) (calm_raiseFor n i s)
@[simp] theorem raiseFor_mgt_owners (n i : Nat) (s : State) : (raiseFor n i s).mgt.owners = s.mgt.owners := calm_lift (fun x => x.mgt.owners) (fun _ => rfl) (calm_raiseFor n i s)
@[simp] theorem raiseFor_mgt_running (n i : Nat) (s : State) : (raiseFor n i s).mgt.running = s.mgt.running := calm_lift (fun x => x.mgt.running) (fun _ => rfl) (calm_raiseFor n i s)
@[simp] theorem raiseFor_mgt_earlyTx (n i : Nat) (s : State) : (raiseFor n i s).mgt.earlyTx = s.mgt.earlyTx := calm_lift (fun x => x.mgt.earlyTx) (fun _ => rfl) (calm_raiseFor n i s)
@[simp] theorem raiseFor_mgt_earlyRx (n i : Nat) (s : State) : (raiseFor n i s).mgt.earlyRx = s.mgt.earlyRx := calm_lift (fun x => x.mgt.earlyRx) (fun _ => rfl) (calm_raiseFor n i s)
@[simp] theorem raiseFor_mgt_commits (n i : Nat) (s : State) : (raiseFor n i s).mgt.commits = s.mgt.commits := calm_lift (fun x => x.mgt.commits) (fun _ => rfl) (calm_raiseFor n i s)
@[simp] theorem raiseFor_mgt_nextCommit (n i : Nat) (s : State) : (raiseFor n i s).mgt.nextCommit = s.mgt.nextCommit := calm_lift (fun x => x.mgt.nextCommit) (fun _ => rfl) (calm_raiseFor n i s)
@[simp] theorem raiseFor_mgt_perst (n i : Nat) (s : State) : (raiseFor n i s).mgt.perst = s.mgt.perst := calm_lift (fun x => x.mgt.perst) (fun _ => rfl) (calm_raiseFor n i s)
@[simp] theorem raiseFor_mgt_resetting (n i : Nat) (s : State) : (raiseFor n i s).mgt.resetting = s.mgt.resetting := calm_lift (fun x => x.mgt.resetting) (fun _ => rfl) (calm_raiseFor n i s)
@[simp] theorem raiseFor_mgt_seq (n i : Nat) (s : State) : (raiseFor n i s).mgt.seq = s.mgt.seq := calm_lift (fun x => x.mgt.seq) (fun _ => rfl) (calm_raiseFor n i s)
@[simp] theorem raiseFor_mgt_coreStopped (n i : Nat) (s : State) : (raiseFor n i s).mgt.coreStopped = s.mgt.coreStopped := calm_lift (fun x => x.mgt.coreStopped) (fun _ => rfl) (calm_raiseFor n i s)
@[simp] theorem raiseFor_mgt_stored (n i : Nat) (s : State) : (raiseFor n i s).mgt.stored = s.mgt.stored := calm_lift (fun x => x.mgt.stored) (fun _ => rfl) (calm_raiseFor n i s)
@[simp] theorem raiseFor_mgt_storedNle (n i : Nat) (s : State) : (raiseFor n i s).mgt.storedNle = s.mgt.storedNle := calm_lift (fun x => x.mgt.storedNle) (fun _ => rfl) (calm_raiseFor n i s)
@[simp] theorem raiseFor_mgt_storedDpd (n i : Nat) (s : State) : (raiseFor n i s).mgt.storedDpd = s.mgt.storedDpd := calm_lift (fun x => x.mgt.storedDpd) (fun _ => rfl) (calm_raiseFor n i s)
@[simp] theorem raiseFor_mon_chains (n i : Nat) (s : State) : (raiseFor n i s).mon.chains = s.mon.chains := calm_lift (fun x => x.mon.chains) (fun _ => rfl) (calm_raiseFor n i s)
@[simp] theorem raiseFor_mon_gauges (n i : Nat) (s : State) : (raiseFor n i s).mon.gauges = s.mon.gauges := calm_lift (fun x => x.mon.gauges) (fun _ => rfl) (calm_raiseFor n i s)
@[simp] theorem raiseFor_mon_latched (n i : Nat) (s : State) : (raiseFor n i s).mon.latched = s.mon.latched := calm_lift (fun x => x.mon.latched) (fun _ => rfl) (calm_raiseFor n i s)
@[simp] theorem raiseFor_mon_cleared (n i : Nat) (s : State) : (raiseFor n i s).mon.cleared = s.mon.cleared := calm_lift (fun x => x.mon.cleared) (fun _ => rfl) (calm_raiseFor n i s)
@[simp] theorem raiseFor_mon_early (n i : Nat) (s : State) : (raiseFor n i s).mon.early = s.mon.early := calm_lift (fun x => x.mon.early) (fun _ => rfl) (calm_raiseFor n i s)
@[simp] theorem raiseFor_mon_stepped (n i : Nat) (s : State) : (raiseFor n i s).mon.stepped = s.mon.stepped := calm_lift (fun x => x.mon.stepped) (fun _ => rfl) (calm_raiseFor n i s)
@[simp] theorem raiseFor_mon_bin15 (n i : Nat) (s : State) : (raiseFor n i s).mon.bin15 = s.mon.bin15 := calm_lift (fun x => x.mon.bin15) (fun _ => rfl) (calm_raiseFor n i s)
@[simp] theorem raiseFor_mon_bin24 (n i : Nat) (s : State) : (raiseFor n i s).mon.bin24 = s.mon.bin24 := calm_lift (fun x => x.mon.bin24) (fun _ => rfl) (calm_raiseFor n i s)
@[simp] theorem raiseFor_mon_drain (n i : Nat) (s : State) : (raiseFor n i s).mon.drain = s.mon.drain := calm_lift (fun x => x.mon.drain) (fun _ => rfl) (calm_raiseFor n i s)
@[simp] theorem raiseFor_mon_waiting (n i : Nat) (s : State) : (raiseFor n i s).mon.waiting = s.mon.waiting := calm_lift (fun x => x.mon.waiting) (fun _ => rfl) (calm_raiseFor n i s)
@[simp] theorem raiseFor_mon_atBoundary (n i : Nat) (s : State) : (raiseFor n i s).mon.atBoundary = s.mon.atBoundary := calm_lift (fun x => x.mon.atBoundary) (fun _ => rfl) (calm_raiseFor n i s)
@[simp] theorem raiseFor_mon_written (n i : Nat) (s : State) : (raiseFor n i s).mon.written = s.mon.written := calm_lift (fun x => x.mon.written) (fun _ => rfl) (calm_raiseFor n i s)
@[simp] theorem raiseFor_mon_snaps (n i : Nat) (s : State) : (raiseFor n i s).mon.snaps = s.mon.snaps := calm_lift (fun x => x.mon.snaps) (fun _ => rfl) (calm_raiseFor n i s)
@[simp] theorem raiseFor_mon_drainNs (n i : Nat) (s : State) : (raiseFor n i s).mon.drainNs = s.mon.drainNs := calm_lift (fun x => x.mon.drainNs) (fun _ => rfl) (calm_raiseFor n i s)
@[simp] theorem raiseFor_mon_snap (n i : Nat) (s : State) : (raiseFor n i s).mon.snap = s.mon.snap := calm_lift (fun x => x.mon.snap) (fun _ => rfl) (calm_raiseFor n i s)
@[simp] theorem raiseFor_mon_interval (n i : Nat) (s : State) : (raiseFor n i s).mon.interval = s.mon.interval := calm_lift (fun x => x.mon.interval) (fun _ => rfl) (calm_raiseFor n i s)
@[simp] theorem raiseFor_mon_lastKind (n i : Nat) (s : State) : (raiseFor n i s).mon.lastKind = s.mon.lastKind := calm_lift (fun x => x.mon.lastKind) (fun _ => rfl) (calm_raiseFor n i s)
@[simp] theorem raiseFor_mon_flagStep (n i : Nat) (s : State) : (raiseFor n i s).mon.flagStep = s.mon.flagStep := calm_lift (fun x => x.mon.flagStep) (fun _ => rfl) (calm_raiseFor n i s)
@[simp] theorem raiseFor_mon_flagStore (n i : Nat) (s : State) : (raiseFor n i s).mon.flagStore = s.mon.flagStore := calm_lift (fun x => x.mon.flagStore) (fun _ => rfl) (calm_raiseFor n i s)
@[simp] theorem raiseFor_mon_sampledAt (n i : Nat) (s : State) : (raiseFor n i s).mon.sampledAt = s.mon.sampledAt := calm_lift (fun x => x.mon.sampledAt) (fun _ => rfl) (calm_raiseFor n i s)
@[simp] theorem raiseFor_mon_fecBits (n i : Nat) (s : State) : (raiseFor n i s).mon.fecBits = s.mon.fecBits := calm_lift (fun x => x.mon.fecBits) (fun _ => rfl) (calm_raiseFor n i s)
@[simp] theorem raiseFor_mon_fecCorr (n i : Nat) (s : State) : (raiseFor n i s).mon.fecCorr = s.mon.fecCorr := calm_lift (fun x => x.mon.fecCorr) (fun _ => rfl) (calm_raiseFor n i s)
@[simp] theorem raiseFor_mon_unpairedCount (n i : Nat) (s : State) : (raiseFor n i s).mon.unpairedCount = s.mon.unpairedCount := calm_lift (fun x => x.mon.unpairedCount) (fun _ => rfl) (calm_raiseFor n i s)
@[simp] theorem raiseFor_cfg (n i : Nat) (s : State) (row : ParamRow) (x y z : Nat) : (raiseFor n i s).cfg row x y z = s.cfg row x y z := calm_lift (fun t => t.cfg row x y z) (fun _ => rfl) (calm_raiseFor n i s)
@[simp] theorem raiseFor_owns (n i : Nat) (s : State) (seat : SeatId) (path : Path) : (raiseFor n i s).owns seat path = s.owns seat path := calm_lift (fun t => t.owns seat path) (fun _ => rfl) (calm_raiseFor n i s)
@[simp] theorem raiseFor_deviceState (n i : Nat) (s : State) : (raiseFor n i s).deviceState = s.deviceState := calm_lift (fun t => t.deviceState) (fun _ => rfl) (calm_raiseFor n i s)

@[simp] theorem post_now (i : SeatId) (p : Posting) (s : State) : (post i p s).now = s.now := calm_lift (fun x => x.now) (fun _ => rfl) (calm_post i p s)
@[simp] theorem post_free (i : SeatId) (p : Posting) (s : State) : (post i p s).free = s.free := calm_lift (fun x => x.free) (fun _ => rfl) (calm_post i p s)
@[simp] theorem post_fuses (i : SeatId) (p : Posting) (s : State) : (post i p s).fuses = s.fuses := calm_lift (fun x => x.fuses) (fun _ => rfl) (calm_post i p s)
@[simp] theorem post_pwr (i : SeatId) (p : Posting) (s : State) : (post i p s).pwr = s.pwr := calm_lift (fun x => x.pwr) (fun _ => rfl) (calm_post i p s)
@[simp] theorem post_clk (i : SeatId) (p : Posting) (s : State) : (post i p s).clk = s.clk := calm_lift (fun x => x.clk) (fun _ => rfl) (calm_post i p s)
@[simp] theorem post_tim (i : SeatId) (p : Posting) (s : State) : (post i p s).tim = s.tim := calm_lift (fun x => x.tim) (fun _ => rfl) (calm_post i p s)
@[simp] theorem post_mem (i : SeatId) (p : Posting) (s : State) : (post i p s).mem = s.mem := calm_lift (fun x => x.mem) (fun _ => rfl) (calm_post i p s)
@[simp] theorem post_cnv (i : SeatId) (p : Posting) (s : State) : (post i p s).cnv = s.cnv := calm_lift (fun x => x.cnv) (fun _ => rfl) (calm_post i p s)
@[simp] theorem post_rxd (i : SeatId) (p : Posting) (s : State) : (post i p s).rxd = s.rxd := calm_lift (fun x => x.rxd) (fun _ => rfl) (calm_post i p s)
@[simp] theorem post_txd (i : SeatId) (p : Posting) (s : State) : (post i p s).txd = s.txd := calm_lift (fun x => x.txd) (fun _ => rfl) (calm_post i p s)
@[simp] theorem post_cod (i : SeatId) (p : Posting) (s : State) : (post i p s).cod = s.cod := calm_lift (fun x => x.cod) (fun _ => rfl) (calm_post i p s)
@[simp] theorem post_frm (i : SeatId) (p : Posting) (s : State) : (post i p s).frm = s.frm := calm_lift (fun x => x.frm) (fun _ => rfl) (calm_post i p s)
@[simp] theorem post_sec (i : SeatId) (p : Posting) (s : State) : (post i p s).sec = s.sec := calm_lift (fun x => x.sec) (fun _ => rfl) (calm_post i p s)
@[simp] theorem post_lod (i : SeatId) (p : Posting) (s : State) : (post i p s).lod = s.lod := calm_lift (fun x => x.lod) (fun _ => rfl) (calm_post i p s)
@[simp] theorem post_hst (i : SeatId) (p : Posting) (s : State) : (post i p s).hst = s.hst := calm_lift (fun x => x.hst) (fun _ => rfl) (calm_post i p s)
@[simp] theorem post_feh (i : SeatId) (p : Posting) (s : State) : (post i p s).feh = s.feh := calm_lift (fun x => x.feh) (fun _ => rfl) (calm_post i p s)
@[simp] theorem post_dom (i : SeatId) (p : Posting) (s : State) : (post i p s).dom = s.dom := calm_lift (fun x => x.dom) (fun _ => rfl) (calm_post i p s)
@[simp] theorem post_tap (i : SeatId) (p : Posting) (s : State) : (post i p s).tap = s.tap := calm_lift (fun x => x.tap) (fun _ => rfl) (calm_post i p s)
@[simp] theorem post_boundary (i : SeatId) (p : Posting) (s : State) : (post i p s).boundary = s.boundary := calm_lift (fun x => x.boundary) (fun _ => rfl) (calm_post i p s)
@[simp] theorem post_pending (i : SeatId) (p : Posting) (s : State) : (post i p s).pending = s.pending := calm_lift (fun x => x.pending) (fun _ => rfl) (calm_post i p s)
@[simp] theorem post_mgt_fwReady (i : SeatId) (p : Posting) (s : State) : (post i p s).mgt.fwReady = s.mgt.fwReady := calm_lift (fun x => x.mgt.fwReady) (fun _ => rfl) (calm_post i p s)
@[simp] theorem post_mgt_restarting (i : SeatId) (p : Posting) (s : State) : (post i p s).mgt.restarting = s.mgt.restarting := calm_lift (fun x => x.mgt.restarting) (fun _ => rfl) (calm_post i p s)
@[simp] theorem post_mgt_build (i : SeatId) (p : Posting) (s : State) : (post i p s).mgt.build = s.mgt.build := calm_lift (fun x => x.mgt.build) (fun _ => rfl) (calm_post i p s)
@[simp] theorem post_mgt_channel (i : SeatId) (p : Posting) (s : State) : (post i p s).mgt.channel = s.mgt.channel := calm_lift (fun x => x.mgt.channel) (fun _ => rfl) (calm_post i p s)
@[simp] theorem post_mgt_normalRun (i : SeatId) (p : Posting) (s : State) : (post i p s).mgt.normalRun = s.mgt.normalRun := calm_lift (fun x => x.mgt.normalRun) (fun _ => rfl) (calm_post i p s)
@[simp] theorem post_mgt_waiting (i : SeatId) (p : Posting) (s : State) : (post i p s).mgt.waiting = s.mgt.waiting := calm_lift (fun x => x.mgt.waiting) (fun _ => rfl) (calm_post i p s)
@[simp] theorem post_mgt_owners (i : SeatId) (p : Posting) (s : State) : (post i p s).mgt.owners = s.mgt.owners := calm_lift (fun x => x.mgt.owners) (fun _ => rfl) (calm_post i p s)
@[simp] theorem post_mgt_running (i : SeatId) (p : Posting) (s : State) : (post i p s).mgt.running = s.mgt.running := calm_lift (fun x => x.mgt.running) (fun _ => rfl) (calm_post i p s)
@[simp] theorem post_mgt_earlyTx (i : SeatId) (p : Posting) (s : State) : (post i p s).mgt.earlyTx = s.mgt.earlyTx := calm_lift (fun x => x.mgt.earlyTx) (fun _ => rfl) (calm_post i p s)
@[simp] theorem post_mgt_earlyRx (i : SeatId) (p : Posting) (s : State) : (post i p s).mgt.earlyRx = s.mgt.earlyRx := calm_lift (fun x => x.mgt.earlyRx) (fun _ => rfl) (calm_post i p s)
@[simp] theorem post_mgt_commits (i : SeatId) (p : Posting) (s : State) : (post i p s).mgt.commits = s.mgt.commits := calm_lift (fun x => x.mgt.commits) (fun _ => rfl) (calm_post i p s)
@[simp] theorem post_mgt_nextCommit (i : SeatId) (p : Posting) (s : State) : (post i p s).mgt.nextCommit = s.mgt.nextCommit := calm_lift (fun x => x.mgt.nextCommit) (fun _ => rfl) (calm_post i p s)
@[simp] theorem post_mgt_perst (i : SeatId) (p : Posting) (s : State) : (post i p s).mgt.perst = s.mgt.perst := calm_lift (fun x => x.mgt.perst) (fun _ => rfl) (calm_post i p s)
@[simp] theorem post_mgt_resetting (i : SeatId) (p : Posting) (s : State) : (post i p s).mgt.resetting = s.mgt.resetting := calm_lift (fun x => x.mgt.resetting) (fun _ => rfl) (calm_post i p s)
@[simp] theorem post_mgt_seq (i : SeatId) (p : Posting) (s : State) : (post i p s).mgt.seq = s.mgt.seq := calm_lift (fun x => x.mgt.seq) (fun _ => rfl) (calm_post i p s)
@[simp] theorem post_mgt_coreStopped (i : SeatId) (p : Posting) (s : State) : (post i p s).mgt.coreStopped = s.mgt.coreStopped := calm_lift (fun x => x.mgt.coreStopped) (fun _ => rfl) (calm_post i p s)
@[simp] theorem post_mgt_stored (i : SeatId) (p : Posting) (s : State) : (post i p s).mgt.stored = s.mgt.stored := calm_lift (fun x => x.mgt.stored) (fun _ => rfl) (calm_post i p s)
@[simp] theorem post_mgt_storedNle (i : SeatId) (p : Posting) (s : State) : (post i p s).mgt.storedNle = s.mgt.storedNle := calm_lift (fun x => x.mgt.storedNle) (fun _ => rfl) (calm_post i p s)
@[simp] theorem post_mgt_storedDpd (i : SeatId) (p : Posting) (s : State) : (post i p s).mgt.storedDpd = s.mgt.storedDpd := calm_lift (fun x => x.mgt.storedDpd) (fun _ => rfl) (calm_post i p s)
@[simp] theorem post_mon_chains (i : SeatId) (p : Posting) (s : State) : (post i p s).mon.chains = s.mon.chains := calm_lift (fun x => x.mon.chains) (fun _ => rfl) (calm_post i p s)
@[simp] theorem post_mon_gauges (i : SeatId) (p : Posting) (s : State) : (post i p s).mon.gauges = s.mon.gauges := calm_lift (fun x => x.mon.gauges) (fun _ => rfl) (calm_post i p s)
@[simp] theorem post_mon_latched (i : SeatId) (p : Posting) (s : State) : (post i p s).mon.latched = s.mon.latched := calm_lift (fun x => x.mon.latched) (fun _ => rfl) (calm_post i p s)
@[simp] theorem post_mon_cleared (i : SeatId) (p : Posting) (s : State) : (post i p s).mon.cleared = s.mon.cleared := calm_lift (fun x => x.mon.cleared) (fun _ => rfl) (calm_post i p s)
@[simp] theorem post_mon_early (i : SeatId) (p : Posting) (s : State) : (post i p s).mon.early = s.mon.early := calm_lift (fun x => x.mon.early) (fun _ => rfl) (calm_post i p s)
@[simp] theorem post_mon_stepped (i : SeatId) (p : Posting) (s : State) : (post i p s).mon.stepped = s.mon.stepped := calm_lift (fun x => x.mon.stepped) (fun _ => rfl) (calm_post i p s)
@[simp] theorem post_mon_bin15 (i : SeatId) (p : Posting) (s : State) : (post i p s).mon.bin15 = s.mon.bin15 := calm_lift (fun x => x.mon.bin15) (fun _ => rfl) (calm_post i p s)
@[simp] theorem post_mon_bin24 (i : SeatId) (p : Posting) (s : State) : (post i p s).mon.bin24 = s.mon.bin24 := calm_lift (fun x => x.mon.bin24) (fun _ => rfl) (calm_post i p s)
@[simp] theorem post_mon_drain (i : SeatId) (p : Posting) (s : State) : (post i p s).mon.drain = s.mon.drain := calm_lift (fun x => x.mon.drain) (fun _ => rfl) (calm_post i p s)
@[simp] theorem post_mon_waiting (i : SeatId) (p : Posting) (s : State) : (post i p s).mon.waiting = s.mon.waiting := calm_lift (fun x => x.mon.waiting) (fun _ => rfl) (calm_post i p s)
@[simp] theorem post_mon_atBoundary (i : SeatId) (p : Posting) (s : State) : (post i p s).mon.atBoundary = s.mon.atBoundary := calm_lift (fun x => x.mon.atBoundary) (fun _ => rfl) (calm_post i p s)
@[simp] theorem post_mon_written (i : SeatId) (p : Posting) (s : State) : (post i p s).mon.written = s.mon.written := calm_lift (fun x => x.mon.written) (fun _ => rfl) (calm_post i p s)
@[simp] theorem post_mon_snaps (i : SeatId) (p : Posting) (s : State) : (post i p s).mon.snaps = s.mon.snaps := calm_lift (fun x => x.mon.snaps) (fun _ => rfl) (calm_post i p s)
@[simp] theorem post_mon_drainNs (i : SeatId) (p : Posting) (s : State) : (post i p s).mon.drainNs = s.mon.drainNs := calm_lift (fun x => x.mon.drainNs) (fun _ => rfl) (calm_post i p s)
@[simp] theorem post_mon_snap (i : SeatId) (p : Posting) (s : State) : (post i p s).mon.snap = s.mon.snap := calm_lift (fun x => x.mon.snap) (fun _ => rfl) (calm_post i p s)
@[simp] theorem post_mon_interval (i : SeatId) (p : Posting) (s : State) : (post i p s).mon.interval = s.mon.interval := calm_lift (fun x => x.mon.interval) (fun _ => rfl) (calm_post i p s)
@[simp] theorem post_mon_lastKind (i : SeatId) (p : Posting) (s : State) : (post i p s).mon.lastKind = s.mon.lastKind := calm_lift (fun x => x.mon.lastKind) (fun _ => rfl) (calm_post i p s)
@[simp] theorem post_mon_flagStep (i : SeatId) (p : Posting) (s : State) : (post i p s).mon.flagStep = s.mon.flagStep := calm_lift (fun x => x.mon.flagStep) (fun _ => rfl) (calm_post i p s)
@[simp] theorem post_mon_flagStore (i : SeatId) (p : Posting) (s : State) : (post i p s).mon.flagStore = s.mon.flagStore := calm_lift (fun x => x.mon.flagStore) (fun _ => rfl) (calm_post i p s)
@[simp] theorem post_mon_sampledAt (i : SeatId) (p : Posting) (s : State) : (post i p s).mon.sampledAt = s.mon.sampledAt := calm_lift (fun x => x.mon.sampledAt) (fun _ => rfl) (calm_post i p s)
@[simp] theorem post_mon_fecBits (i : SeatId) (p : Posting) (s : State) : (post i p s).mon.fecBits = s.mon.fecBits := calm_lift (fun x => x.mon.fecBits) (fun _ => rfl) (calm_post i p s)
@[simp] theorem post_mon_fecCorr (i : SeatId) (p : Posting) (s : State) : (post i p s).mon.fecCorr = s.mon.fecCorr := calm_lift (fun x => x.mon.fecCorr) (fun _ => rfl) (calm_post i p s)
@[simp] theorem post_mon_unpairedCount (i : SeatId) (p : Posting) (s : State) : (post i p s).mon.unpairedCount = s.mon.unpairedCount := calm_lift (fun x => x.mon.unpairedCount) (fun _ => rfl) (calm_post i p s)
@[simp] theorem post_cfg (i : SeatId) (p : Posting) (s : State) (row : ParamRow) (x y z : Nat) : (post i p s).cfg row x y z = s.cfg row x y z := calm_lift (fun t => t.cfg row x y z) (fun _ => rfl) (calm_post i p s)
@[simp] theorem post_owns (i : SeatId) (p : Posting) (s : State) (seat : SeatId) (path : Path) : (post i p s).owns seat path = s.owns seat path := calm_lift (fun t => t.owns seat path) (fun _ => rfl) (calm_post i p s)
@[simp] theorem post_deviceState (i : SeatId) (p : Posting) (s : State) : (post i p s).deviceState = s.deviceState := calm_lift (fun t => t.deviceState) (fun _ => rfl) (calm_post i p s)

@[simp] theorem respond_now (r : Request) (rep : Reply) (s : State) : (respond r rep s).now = s.now := calm_lift (fun x => x.now) (fun _ => rfl) (calm_respond r rep s)
@[simp] theorem respond_free (r : Request) (rep : Reply) (s : State) : (respond r rep s).free = s.free := calm_lift (fun x => x.free) (fun _ => rfl) (calm_respond r rep s)
@[simp] theorem respond_fuses (r : Request) (rep : Reply) (s : State) : (respond r rep s).fuses = s.fuses := calm_lift (fun x => x.fuses) (fun _ => rfl) (calm_respond r rep s)
@[simp] theorem respond_pwr (r : Request) (rep : Reply) (s : State) : (respond r rep s).pwr = s.pwr := calm_lift (fun x => x.pwr) (fun _ => rfl) (calm_respond r rep s)
@[simp] theorem respond_clk (r : Request) (rep : Reply) (s : State) : (respond r rep s).clk = s.clk := calm_lift (fun x => x.clk) (fun _ => rfl) (calm_respond r rep s)
@[simp] theorem respond_tim (r : Request) (rep : Reply) (s : State) : (respond r rep s).tim = s.tim := calm_lift (fun x => x.tim) (fun _ => rfl) (calm_respond r rep s)
@[simp] theorem respond_mem (r : Request) (rep : Reply) (s : State) : (respond r rep s).mem = s.mem := calm_lift (fun x => x.mem) (fun _ => rfl) (calm_respond r rep s)
@[simp] theorem respond_cnv (r : Request) (rep : Reply) (s : State) : (respond r rep s).cnv = s.cnv := calm_lift (fun x => x.cnv) (fun _ => rfl) (calm_respond r rep s)
@[simp] theorem respond_rxd (r : Request) (rep : Reply) (s : State) : (respond r rep s).rxd = s.rxd := calm_lift (fun x => x.rxd) (fun _ => rfl) (calm_respond r rep s)
@[simp] theorem respond_txd (r : Request) (rep : Reply) (s : State) : (respond r rep s).txd = s.txd := calm_lift (fun x => x.txd) (fun _ => rfl) (calm_respond r rep s)
@[simp] theorem respond_cod (r : Request) (rep : Reply) (s : State) : (respond r rep s).cod = s.cod := calm_lift (fun x => x.cod) (fun _ => rfl) (calm_respond r rep s)
@[simp] theorem respond_frm (r : Request) (rep : Reply) (s : State) : (respond r rep s).frm = s.frm := calm_lift (fun x => x.frm) (fun _ => rfl) (calm_respond r rep s)
@[simp] theorem respond_sec (r : Request) (rep : Reply) (s : State) : (respond r rep s).sec = s.sec := calm_lift (fun x => x.sec) (fun _ => rfl) (calm_respond r rep s)
@[simp] theorem respond_lod (r : Request) (rep : Reply) (s : State) : (respond r rep s).lod = s.lod := calm_lift (fun x => x.lod) (fun _ => rfl) (calm_respond r rep s)
@[simp] theorem respond_hst (r : Request) (rep : Reply) (s : State) : (respond r rep s).hst = s.hst := calm_lift (fun x => x.hst) (fun _ => rfl) (calm_respond r rep s)
@[simp] theorem respond_feh (r : Request) (rep : Reply) (s : State) : (respond r rep s).feh = s.feh := calm_lift (fun x => x.feh) (fun _ => rfl) (calm_respond r rep s)
@[simp] theorem respond_dom (r : Request) (rep : Reply) (s : State) : (respond r rep s).dom = s.dom := calm_lift (fun x => x.dom) (fun _ => rfl) (calm_respond r rep s)
@[simp] theorem respond_tap (r : Request) (rep : Reply) (s : State) : (respond r rep s).tap = s.tap := calm_lift (fun x => x.tap) (fun _ => rfl) (calm_respond r rep s)
@[simp] theorem respond_boundary (r : Request) (rep : Reply) (s : State) : (respond r rep s).boundary = s.boundary := calm_lift (fun x => x.boundary) (fun _ => rfl) (calm_respond r rep s)
@[simp] theorem respond_pending (r : Request) (rep : Reply) (s : State) : (respond r rep s).pending = s.pending := calm_lift (fun x => x.pending) (fun _ => rfl) (calm_respond r rep s)
@[simp] theorem respond_mgt_fwReady (r : Request) (rep : Reply) (s : State) : (respond r rep s).mgt.fwReady = s.mgt.fwReady := calm_lift (fun x => x.mgt.fwReady) (fun _ => rfl) (calm_respond r rep s)
@[simp] theorem respond_mgt_restarting (r : Request) (rep : Reply) (s : State) : (respond r rep s).mgt.restarting = s.mgt.restarting := calm_lift (fun x => x.mgt.restarting) (fun _ => rfl) (calm_respond r rep s)
@[simp] theorem respond_mgt_build (r : Request) (rep : Reply) (s : State) : (respond r rep s).mgt.build = s.mgt.build := calm_lift (fun x => x.mgt.build) (fun _ => rfl) (calm_respond r rep s)
@[simp] theorem respond_mgt_channel (r : Request) (rep : Reply) (s : State) : (respond r rep s).mgt.channel = s.mgt.channel := calm_lift (fun x => x.mgt.channel) (fun _ => rfl) (calm_respond r rep s)
@[simp] theorem respond_mgt_normalRun (r : Request) (rep : Reply) (s : State) : (respond r rep s).mgt.normalRun = s.mgt.normalRun := calm_lift (fun x => x.mgt.normalRun) (fun _ => rfl) (calm_respond r rep s)
@[simp] theorem respond_mgt_waiting (r : Request) (rep : Reply) (s : State) : (respond r rep s).mgt.waiting = s.mgt.waiting := calm_lift (fun x => x.mgt.waiting) (fun _ => rfl) (calm_respond r rep s)
@[simp] theorem respond_mgt_owners (r : Request) (rep : Reply) (s : State) : (respond r rep s).mgt.owners = s.mgt.owners := calm_lift (fun x => x.mgt.owners) (fun _ => rfl) (calm_respond r rep s)
@[simp] theorem respond_mgt_running (r : Request) (rep : Reply) (s : State) : (respond r rep s).mgt.running = s.mgt.running := calm_lift (fun x => x.mgt.running) (fun _ => rfl) (calm_respond r rep s)
@[simp] theorem respond_mgt_earlyTx (r : Request) (rep : Reply) (s : State) : (respond r rep s).mgt.earlyTx = s.mgt.earlyTx := calm_lift (fun x => x.mgt.earlyTx) (fun _ => rfl) (calm_respond r rep s)
@[simp] theorem respond_mgt_earlyRx (r : Request) (rep : Reply) (s : State) : (respond r rep s).mgt.earlyRx = s.mgt.earlyRx := calm_lift (fun x => x.mgt.earlyRx) (fun _ => rfl) (calm_respond r rep s)
@[simp] theorem respond_mgt_commits (r : Request) (rep : Reply) (s : State) : (respond r rep s).mgt.commits = s.mgt.commits := calm_lift (fun x => x.mgt.commits) (fun _ => rfl) (calm_respond r rep s)
@[simp] theorem respond_mgt_nextCommit (r : Request) (rep : Reply) (s : State) : (respond r rep s).mgt.nextCommit = s.mgt.nextCommit := calm_lift (fun x => x.mgt.nextCommit) (fun _ => rfl) (calm_respond r rep s)
@[simp] theorem respond_mgt_perst (r : Request) (rep : Reply) (s : State) : (respond r rep s).mgt.perst = s.mgt.perst := calm_lift (fun x => x.mgt.perst) (fun _ => rfl) (calm_respond r rep s)
@[simp] theorem respond_mgt_resetting (r : Request) (rep : Reply) (s : State) : (respond r rep s).mgt.resetting = s.mgt.resetting := calm_lift (fun x => x.mgt.resetting) (fun _ => rfl) (calm_respond r rep s)
@[simp] theorem respond_mgt_seq (r : Request) (rep : Reply) (s : State) : (respond r rep s).mgt.seq = s.mgt.seq := calm_lift (fun x => x.mgt.seq) (fun _ => rfl) (calm_respond r rep s)
@[simp] theorem respond_mgt_coreStopped (r : Request) (rep : Reply) (s : State) : (respond r rep s).mgt.coreStopped = s.mgt.coreStopped := calm_lift (fun x => x.mgt.coreStopped) (fun _ => rfl) (calm_respond r rep s)
@[simp] theorem respond_mgt_stored (r : Request) (rep : Reply) (s : State) : (respond r rep s).mgt.stored = s.mgt.stored := calm_lift (fun x => x.mgt.stored) (fun _ => rfl) (calm_respond r rep s)
@[simp] theorem respond_mgt_storedNle (r : Request) (rep : Reply) (s : State) : (respond r rep s).mgt.storedNle = s.mgt.storedNle := calm_lift (fun x => x.mgt.storedNle) (fun _ => rfl) (calm_respond r rep s)
@[simp] theorem respond_mgt_storedDpd (r : Request) (rep : Reply) (s : State) : (respond r rep s).mgt.storedDpd = s.mgt.storedDpd := calm_lift (fun x => x.mgt.storedDpd) (fun _ => rfl) (calm_respond r rep s)
@[simp] theorem respond_mon_chains (r : Request) (rep : Reply) (s : State) : (respond r rep s).mon.chains = s.mon.chains := calm_lift (fun x => x.mon.chains) (fun _ => rfl) (calm_respond r rep s)
@[simp] theorem respond_mon_gauges (r : Request) (rep : Reply) (s : State) : (respond r rep s).mon.gauges = s.mon.gauges := calm_lift (fun x => x.mon.gauges) (fun _ => rfl) (calm_respond r rep s)
@[simp] theorem respond_mon_latched (r : Request) (rep : Reply) (s : State) : (respond r rep s).mon.latched = s.mon.latched := calm_lift (fun x => x.mon.latched) (fun _ => rfl) (calm_respond r rep s)
@[simp] theorem respond_mon_cleared (r : Request) (rep : Reply) (s : State) : (respond r rep s).mon.cleared = s.mon.cleared := calm_lift (fun x => x.mon.cleared) (fun _ => rfl) (calm_respond r rep s)
@[simp] theorem respond_mon_early (r : Request) (rep : Reply) (s : State) : (respond r rep s).mon.early = s.mon.early := calm_lift (fun x => x.mon.early) (fun _ => rfl) (calm_respond r rep s)
@[simp] theorem respond_mon_stepped (r : Request) (rep : Reply) (s : State) : (respond r rep s).mon.stepped = s.mon.stepped := calm_lift (fun x => x.mon.stepped) (fun _ => rfl) (calm_respond r rep s)
@[simp] theorem respond_mon_bin15 (r : Request) (rep : Reply) (s : State) : (respond r rep s).mon.bin15 = s.mon.bin15 := calm_lift (fun x => x.mon.bin15) (fun _ => rfl) (calm_respond r rep s)
@[simp] theorem respond_mon_bin24 (r : Request) (rep : Reply) (s : State) : (respond r rep s).mon.bin24 = s.mon.bin24 := calm_lift (fun x => x.mon.bin24) (fun _ => rfl) (calm_respond r rep s)
@[simp] theorem respond_mon_drain (r : Request) (rep : Reply) (s : State) : (respond r rep s).mon.drain = s.mon.drain := calm_lift (fun x => x.mon.drain) (fun _ => rfl) (calm_respond r rep s)
@[simp] theorem respond_mon_waiting (r : Request) (rep : Reply) (s : State) : (respond r rep s).mon.waiting = s.mon.waiting := calm_lift (fun x => x.mon.waiting) (fun _ => rfl) (calm_respond r rep s)
@[simp] theorem respond_mon_atBoundary (r : Request) (rep : Reply) (s : State) : (respond r rep s).mon.atBoundary = s.mon.atBoundary := calm_lift (fun x => x.mon.atBoundary) (fun _ => rfl) (calm_respond r rep s)
@[simp] theorem respond_mon_written (r : Request) (rep : Reply) (s : State) : (respond r rep s).mon.written = s.mon.written := calm_lift (fun x => x.mon.written) (fun _ => rfl) (calm_respond r rep s)
@[simp] theorem respond_mon_snaps (r : Request) (rep : Reply) (s : State) : (respond r rep s).mon.snaps = s.mon.snaps := calm_lift (fun x => x.mon.snaps) (fun _ => rfl) (calm_respond r rep s)
@[simp] theorem respond_mon_drainNs (r : Request) (rep : Reply) (s : State) : (respond r rep s).mon.drainNs = s.mon.drainNs := calm_lift (fun x => x.mon.drainNs) (fun _ => rfl) (calm_respond r rep s)
@[simp] theorem respond_mon_snap (r : Request) (rep : Reply) (s : State) : (respond r rep s).mon.snap = s.mon.snap := calm_lift (fun x => x.mon.snap) (fun _ => rfl) (calm_respond r rep s)
@[simp] theorem respond_mon_interval (r : Request) (rep : Reply) (s : State) : (respond r rep s).mon.interval = s.mon.interval := calm_lift (fun x => x.mon.interval) (fun _ => rfl) (calm_respond r rep s)
@[simp] theorem respond_mon_lastKind (r : Request) (rep : Reply) (s : State) : (respond r rep s).mon.lastKind = s.mon.lastKind := calm_lift (fun x => x.mon.lastKind) (fun _ => rfl) (calm_respond r rep s)
@[simp] theorem respond_mon_flagStep (r : Request) (rep : Reply) (s : State) : (respond r rep s).mon.flagStep = s.mon.flagStep := calm_lift (fun x => x.mon.flagStep) (fun _ => rfl) (calm_respond r rep s)
@[simp] theorem respond_mon_flagStore (r : Request) (rep : Reply) (s : State) : (respond r rep s).mon.flagStore = s.mon.flagStore := calm_lift (fun x => x.mon.flagStore) (fun _ => rfl) (calm_respond r rep s)
@[simp] theorem respond_mon_sampledAt (r : Request) (rep : Reply) (s : State) : (respond r rep s).mon.sampledAt = s.mon.sampledAt := calm_lift (fun x => x.mon.sampledAt) (fun _ => rfl) (calm_respond r rep s)
@[simp] theorem respond_mon_fecBits (r : Request) (rep : Reply) (s : State) : (respond r rep s).mon.fecBits = s.mon.fecBits := calm_lift (fun x => x.mon.fecBits) (fun _ => rfl) (calm_respond r rep s)
@[simp] theorem respond_mon_fecCorr (r : Request) (rep : Reply) (s : State) : (respond r rep s).mon.fecCorr = s.mon.fecCorr := calm_lift (fun x => x.mon.fecCorr) (fun _ => rfl) (calm_respond r rep s)
@[simp] theorem respond_mon_unpairedCount (r : Request) (rep : Reply) (s : State) : (respond r rep s).mon.unpairedCount = s.mon.unpairedCount := calm_lift (fun x => x.mon.unpairedCount) (fun _ => rfl) (calm_respond r rep s)
@[simp] theorem respond_cfg (r : Request) (rep : Reply) (s : State) (row : ParamRow) (x y z : Nat) : (respond r rep s).cfg row x y z = s.cfg row x y z := calm_lift (fun t => t.cfg row x y z) (fun _ => rfl) (calm_respond r rep s)
@[simp] theorem respond_owns (r : Request) (rep : Reply) (s : State) (seat : SeatId) (path : Path) : (respond r rep s).owns seat path = s.owns seat path := calm_lift (fun t => t.owns seat path) (fun _ => rfl) (calm_respond r rep s)
@[simp] theorem respond_deviceState (r : Request) (rep : Reply) (s : State) : (respond r rep s).deviceState = s.deviceState := calm_lift (fun t => t.deviceState) (fun _ => rfl) (calm_respond r rep s)

@[simp] theorem violation_now (i : SeatId) (k n : Nat) (s : State) : (violation i k n s).now = s.now := calm_lift (fun x => x.now) (fun _ => rfl) (calm_violation i k n s)
@[simp] theorem violation_free (i : SeatId) (k n : Nat) (s : State) : (violation i k n s).free = s.free := calm_lift (fun x => x.free) (fun _ => rfl) (calm_violation i k n s)
@[simp] theorem violation_fuses (i : SeatId) (k n : Nat) (s : State) : (violation i k n s).fuses = s.fuses := calm_lift (fun x => x.fuses) (fun _ => rfl) (calm_violation i k n s)
@[simp] theorem violation_pwr (i : SeatId) (k n : Nat) (s : State) : (violation i k n s).pwr = s.pwr := calm_lift (fun x => x.pwr) (fun _ => rfl) (calm_violation i k n s)
@[simp] theorem violation_clk (i : SeatId) (k n : Nat) (s : State) : (violation i k n s).clk = s.clk := calm_lift (fun x => x.clk) (fun _ => rfl) (calm_violation i k n s)
@[simp] theorem violation_tim (i : SeatId) (k n : Nat) (s : State) : (violation i k n s).tim = s.tim := calm_lift (fun x => x.tim) (fun _ => rfl) (calm_violation i k n s)
@[simp] theorem violation_mem (i : SeatId) (k n : Nat) (s : State) : (violation i k n s).mem = s.mem := calm_lift (fun x => x.mem) (fun _ => rfl) (calm_violation i k n s)
@[simp] theorem violation_cnv (i : SeatId) (k n : Nat) (s : State) : (violation i k n s).cnv = s.cnv := calm_lift (fun x => x.cnv) (fun _ => rfl) (calm_violation i k n s)
@[simp] theorem violation_rxd (i : SeatId) (k n : Nat) (s : State) : (violation i k n s).rxd = s.rxd := calm_lift (fun x => x.rxd) (fun _ => rfl) (calm_violation i k n s)
@[simp] theorem violation_txd (i : SeatId) (k n : Nat) (s : State) : (violation i k n s).txd = s.txd := calm_lift (fun x => x.txd) (fun _ => rfl) (calm_violation i k n s)
@[simp] theorem violation_cod (i : SeatId) (k n : Nat) (s : State) : (violation i k n s).cod = s.cod := calm_lift (fun x => x.cod) (fun _ => rfl) (calm_violation i k n s)
@[simp] theorem violation_frm (i : SeatId) (k n : Nat) (s : State) : (violation i k n s).frm = s.frm := calm_lift (fun x => x.frm) (fun _ => rfl) (calm_violation i k n s)
@[simp] theorem violation_sec (i : SeatId) (k n : Nat) (s : State) : (violation i k n s).sec = s.sec := calm_lift (fun x => x.sec) (fun _ => rfl) (calm_violation i k n s)
@[simp] theorem violation_lod (i : SeatId) (k n : Nat) (s : State) : (violation i k n s).lod = s.lod := calm_lift (fun x => x.lod) (fun _ => rfl) (calm_violation i k n s)
@[simp] theorem violation_hst (i : SeatId) (k n : Nat) (s : State) : (violation i k n s).hst = s.hst := calm_lift (fun x => x.hst) (fun _ => rfl) (calm_violation i k n s)
@[simp] theorem violation_feh (i : SeatId) (k n : Nat) (s : State) : (violation i k n s).feh = s.feh := calm_lift (fun x => x.feh) (fun _ => rfl) (calm_violation i k n s)
@[simp] theorem violation_dom (i : SeatId) (k n : Nat) (s : State) : (violation i k n s).dom = s.dom := calm_lift (fun x => x.dom) (fun _ => rfl) (calm_violation i k n s)
@[simp] theorem violation_tap (i : SeatId) (k n : Nat) (s : State) : (violation i k n s).tap = s.tap := calm_lift (fun x => x.tap) (fun _ => rfl) (calm_violation i k n s)
@[simp] theorem violation_boundary (i : SeatId) (k n : Nat) (s : State) : (violation i k n s).boundary = s.boundary := calm_lift (fun x => x.boundary) (fun _ => rfl) (calm_violation i k n s)
@[simp] theorem violation_pending (i : SeatId) (k n : Nat) (s : State) : (violation i k n s).pending = s.pending := calm_lift (fun x => x.pending) (fun _ => rfl) (calm_violation i k n s)
@[simp] theorem violation_mgt_fwReady (i : SeatId) (k n : Nat) (s : State) : (violation i k n s).mgt.fwReady = s.mgt.fwReady := calm_lift (fun x => x.mgt.fwReady) (fun _ => rfl) (calm_violation i k n s)
@[simp] theorem violation_mgt_restarting (i : SeatId) (k n : Nat) (s : State) : (violation i k n s).mgt.restarting = s.mgt.restarting := calm_lift (fun x => x.mgt.restarting) (fun _ => rfl) (calm_violation i k n s)
@[simp] theorem violation_mgt_build (i : SeatId) (k n : Nat) (s : State) : (violation i k n s).mgt.build = s.mgt.build := calm_lift (fun x => x.mgt.build) (fun _ => rfl) (calm_violation i k n s)
@[simp] theorem violation_mgt_channel (i : SeatId) (k n : Nat) (s : State) : (violation i k n s).mgt.channel = s.mgt.channel := calm_lift (fun x => x.mgt.channel) (fun _ => rfl) (calm_violation i k n s)
@[simp] theorem violation_mgt_normalRun (i : SeatId) (k n : Nat) (s : State) : (violation i k n s).mgt.normalRun = s.mgt.normalRun := calm_lift (fun x => x.mgt.normalRun) (fun _ => rfl) (calm_violation i k n s)
@[simp] theorem violation_mgt_waiting (i : SeatId) (k n : Nat) (s : State) : (violation i k n s).mgt.waiting = s.mgt.waiting := calm_lift (fun x => x.mgt.waiting) (fun _ => rfl) (calm_violation i k n s)
@[simp] theorem violation_mgt_owners (i : SeatId) (k n : Nat) (s : State) : (violation i k n s).mgt.owners = s.mgt.owners := calm_lift (fun x => x.mgt.owners) (fun _ => rfl) (calm_violation i k n s)
@[simp] theorem violation_mgt_running (i : SeatId) (k n : Nat) (s : State) : (violation i k n s).mgt.running = s.mgt.running := calm_lift (fun x => x.mgt.running) (fun _ => rfl) (calm_violation i k n s)
@[simp] theorem violation_mgt_earlyTx (i : SeatId) (k n : Nat) (s : State) : (violation i k n s).mgt.earlyTx = s.mgt.earlyTx := calm_lift (fun x => x.mgt.earlyTx) (fun _ => rfl) (calm_violation i k n s)
@[simp] theorem violation_mgt_earlyRx (i : SeatId) (k n : Nat) (s : State) : (violation i k n s).mgt.earlyRx = s.mgt.earlyRx := calm_lift (fun x => x.mgt.earlyRx) (fun _ => rfl) (calm_violation i k n s)
@[simp] theorem violation_mgt_commits (i : SeatId) (k n : Nat) (s : State) : (violation i k n s).mgt.commits = s.mgt.commits := calm_lift (fun x => x.mgt.commits) (fun _ => rfl) (calm_violation i k n s)
@[simp] theorem violation_mgt_nextCommit (i : SeatId) (k n : Nat) (s : State) : (violation i k n s).mgt.nextCommit = s.mgt.nextCommit := calm_lift (fun x => x.mgt.nextCommit) (fun _ => rfl) (calm_violation i k n s)
@[simp] theorem violation_mgt_perst (i : SeatId) (k n : Nat) (s : State) : (violation i k n s).mgt.perst = s.mgt.perst := calm_lift (fun x => x.mgt.perst) (fun _ => rfl) (calm_violation i k n s)
@[simp] theorem violation_mgt_resetting (i : SeatId) (k n : Nat) (s : State) : (violation i k n s).mgt.resetting = s.mgt.resetting := calm_lift (fun x => x.mgt.resetting) (fun _ => rfl) (calm_violation i k n s)
@[simp] theorem violation_mgt_seq (i : SeatId) (k n : Nat) (s : State) : (violation i k n s).mgt.seq = s.mgt.seq := calm_lift (fun x => x.mgt.seq) (fun _ => rfl) (calm_violation i k n s)
@[simp] theorem violation_mgt_coreStopped (i : SeatId) (k n : Nat) (s : State) : (violation i k n s).mgt.coreStopped = s.mgt.coreStopped := calm_lift (fun x => x.mgt.coreStopped) (fun _ => rfl) (calm_violation i k n s)
@[simp] theorem violation_mgt_stored (i : SeatId) (k n : Nat) (s : State) : (violation i k n s).mgt.stored = s.mgt.stored := calm_lift (fun x => x.mgt.stored) (fun _ => rfl) (calm_violation i k n s)
@[simp] theorem violation_mgt_storedNle (i : SeatId) (k n : Nat) (s : State) : (violation i k n s).mgt.storedNle = s.mgt.storedNle := calm_lift (fun x => x.mgt.storedNle) (fun _ => rfl) (calm_violation i k n s)
@[simp] theorem violation_mgt_storedDpd (i : SeatId) (k n : Nat) (s : State) : (violation i k n s).mgt.storedDpd = s.mgt.storedDpd := calm_lift (fun x => x.mgt.storedDpd) (fun _ => rfl) (calm_violation i k n s)
@[simp] theorem violation_mon_chains (i : SeatId) (k n : Nat) (s : State) : (violation i k n s).mon.chains = s.mon.chains := calm_lift (fun x => x.mon.chains) (fun _ => rfl) (calm_violation i k n s)
@[simp] theorem violation_mon_gauges (i : SeatId) (k n : Nat) (s : State) : (violation i k n s).mon.gauges = s.mon.gauges := calm_lift (fun x => x.mon.gauges) (fun _ => rfl) (calm_violation i k n s)
@[simp] theorem violation_mon_latched (i : SeatId) (k n : Nat) (s : State) : (violation i k n s).mon.latched = s.mon.latched := calm_lift (fun x => x.mon.latched) (fun _ => rfl) (calm_violation i k n s)
@[simp] theorem violation_mon_cleared (i : SeatId) (k n : Nat) (s : State) : (violation i k n s).mon.cleared = s.mon.cleared := calm_lift (fun x => x.mon.cleared) (fun _ => rfl) (calm_violation i k n s)
@[simp] theorem violation_mon_early (i : SeatId) (k n : Nat) (s : State) : (violation i k n s).mon.early = s.mon.early := calm_lift (fun x => x.mon.early) (fun _ => rfl) (calm_violation i k n s)
@[simp] theorem violation_mon_stepped (i : SeatId) (k n : Nat) (s : State) : (violation i k n s).mon.stepped = s.mon.stepped := calm_lift (fun x => x.mon.stepped) (fun _ => rfl) (calm_violation i k n s)
@[simp] theorem violation_mon_bin15 (i : SeatId) (k n : Nat) (s : State) : (violation i k n s).mon.bin15 = s.mon.bin15 := calm_lift (fun x => x.mon.bin15) (fun _ => rfl) (calm_violation i k n s)
@[simp] theorem violation_mon_bin24 (i : SeatId) (k n : Nat) (s : State) : (violation i k n s).mon.bin24 = s.mon.bin24 := calm_lift (fun x => x.mon.bin24) (fun _ => rfl) (calm_violation i k n s)
@[simp] theorem violation_mon_drain (i : SeatId) (k n : Nat) (s : State) : (violation i k n s).mon.drain = s.mon.drain := calm_lift (fun x => x.mon.drain) (fun _ => rfl) (calm_violation i k n s)
@[simp] theorem violation_mon_waiting (i : SeatId) (k n : Nat) (s : State) : (violation i k n s).mon.waiting = s.mon.waiting := calm_lift (fun x => x.mon.waiting) (fun _ => rfl) (calm_violation i k n s)
@[simp] theorem violation_mon_atBoundary (i : SeatId) (k n : Nat) (s : State) : (violation i k n s).mon.atBoundary = s.mon.atBoundary := calm_lift (fun x => x.mon.atBoundary) (fun _ => rfl) (calm_violation i k n s)
@[simp] theorem violation_mon_written (i : SeatId) (k n : Nat) (s : State) : (violation i k n s).mon.written = s.mon.written := calm_lift (fun x => x.mon.written) (fun _ => rfl) (calm_violation i k n s)
@[simp] theorem violation_mon_snaps (i : SeatId) (k n : Nat) (s : State) : (violation i k n s).mon.snaps = s.mon.snaps := calm_lift (fun x => x.mon.snaps) (fun _ => rfl) (calm_violation i k n s)
@[simp] theorem violation_mon_drainNs (i : SeatId) (k n : Nat) (s : State) : (violation i k n s).mon.drainNs = s.mon.drainNs := calm_lift (fun x => x.mon.drainNs) (fun _ => rfl) (calm_violation i k n s)
@[simp] theorem violation_mon_snap (i : SeatId) (k n : Nat) (s : State) : (violation i k n s).mon.snap = s.mon.snap := calm_lift (fun x => x.mon.snap) (fun _ => rfl) (calm_violation i k n s)
@[simp] theorem violation_mon_interval (i : SeatId) (k n : Nat) (s : State) : (violation i k n s).mon.interval = s.mon.interval := calm_lift (fun x => x.mon.interval) (fun _ => rfl) (calm_violation i k n s)
@[simp] theorem violation_mon_lastKind (i : SeatId) (k n : Nat) (s : State) : (violation i k n s).mon.lastKind = s.mon.lastKind := calm_lift (fun x => x.mon.lastKind) (fun _ => rfl) (calm_violation i k n s)
@[simp] theorem violation_mon_flagStep (i : SeatId) (k n : Nat) (s : State) : (violation i k n s).mon.flagStep = s.mon.flagStep := calm_lift (fun x => x.mon.flagStep) (fun _ => rfl) (calm_violation i k n s)
@[simp] theorem violation_mon_flagStore (i : SeatId) (k n : Nat) (s : State) : (violation i k n s).mon.flagStore = s.mon.flagStore := calm_lift (fun x => x.mon.flagStore) (fun _ => rfl) (calm_violation i k n s)
@[simp] theorem violation_mon_sampledAt (i : SeatId) (k n : Nat) (s : State) : (violation i k n s).mon.sampledAt = s.mon.sampledAt := calm_lift (fun x => x.mon.sampledAt) (fun _ => rfl) (calm_violation i k n s)
@[simp] theorem violation_mon_fecBits (i : SeatId) (k n : Nat) (s : State) : (violation i k n s).mon.fecBits = s.mon.fecBits := calm_lift (fun x => x.mon.fecBits) (fun _ => rfl) (calm_violation i k n s)
@[simp] theorem violation_mon_fecCorr (i : SeatId) (k n : Nat) (s : State) : (violation i k n s).mon.fecCorr = s.mon.fecCorr := calm_lift (fun x => x.mon.fecCorr) (fun _ => rfl) (calm_violation i k n s)
@[simp] theorem violation_mon_unpairedCount (i : SeatId) (k n : Nat) (s : State) : (violation i k n s).mon.unpairedCount = s.mon.unpairedCount := calm_lift (fun x => x.mon.unpairedCount) (fun _ => rfl) (calm_violation i k n s)
@[simp] theorem violation_cfg (i : SeatId) (k n : Nat) (s : State) (row : ParamRow) (x y z : Nat) : (violation i k n s).cfg row x y z = s.cfg row x y z := calm_lift (fun t => t.cfg row x y z) (fun _ => rfl) (calm_violation i k n s)
@[simp] theorem violation_owns (i : SeatId) (k n : Nat) (s : State) (seat : SeatId) (path : Path) : (violation i k n s).owns seat path = s.owns seat path := calm_lift (fun t => t.owns seat path) (fun _ => rfl) (calm_violation i k n s)
@[simp] theorem violation_deviceState (i : SeatId) (k n : Nat) (s : State) : (violation i k n s).deviceState = s.deviceState := calm_lift (fun t => t.deviceState) (fun _ => rfl) (calm_violation i k n s)

@[simp] theorem refuseWrite_now (i : SeatId) (s : State) : (refuseWrite i s).now = s.now := calm_lift (fun x => x.now) (fun _ => rfl) (calm_refuseWrite i s)
@[simp] theorem refuseWrite_free (i : SeatId) (s : State) : (refuseWrite i s).free = s.free := calm_lift (fun x => x.free) (fun _ => rfl) (calm_refuseWrite i s)
@[simp] theorem refuseWrite_fuses (i : SeatId) (s : State) : (refuseWrite i s).fuses = s.fuses := calm_lift (fun x => x.fuses) (fun _ => rfl) (calm_refuseWrite i s)
@[simp] theorem refuseWrite_pwr (i : SeatId) (s : State) : (refuseWrite i s).pwr = s.pwr := calm_lift (fun x => x.pwr) (fun _ => rfl) (calm_refuseWrite i s)
@[simp] theorem refuseWrite_clk (i : SeatId) (s : State) : (refuseWrite i s).clk = s.clk := calm_lift (fun x => x.clk) (fun _ => rfl) (calm_refuseWrite i s)
@[simp] theorem refuseWrite_tim (i : SeatId) (s : State) : (refuseWrite i s).tim = s.tim := calm_lift (fun x => x.tim) (fun _ => rfl) (calm_refuseWrite i s)
@[simp] theorem refuseWrite_mem (i : SeatId) (s : State) : (refuseWrite i s).mem = s.mem := calm_lift (fun x => x.mem) (fun _ => rfl) (calm_refuseWrite i s)
@[simp] theorem refuseWrite_cnv (i : SeatId) (s : State) : (refuseWrite i s).cnv = s.cnv := calm_lift (fun x => x.cnv) (fun _ => rfl) (calm_refuseWrite i s)
@[simp] theorem refuseWrite_rxd (i : SeatId) (s : State) : (refuseWrite i s).rxd = s.rxd := calm_lift (fun x => x.rxd) (fun _ => rfl) (calm_refuseWrite i s)
@[simp] theorem refuseWrite_txd (i : SeatId) (s : State) : (refuseWrite i s).txd = s.txd := calm_lift (fun x => x.txd) (fun _ => rfl) (calm_refuseWrite i s)
@[simp] theorem refuseWrite_cod (i : SeatId) (s : State) : (refuseWrite i s).cod = s.cod := calm_lift (fun x => x.cod) (fun _ => rfl) (calm_refuseWrite i s)
@[simp] theorem refuseWrite_frm (i : SeatId) (s : State) : (refuseWrite i s).frm = s.frm := calm_lift (fun x => x.frm) (fun _ => rfl) (calm_refuseWrite i s)
@[simp] theorem refuseWrite_sec (i : SeatId) (s : State) : (refuseWrite i s).sec = s.sec := calm_lift (fun x => x.sec) (fun _ => rfl) (calm_refuseWrite i s)
@[simp] theorem refuseWrite_lod (i : SeatId) (s : State) : (refuseWrite i s).lod = s.lod := calm_lift (fun x => x.lod) (fun _ => rfl) (calm_refuseWrite i s)
@[simp] theorem refuseWrite_hst (i : SeatId) (s : State) : (refuseWrite i s).hst = s.hst := calm_lift (fun x => x.hst) (fun _ => rfl) (calm_refuseWrite i s)
@[simp] theorem refuseWrite_feh (i : SeatId) (s : State) : (refuseWrite i s).feh = s.feh := calm_lift (fun x => x.feh) (fun _ => rfl) (calm_refuseWrite i s)
@[simp] theorem refuseWrite_dom (i : SeatId) (s : State) : (refuseWrite i s).dom = s.dom := calm_lift (fun x => x.dom) (fun _ => rfl) (calm_refuseWrite i s)
@[simp] theorem refuseWrite_tap (i : SeatId) (s : State) : (refuseWrite i s).tap = s.tap := calm_lift (fun x => x.tap) (fun _ => rfl) (calm_refuseWrite i s)
@[simp] theorem refuseWrite_boundary (i : SeatId) (s : State) : (refuseWrite i s).boundary = s.boundary := calm_lift (fun x => x.boundary) (fun _ => rfl) (calm_refuseWrite i s)
@[simp] theorem refuseWrite_pending (i : SeatId) (s : State) : (refuseWrite i s).pending = s.pending := calm_lift (fun x => x.pending) (fun _ => rfl) (calm_refuseWrite i s)
@[simp] theorem refuseWrite_mgt_fwReady (i : SeatId) (s : State) : (refuseWrite i s).mgt.fwReady = s.mgt.fwReady := calm_lift (fun x => x.mgt.fwReady) (fun _ => rfl) (calm_refuseWrite i s)
@[simp] theorem refuseWrite_mgt_restarting (i : SeatId) (s : State) : (refuseWrite i s).mgt.restarting = s.mgt.restarting := calm_lift (fun x => x.mgt.restarting) (fun _ => rfl) (calm_refuseWrite i s)
@[simp] theorem refuseWrite_mgt_build (i : SeatId) (s : State) : (refuseWrite i s).mgt.build = s.mgt.build := calm_lift (fun x => x.mgt.build) (fun _ => rfl) (calm_refuseWrite i s)
@[simp] theorem refuseWrite_mgt_channel (i : SeatId) (s : State) : (refuseWrite i s).mgt.channel = s.mgt.channel := calm_lift (fun x => x.mgt.channel) (fun _ => rfl) (calm_refuseWrite i s)
@[simp] theorem refuseWrite_mgt_normalRun (i : SeatId) (s : State) : (refuseWrite i s).mgt.normalRun = s.mgt.normalRun := calm_lift (fun x => x.mgt.normalRun) (fun _ => rfl) (calm_refuseWrite i s)
@[simp] theorem refuseWrite_mgt_waiting (i : SeatId) (s : State) : (refuseWrite i s).mgt.waiting = s.mgt.waiting := calm_lift (fun x => x.mgt.waiting) (fun _ => rfl) (calm_refuseWrite i s)
@[simp] theorem refuseWrite_mgt_owners (i : SeatId) (s : State) : (refuseWrite i s).mgt.owners = s.mgt.owners := calm_lift (fun x => x.mgt.owners) (fun _ => rfl) (calm_refuseWrite i s)
@[simp] theorem refuseWrite_mgt_running (i : SeatId) (s : State) : (refuseWrite i s).mgt.running = s.mgt.running := calm_lift (fun x => x.mgt.running) (fun _ => rfl) (calm_refuseWrite i s)
@[simp] theorem refuseWrite_mgt_earlyTx (i : SeatId) (s : State) : (refuseWrite i s).mgt.earlyTx = s.mgt.earlyTx := calm_lift (fun x => x.mgt.earlyTx) (fun _ => rfl) (calm_refuseWrite i s)
@[simp] theorem refuseWrite_mgt_earlyRx (i : SeatId) (s : State) : (refuseWrite i s).mgt.earlyRx = s.mgt.earlyRx := calm_lift (fun x => x.mgt.earlyRx) (fun _ => rfl) (calm_refuseWrite i s)
@[simp] theorem refuseWrite_mgt_commits (i : SeatId) (s : State) : (refuseWrite i s).mgt.commits = s.mgt.commits := calm_lift (fun x => x.mgt.commits) (fun _ => rfl) (calm_refuseWrite i s)
@[simp] theorem refuseWrite_mgt_nextCommit (i : SeatId) (s : State) : (refuseWrite i s).mgt.nextCommit = s.mgt.nextCommit := calm_lift (fun x => x.mgt.nextCommit) (fun _ => rfl) (calm_refuseWrite i s)
@[simp] theorem refuseWrite_mgt_perst (i : SeatId) (s : State) : (refuseWrite i s).mgt.perst = s.mgt.perst := calm_lift (fun x => x.mgt.perst) (fun _ => rfl) (calm_refuseWrite i s)
@[simp] theorem refuseWrite_mgt_resetting (i : SeatId) (s : State) : (refuseWrite i s).mgt.resetting = s.mgt.resetting := calm_lift (fun x => x.mgt.resetting) (fun _ => rfl) (calm_refuseWrite i s)
@[simp] theorem refuseWrite_mgt_seq (i : SeatId) (s : State) : (refuseWrite i s).mgt.seq = s.mgt.seq := calm_lift (fun x => x.mgt.seq) (fun _ => rfl) (calm_refuseWrite i s)
@[simp] theorem refuseWrite_mgt_coreStopped (i : SeatId) (s : State) : (refuseWrite i s).mgt.coreStopped = s.mgt.coreStopped := calm_lift (fun x => x.mgt.coreStopped) (fun _ => rfl) (calm_refuseWrite i s)
@[simp] theorem refuseWrite_mgt_stored (i : SeatId) (s : State) : (refuseWrite i s).mgt.stored = s.mgt.stored := calm_lift (fun x => x.mgt.stored) (fun _ => rfl) (calm_refuseWrite i s)
@[simp] theorem refuseWrite_mgt_storedNle (i : SeatId) (s : State) : (refuseWrite i s).mgt.storedNle = s.mgt.storedNle := calm_lift (fun x => x.mgt.storedNle) (fun _ => rfl) (calm_refuseWrite i s)
@[simp] theorem refuseWrite_mgt_storedDpd (i : SeatId) (s : State) : (refuseWrite i s).mgt.storedDpd = s.mgt.storedDpd := calm_lift (fun x => x.mgt.storedDpd) (fun _ => rfl) (calm_refuseWrite i s)
@[simp] theorem refuseWrite_mon_chains (i : SeatId) (s : State) : (refuseWrite i s).mon.chains = s.mon.chains := calm_lift (fun x => x.mon.chains) (fun _ => rfl) (calm_refuseWrite i s)
@[simp] theorem refuseWrite_mon_gauges (i : SeatId) (s : State) : (refuseWrite i s).mon.gauges = s.mon.gauges := calm_lift (fun x => x.mon.gauges) (fun _ => rfl) (calm_refuseWrite i s)
@[simp] theorem refuseWrite_mon_latched (i : SeatId) (s : State) : (refuseWrite i s).mon.latched = s.mon.latched := calm_lift (fun x => x.mon.latched) (fun _ => rfl) (calm_refuseWrite i s)
@[simp] theorem refuseWrite_mon_cleared (i : SeatId) (s : State) : (refuseWrite i s).mon.cleared = s.mon.cleared := calm_lift (fun x => x.mon.cleared) (fun _ => rfl) (calm_refuseWrite i s)
@[simp] theorem refuseWrite_mon_early (i : SeatId) (s : State) : (refuseWrite i s).mon.early = s.mon.early := calm_lift (fun x => x.mon.early) (fun _ => rfl) (calm_refuseWrite i s)
@[simp] theorem refuseWrite_mon_stepped (i : SeatId) (s : State) : (refuseWrite i s).mon.stepped = s.mon.stepped := calm_lift (fun x => x.mon.stepped) (fun _ => rfl) (calm_refuseWrite i s)
@[simp] theorem refuseWrite_mon_bin15 (i : SeatId) (s : State) : (refuseWrite i s).mon.bin15 = s.mon.bin15 := calm_lift (fun x => x.mon.bin15) (fun _ => rfl) (calm_refuseWrite i s)
@[simp] theorem refuseWrite_mon_bin24 (i : SeatId) (s : State) : (refuseWrite i s).mon.bin24 = s.mon.bin24 := calm_lift (fun x => x.mon.bin24) (fun _ => rfl) (calm_refuseWrite i s)
@[simp] theorem refuseWrite_mon_drain (i : SeatId) (s : State) : (refuseWrite i s).mon.drain = s.mon.drain := calm_lift (fun x => x.mon.drain) (fun _ => rfl) (calm_refuseWrite i s)
@[simp] theorem refuseWrite_mon_waiting (i : SeatId) (s : State) : (refuseWrite i s).mon.waiting = s.mon.waiting := calm_lift (fun x => x.mon.waiting) (fun _ => rfl) (calm_refuseWrite i s)
@[simp] theorem refuseWrite_mon_atBoundary (i : SeatId) (s : State) : (refuseWrite i s).mon.atBoundary = s.mon.atBoundary := calm_lift (fun x => x.mon.atBoundary) (fun _ => rfl) (calm_refuseWrite i s)
@[simp] theorem refuseWrite_mon_written (i : SeatId) (s : State) : (refuseWrite i s).mon.written = s.mon.written := calm_lift (fun x => x.mon.written) (fun _ => rfl) (calm_refuseWrite i s)
@[simp] theorem refuseWrite_mon_snaps (i : SeatId) (s : State) : (refuseWrite i s).mon.snaps = s.mon.snaps := calm_lift (fun x => x.mon.snaps) (fun _ => rfl) (calm_refuseWrite i s)
@[simp] theorem refuseWrite_mon_drainNs (i : SeatId) (s : State) : (refuseWrite i s).mon.drainNs = s.mon.drainNs := calm_lift (fun x => x.mon.drainNs) (fun _ => rfl) (calm_refuseWrite i s)
@[simp] theorem refuseWrite_mon_snap (i : SeatId) (s : State) : (refuseWrite i s).mon.snap = s.mon.snap := calm_lift (fun x => x.mon.snap) (fun _ => rfl) (calm_refuseWrite i s)
@[simp] theorem refuseWrite_mon_interval (i : SeatId) (s : State) : (refuseWrite i s).mon.interval = s.mon.interval := calm_lift (fun x => x.mon.interval) (fun _ => rfl) (calm_refuseWrite i s)
@[simp] theorem refuseWrite_mon_lastKind (i : SeatId) (s : State) : (refuseWrite i s).mon.lastKind = s.mon.lastKind := calm_lift (fun x => x.mon.lastKind) (fun _ => rfl) (calm_refuseWrite i s)
@[simp] theorem refuseWrite_mon_flagStep (i : SeatId) (s : State) : (refuseWrite i s).mon.flagStep = s.mon.flagStep := calm_lift (fun x => x.mon.flagStep) (fun _ => rfl) (calm_refuseWrite i s)
@[simp] theorem refuseWrite_mon_flagStore (i : SeatId) (s : State) : (refuseWrite i s).mon.flagStore = s.mon.flagStore := calm_lift (fun x => x.mon.flagStore) (fun _ => rfl) (calm_refuseWrite i s)
@[simp] theorem refuseWrite_mon_sampledAt (i : SeatId) (s : State) : (refuseWrite i s).mon.sampledAt = s.mon.sampledAt := calm_lift (fun x => x.mon.sampledAt) (fun _ => rfl) (calm_refuseWrite i s)
@[simp] theorem refuseWrite_mon_fecBits (i : SeatId) (s : State) : (refuseWrite i s).mon.fecBits = s.mon.fecBits := calm_lift (fun x => x.mon.fecBits) (fun _ => rfl) (calm_refuseWrite i s)
@[simp] theorem refuseWrite_mon_fecCorr (i : SeatId) (s : State) : (refuseWrite i s).mon.fecCorr = s.mon.fecCorr := calm_lift (fun x => x.mon.fecCorr) (fun _ => rfl) (calm_refuseWrite i s)
@[simp] theorem refuseWrite_mon_unpairedCount (i : SeatId) (s : State) : (refuseWrite i s).mon.unpairedCount = s.mon.unpairedCount := calm_lift (fun x => x.mon.unpairedCount) (fun _ => rfl) (calm_refuseWrite i s)
@[simp] theorem refuseWrite_cfg (i : SeatId) (s : State) (row : ParamRow) (x y z : Nat) : (refuseWrite i s).cfg row x y z = s.cfg row x y z := calm_lift (fun t => t.cfg row x y z) (fun _ => rfl) (calm_refuseWrite i s)
@[simp] theorem refuseWrite_owns (i : SeatId) (s : State) (seat : SeatId) (path : Path) : (refuseWrite i s).owns seat path = s.owns seat path := calm_lift (fun t => t.owns seat path) (fun _ => rfl) (calm_refuseWrite i s)
@[simp] theorem refuseWrite_deviceState (i : SeatId) (s : State) : (refuseWrite i s).deviceState = s.deviceState := calm_lift (fun t => t.deviceState) (fun _ => rfl) (calm_refuseWrite i s)

@[simp] theorem readReturns_now (i : SeatId) (v : Nat) (s : State) : (readReturns i v s).now = s.now := calm_lift (fun x => x.now) (fun _ => rfl) (calm_readReturns i v s)
@[simp] theorem readReturns_free (i : SeatId) (v : Nat) (s : State) : (readReturns i v s).free = s.free := calm_lift (fun x => x.free) (fun _ => rfl) (calm_readReturns i v s)
@[simp] theorem readReturns_fuses (i : SeatId) (v : Nat) (s : State) : (readReturns i v s).fuses = s.fuses := calm_lift (fun x => x.fuses) (fun _ => rfl) (calm_readReturns i v s)
@[simp] theorem readReturns_pwr (i : SeatId) (v : Nat) (s : State) : (readReturns i v s).pwr = s.pwr := calm_lift (fun x => x.pwr) (fun _ => rfl) (calm_readReturns i v s)
@[simp] theorem readReturns_clk (i : SeatId) (v : Nat) (s : State) : (readReturns i v s).clk = s.clk := calm_lift (fun x => x.clk) (fun _ => rfl) (calm_readReturns i v s)
@[simp] theorem readReturns_tim (i : SeatId) (v : Nat) (s : State) : (readReturns i v s).tim = s.tim := calm_lift (fun x => x.tim) (fun _ => rfl) (calm_readReturns i v s)
@[simp] theorem readReturns_mem (i : SeatId) (v : Nat) (s : State) : (readReturns i v s).mem = s.mem := calm_lift (fun x => x.mem) (fun _ => rfl) (calm_readReturns i v s)
@[simp] theorem readReturns_cnv (i : SeatId) (v : Nat) (s : State) : (readReturns i v s).cnv = s.cnv := calm_lift (fun x => x.cnv) (fun _ => rfl) (calm_readReturns i v s)
@[simp] theorem readReturns_rxd (i : SeatId) (v : Nat) (s : State) : (readReturns i v s).rxd = s.rxd := calm_lift (fun x => x.rxd) (fun _ => rfl) (calm_readReturns i v s)
@[simp] theorem readReturns_txd (i : SeatId) (v : Nat) (s : State) : (readReturns i v s).txd = s.txd := calm_lift (fun x => x.txd) (fun _ => rfl) (calm_readReturns i v s)
@[simp] theorem readReturns_cod (i : SeatId) (v : Nat) (s : State) : (readReturns i v s).cod = s.cod := calm_lift (fun x => x.cod) (fun _ => rfl) (calm_readReturns i v s)
@[simp] theorem readReturns_frm (i : SeatId) (v : Nat) (s : State) : (readReturns i v s).frm = s.frm := calm_lift (fun x => x.frm) (fun _ => rfl) (calm_readReturns i v s)
@[simp] theorem readReturns_sec (i : SeatId) (v : Nat) (s : State) : (readReturns i v s).sec = s.sec := calm_lift (fun x => x.sec) (fun _ => rfl) (calm_readReturns i v s)
@[simp] theorem readReturns_lod (i : SeatId) (v : Nat) (s : State) : (readReturns i v s).lod = s.lod := calm_lift (fun x => x.lod) (fun _ => rfl) (calm_readReturns i v s)
@[simp] theorem readReturns_hst (i : SeatId) (v : Nat) (s : State) : (readReturns i v s).hst = s.hst := calm_lift (fun x => x.hst) (fun _ => rfl) (calm_readReturns i v s)
@[simp] theorem readReturns_feh (i : SeatId) (v : Nat) (s : State) : (readReturns i v s).feh = s.feh := calm_lift (fun x => x.feh) (fun _ => rfl) (calm_readReturns i v s)
@[simp] theorem readReturns_dom (i : SeatId) (v : Nat) (s : State) : (readReturns i v s).dom = s.dom := calm_lift (fun x => x.dom) (fun _ => rfl) (calm_readReturns i v s)
@[simp] theorem readReturns_tap (i : SeatId) (v : Nat) (s : State) : (readReturns i v s).tap = s.tap := calm_lift (fun x => x.tap) (fun _ => rfl) (calm_readReturns i v s)
@[simp] theorem readReturns_boundary (i : SeatId) (v : Nat) (s : State) : (readReturns i v s).boundary = s.boundary := calm_lift (fun x => x.boundary) (fun _ => rfl) (calm_readReturns i v s)
@[simp] theorem readReturns_pending (i : SeatId) (v : Nat) (s : State) : (readReturns i v s).pending = s.pending := calm_lift (fun x => x.pending) (fun _ => rfl) (calm_readReturns i v s)
@[simp] theorem readReturns_mgt_fwReady (i : SeatId) (v : Nat) (s : State) : (readReturns i v s).mgt.fwReady = s.mgt.fwReady := calm_lift (fun x => x.mgt.fwReady) (fun _ => rfl) (calm_readReturns i v s)
@[simp] theorem readReturns_mgt_restarting (i : SeatId) (v : Nat) (s : State) : (readReturns i v s).mgt.restarting = s.mgt.restarting := calm_lift (fun x => x.mgt.restarting) (fun _ => rfl) (calm_readReturns i v s)
@[simp] theorem readReturns_mgt_build (i : SeatId) (v : Nat) (s : State) : (readReturns i v s).mgt.build = s.mgt.build := calm_lift (fun x => x.mgt.build) (fun _ => rfl) (calm_readReturns i v s)
@[simp] theorem readReturns_mgt_channel (i : SeatId) (v : Nat) (s : State) : (readReturns i v s).mgt.channel = s.mgt.channel := calm_lift (fun x => x.mgt.channel) (fun _ => rfl) (calm_readReturns i v s)
@[simp] theorem readReturns_mgt_normalRun (i : SeatId) (v : Nat) (s : State) : (readReturns i v s).mgt.normalRun = s.mgt.normalRun := calm_lift (fun x => x.mgt.normalRun) (fun _ => rfl) (calm_readReturns i v s)
@[simp] theorem readReturns_mgt_waiting (i : SeatId) (v : Nat) (s : State) : (readReturns i v s).mgt.waiting = s.mgt.waiting := calm_lift (fun x => x.mgt.waiting) (fun _ => rfl) (calm_readReturns i v s)
@[simp] theorem readReturns_mgt_owners (i : SeatId) (v : Nat) (s : State) : (readReturns i v s).mgt.owners = s.mgt.owners := calm_lift (fun x => x.mgt.owners) (fun _ => rfl) (calm_readReturns i v s)
@[simp] theorem readReturns_mgt_running (i : SeatId) (v : Nat) (s : State) : (readReturns i v s).mgt.running = s.mgt.running := calm_lift (fun x => x.mgt.running) (fun _ => rfl) (calm_readReturns i v s)
@[simp] theorem readReturns_mgt_earlyTx (i : SeatId) (v : Nat) (s : State) : (readReturns i v s).mgt.earlyTx = s.mgt.earlyTx := calm_lift (fun x => x.mgt.earlyTx) (fun _ => rfl) (calm_readReturns i v s)
@[simp] theorem readReturns_mgt_earlyRx (i : SeatId) (v : Nat) (s : State) : (readReturns i v s).mgt.earlyRx = s.mgt.earlyRx := calm_lift (fun x => x.mgt.earlyRx) (fun _ => rfl) (calm_readReturns i v s)
@[simp] theorem readReturns_mgt_commits (i : SeatId) (v : Nat) (s : State) : (readReturns i v s).mgt.commits = s.mgt.commits := calm_lift (fun x => x.mgt.commits) (fun _ => rfl) (calm_readReturns i v s)
@[simp] theorem readReturns_mgt_nextCommit (i : SeatId) (v : Nat) (s : State) : (readReturns i v s).mgt.nextCommit = s.mgt.nextCommit := calm_lift (fun x => x.mgt.nextCommit) (fun _ => rfl) (calm_readReturns i v s)
@[simp] theorem readReturns_mgt_perst (i : SeatId) (v : Nat) (s : State) : (readReturns i v s).mgt.perst = s.mgt.perst := calm_lift (fun x => x.mgt.perst) (fun _ => rfl) (calm_readReturns i v s)
@[simp] theorem readReturns_mgt_resetting (i : SeatId) (v : Nat) (s : State) : (readReturns i v s).mgt.resetting = s.mgt.resetting := calm_lift (fun x => x.mgt.resetting) (fun _ => rfl) (calm_readReturns i v s)
@[simp] theorem readReturns_mgt_seq (i : SeatId) (v : Nat) (s : State) : (readReturns i v s).mgt.seq = s.mgt.seq := calm_lift (fun x => x.mgt.seq) (fun _ => rfl) (calm_readReturns i v s)
@[simp] theorem readReturns_mgt_coreStopped (i : SeatId) (v : Nat) (s : State) : (readReturns i v s).mgt.coreStopped = s.mgt.coreStopped := calm_lift (fun x => x.mgt.coreStopped) (fun _ => rfl) (calm_readReturns i v s)
@[simp] theorem readReturns_mgt_stored (i : SeatId) (v : Nat) (s : State) : (readReturns i v s).mgt.stored = s.mgt.stored := calm_lift (fun x => x.mgt.stored) (fun _ => rfl) (calm_readReturns i v s)
@[simp] theorem readReturns_mgt_storedNle (i : SeatId) (v : Nat) (s : State) : (readReturns i v s).mgt.storedNle = s.mgt.storedNle := calm_lift (fun x => x.mgt.storedNle) (fun _ => rfl) (calm_readReturns i v s)
@[simp] theorem readReturns_mgt_storedDpd (i : SeatId) (v : Nat) (s : State) : (readReturns i v s).mgt.storedDpd = s.mgt.storedDpd := calm_lift (fun x => x.mgt.storedDpd) (fun _ => rfl) (calm_readReturns i v s)
@[simp] theorem readReturns_mon_chains (i : SeatId) (v : Nat) (s : State) : (readReturns i v s).mon.chains = s.mon.chains := calm_lift (fun x => x.mon.chains) (fun _ => rfl) (calm_readReturns i v s)
@[simp] theorem readReturns_mon_gauges (i : SeatId) (v : Nat) (s : State) : (readReturns i v s).mon.gauges = s.mon.gauges := calm_lift (fun x => x.mon.gauges) (fun _ => rfl) (calm_readReturns i v s)
@[simp] theorem readReturns_mon_latched (i : SeatId) (v : Nat) (s : State) : (readReturns i v s).mon.latched = s.mon.latched := calm_lift (fun x => x.mon.latched) (fun _ => rfl) (calm_readReturns i v s)
@[simp] theorem readReturns_mon_cleared (i : SeatId) (v : Nat) (s : State) : (readReturns i v s).mon.cleared = s.mon.cleared := calm_lift (fun x => x.mon.cleared) (fun _ => rfl) (calm_readReturns i v s)
@[simp] theorem readReturns_mon_early (i : SeatId) (v : Nat) (s : State) : (readReturns i v s).mon.early = s.mon.early := calm_lift (fun x => x.mon.early) (fun _ => rfl) (calm_readReturns i v s)
@[simp] theorem readReturns_mon_stepped (i : SeatId) (v : Nat) (s : State) : (readReturns i v s).mon.stepped = s.mon.stepped := calm_lift (fun x => x.mon.stepped) (fun _ => rfl) (calm_readReturns i v s)
@[simp] theorem readReturns_mon_bin15 (i : SeatId) (v : Nat) (s : State) : (readReturns i v s).mon.bin15 = s.mon.bin15 := calm_lift (fun x => x.mon.bin15) (fun _ => rfl) (calm_readReturns i v s)
@[simp] theorem readReturns_mon_bin24 (i : SeatId) (v : Nat) (s : State) : (readReturns i v s).mon.bin24 = s.mon.bin24 := calm_lift (fun x => x.mon.bin24) (fun _ => rfl) (calm_readReturns i v s)
@[simp] theorem readReturns_mon_drain (i : SeatId) (v : Nat) (s : State) : (readReturns i v s).mon.drain = s.mon.drain := calm_lift (fun x => x.mon.drain) (fun _ => rfl) (calm_readReturns i v s)
@[simp] theorem readReturns_mon_waiting (i : SeatId) (v : Nat) (s : State) : (readReturns i v s).mon.waiting = s.mon.waiting := calm_lift (fun x => x.mon.waiting) (fun _ => rfl) (calm_readReturns i v s)
@[simp] theorem readReturns_mon_atBoundary (i : SeatId) (v : Nat) (s : State) : (readReturns i v s).mon.atBoundary = s.mon.atBoundary := calm_lift (fun x => x.mon.atBoundary) (fun _ => rfl) (calm_readReturns i v s)
@[simp] theorem readReturns_mon_written (i : SeatId) (v : Nat) (s : State) : (readReturns i v s).mon.written = s.mon.written := calm_lift (fun x => x.mon.written) (fun _ => rfl) (calm_readReturns i v s)
@[simp] theorem readReturns_mon_snaps (i : SeatId) (v : Nat) (s : State) : (readReturns i v s).mon.snaps = s.mon.snaps := calm_lift (fun x => x.mon.snaps) (fun _ => rfl) (calm_readReturns i v s)
@[simp] theorem readReturns_mon_drainNs (i : SeatId) (v : Nat) (s : State) : (readReturns i v s).mon.drainNs = s.mon.drainNs := calm_lift (fun x => x.mon.drainNs) (fun _ => rfl) (calm_readReturns i v s)
@[simp] theorem readReturns_mon_snap (i : SeatId) (v : Nat) (s : State) : (readReturns i v s).mon.snap = s.mon.snap := calm_lift (fun x => x.mon.snap) (fun _ => rfl) (calm_readReturns i v s)
@[simp] theorem readReturns_mon_interval (i : SeatId) (v : Nat) (s : State) : (readReturns i v s).mon.interval = s.mon.interval := calm_lift (fun x => x.mon.interval) (fun _ => rfl) (calm_readReturns i v s)
@[simp] theorem readReturns_mon_lastKind (i : SeatId) (v : Nat) (s : State) : (readReturns i v s).mon.lastKind = s.mon.lastKind := calm_lift (fun x => x.mon.lastKind) (fun _ => rfl) (calm_readReturns i v s)
@[simp] theorem readReturns_mon_flagStep (i : SeatId) (v : Nat) (s : State) : (readReturns i v s).mon.flagStep = s.mon.flagStep := calm_lift (fun x => x.mon.flagStep) (fun _ => rfl) (calm_readReturns i v s)
@[simp] theorem readReturns_mon_flagStore (i : SeatId) (v : Nat) (s : State) : (readReturns i v s).mon.flagStore = s.mon.flagStore := calm_lift (fun x => x.mon.flagStore) (fun _ => rfl) (calm_readReturns i v s)
@[simp] theorem readReturns_mon_sampledAt (i : SeatId) (v : Nat) (s : State) : (readReturns i v s).mon.sampledAt = s.mon.sampledAt := calm_lift (fun x => x.mon.sampledAt) (fun _ => rfl) (calm_readReturns i v s)
@[simp] theorem readReturns_mon_fecBits (i : SeatId) (v : Nat) (s : State) : (readReturns i v s).mon.fecBits = s.mon.fecBits := calm_lift (fun x => x.mon.fecBits) (fun _ => rfl) (calm_readReturns i v s)
@[simp] theorem readReturns_mon_fecCorr (i : SeatId) (v : Nat) (s : State) : (readReturns i v s).mon.fecCorr = s.mon.fecCorr := calm_lift (fun x => x.mon.fecCorr) (fun _ => rfl) (calm_readReturns i v s)
@[simp] theorem readReturns_mon_unpairedCount (i : SeatId) (v : Nat) (s : State) : (readReturns i v s).mon.unpairedCount = s.mon.unpairedCount := calm_lift (fun x => x.mon.unpairedCount) (fun _ => rfl) (calm_readReturns i v s)
@[simp] theorem readReturns_cfg (i : SeatId) (v : Nat) (s : State) (row : ParamRow) (x y z : Nat) : (readReturns i v s).cfg row x y z = s.cfg row x y z := calm_lift (fun t => t.cfg row x y z) (fun _ => rfl) (calm_readReturns i v s)
@[simp] theorem readReturns_owns (i : SeatId) (v : Nat) (s : State) (seat : SeatId) (path : Path) : (readReturns i v s).owns seat path = s.owns seat path := calm_lift (fun t => t.owns seat path) (fun _ => rfl) (calm_readReturns i v s)
@[simp] theorem readReturns_deviceState (i : SeatId) (v : Nat) (s : State) : (readReturns i v s).deviceState = s.deviceState := calm_lift (fun t => t.deviceState) (fun _ => rfl) (calm_readReturns i v s)

end Sys2Proof.Machine
end

