-- ==== Sys2Proof/Laws/PerInstr.lean ====
section
/-!
SUPPORT. What is said of every command of the table as syntax, one lemma per constructor: the request that a well-formed command
carries fits the header and the rings that carry it (Table 2.9, R48, R56).
-/
namespace Sys2Proof.Laws.Requests

/-- The request that a command carries. -/
def carried : Instr → Option Request
  | .commitBoundary _ _ => none
  | .pmIntervalTick => none
  | .pmDrainDone _ _ => none
  | .functionLevelReset _ => none
  | .pciePerst => none
  | .registerWrite _ _ => none
  | .unmappedWrite _ _ _ => none
  | .attach _ _ => none
  | .seatReset _ => none
  | .detach _ => none
  | .heartbeat _ _ => none
  | .seatHbTimeoutWrite _ _ => none
  | .seatAbsent _ => none
  | .doorbell _ _ _ => none
  | .rspHeadWrite _ _ => none
  | .rspRingStalled _ => none
  | .nop req => some req
  | .claim req => some req
  | .release req => some req
  | .delegate req => some req
  | .ownerQuery req => some req
  | .reclaim req => some req
  | .slateWrite req => some req
  | .slateRead req => some req
  | .slateClear req => some req
  | .paramRead req => some req
  | .commitCheck req => some req
  | .commitApply req => some req
  | .mute req => some req
  | .eventAck req => some req
  | .unitReset req _ => some req
  | .sectionReset req _ => some req
  | .resetRelease _ => none
  | .controlRestart req => some req
  | .controlRestartDone => none
  | .fwWatchdog _ _ => none
  | .deviceReset req => some req
  | .domainTimeout _ => none
  | .rotationStep _ _ => none
  | .sliceCalDone _ _ _ _ _ => none
  | .sliceCalTimeout _ _ => none
  | .sliceSwap _ _ _ _ => none
  | .tempRead => none
  | .forcePass _ => none
  | .forcedStepStart => none
  | .forcedPassEnd => none
  | .initCalDone _ _ => none
  | .dacCalStep _ => none
  | .dacCalDone _ => none
  | .agcDecision _ => none
  | .adcClipCheck _ _ _ => none
  | .adcClipCountRead _ _ => none
  | .iqCorrectUpdate _ _ _ _ => none
  | .acquisitionStart => none
  | .cdScanDone _ => none
  | .cdSeedRefineDone _ => none
  | .seedWaitTimeout => none
  | .acqStepTimeout => none
  | .timingLock _ => none
  | .polBlindConverged => none
  | .pmxSingularityCheck _ => none
  | .superframeLock => none
  | .polRdConverged => none
  | .superframeHeader _ _ _ => none
  | .rxFormatChange => none
  | .codewordGroup _ _ _ _ _ => none
  | .cdTrack _ => none
  | .nleRampDone => none
  | .timingUnlock _ => none
  | .carrierUnlock => none
  | .losWindow _ => none
  | .losHoldExpire => none
  | .warmReacquire => none
  | .warmTimeout => none
  | .rxReacquire req => some req
  | .nleCoefLoad req => some req
  | .nleCoefRead req => some req
  | .txSuperframe => none
  | .rateAnswerRx => none
  | .rateProposeRx => none
  | .negotiateTimeout => none
  | .rateHoldExpire => none
  | .rateAnnounce => none
  | .rateChange => none
  | .rateAbort req => some req
  | .dpdCoefLoad req => some req
  | .dpdCoefRead req => some req
  | .dpdRampDone => none
  | .dpdClipCountRead _ => none
  | .outputClipCheck _ _ => none
  | .blockDecoded _ => none
  | .parityError _ => none
  | .fastBerWindow _ => none
  | .ifdFrame _ _ _ _ => none
  | .fecResync req => some req
  | .fecInject req => some req
  | .injectEnd _ => none
  | .rxOtucFrame _ => none
  | .lofDeclare => none
  | .lofClear => none
  | .restoreHoldExpire _ => none
  | .oduflexResizeStep _ => none
  | .resizeTimeout => none
  | .gccRxFrame _ _ => none
  | .gccTxPacket _ => none
  | .frmTtiRead req => some req
  | .frmClientQuery req => some req
  | .keyLoad _ _ => none
  | .keyLoadDone _ _ => none
  | .keyActivate req => some req
  | .keyChangeover _ => none
  | .keyZeroise req => some req
  | .secChannelQuery req => some req
  | .txSegment _ _ _ => none
  | .rxSegmentStart _ _ _ => none
  | .tagVerdict _ => none
  | .secSelftest _ _ => none
  | .lodSlot => none
  | .identityDue => none
  | .preambleDetect _ _ _ => none
  | .lodHeader _ => none
  | .lodFrame _ _ _ _ _ => none
  | .identityRx => none
  | .hostOpaqueRx => none
  | .lodTxPacket => none
  | .ldtGainUpdate _ => none
  | .partnerTimeout => none
  | .lodPartnerQuery req => some req
  | .lodIdentityNow req => some req
  | .chainOutput _ _ => none
  | .chainSettled _ => none
  | .detApply _ _ _ => none
  | .measureSample _ => none
  | .pmSnapshot req => some req
  | .pmLocate req => some req
  | .capArm req => some req
  | .capStop req => some req
  | .capTrigger req => some req
  | .captureDone _ _ => none
  | .loRead _ _ => none
  | .hiRead _ _ => none
  | .paired64Read _ _ => none
  | .pmcReadStatusRead _ => none
  | .laneSignalDetect _ => none
  | .cdrLock _ => none
  | .trainingDone _ _ _ => none
  | .polarityDetermined _ _ => none
  | .laneOrderTry => none
  | .portUp _ _ => none
  | .bringupTimeout _ => none
  | .deskewRetry _ _ => none
  | .freqOffset _ _ => none
  | .partnerAbsent _ => none
  | .laneDown _ _ => none
  | .auiFecCodeword _ _ _ _ _ => none
  | .tlmMarker _ _ _ => none
  | .tlmPeriod _ _ _ _ => none
  | .flexeOh _ _ _ _ _ _ => none
  | .hostCalRequest _ _ => none
  | .flexeCalAck _ => none
  | .flexeCalTimeout => none
  | .hstLaneRetrain req => some req
  | .hstLaneEye req _ _ _ _ _ _ _ => some req
  | .flexeCalQuery req => some req
  | .selectorRun => none
  | .slotMeasure _ _ _ _ => none
  | .soakDone _ => none
  | .wtrDone _ => none
  | .activityLoss _ => none
  | .activityReturn _ => none
  | .holdoffExpire _ => none
  | .xtalBWarmup _ => none
  | .historyEntry _ _ _ _ => none
  | .holdoverLimit => none
  | .ppsInEdge _ => none
  | .ppsOut => none
  | .ppsPulseEnd => none
  | .ptpMessageRx _ _ => none
  | .ptpMessageTx _ _ => none
  | .ptpSyncTimeout _ => none
  | .timSetTime req => some req
  | .timSetTimeApply => none
  | .timQuery req => some req
  | .timClearWtr req => some req
  | .sourceAmplitude _ _ => none
  | .sourceReady _ => none
  | .pllLock _ => none
  | .pllUnlock _ => none
  | .clockMonitorWindow _ _ => none
  | .clkSwitch req => some req
  | .clkSwitchDone _ => none
  | .oldClockStopped _ => none
  | .clkResume req => some req
  | .idleAck _ => none
  | .gateTimeout _ _ => none
  | .scrubRead _ _ => none
  | .memRetire req => some req
  | .retireDone => none
  | .memInject req => some req
  | .logClear _ _ => none
  | .spqPush _ _ _ _ => none
  | .spqPushLast _ _ _ => none
  | .spqPop _ _ _ => none
  | .spqDrop _ _ => none
  | .spqHwPush _ _ => none
  | .spqHwPop _ => none
  | .spqSpill _ _ => none
  | .seqApply _ _ => none
  | .seqTrigger _ _ => none
  | .urgentTrigger _ _ => none
  | .burstStop _ _ => none
  | .seqTimer _ => none
  | .flintHkTrigger => none
  | .compCrossing _ _ => none
  | .hkConversion _ _ _ _ => none
  | .refSettled _ => none
  | .vrefCheck _ => none
  | .dmaRdOffset _ _ _ => none
  | .abcDwell _ _ => none
  | .abcRelock req => some req
  | .itlLoopQuery req => some req
  | .itlTxPacket => none
  | .itlResponse _ => none
  | .itlRspTimeout => none
  | .ftfLoopPeriod => none
  | .helloSend => none
  | .helloRx _ _ => none
  | .rosterRx _ _ => none
  | .nakRx _ _ => none
  | .policyRx _ _ => none
  | .policyAckRx _ _ => none
  | .npStatusRx _ _ => none
  | .npSelectRx _ _ => none
  | .hostFrameRx _ _ => none
  | .domHostTx => none
  | .neighbourLost _ _ => none
  | .reachLost _ => none
  | .rosterTimeout _ => none
  | .tvlPortLink _ _ => none
  | .flintForce req => some req
  | .flintLockout req => some req
  | .domPolicySend req => some req
  | .domRosterAdopt req => some req
  | .domMemberQuery req => some req
  | .npForce req => some req
  | .flintFrameTx => none
  | .flintFrameRx _ _ => none
  | .flintHealthChange => none
  | .flintLinkLoss => none
  | .flintWtrExpire => none
  | .npStatusTx => none
  | .npSelectTx => none
  | .npWtrExpire => none
  | .npSelectTimeout => none
  | .vinRise _ => none
  | .vinLow => none
  | .vinLowClear => none
  | .brownOut => none
  | .porstAssert => none
  | .startupReference _ _ => none
  | .railsInRegulation => none
  | .memorySelftestFill _ _ _ => none
  | .seqBootGo _ _ => none
  | .firmwareVerified _ _ _ _ => none
  | .seatsReady => none
  | .startupFault _ => none
  | .phaseFailed _ => none
  | .railFault _ => none
  | .avsUpdate => none
  | .iinMeasure _ _ => none
  | .pwrTolerance req => some req
  | .pwrQuery req => some req
  | .deepenHoldExpire _ => none
  | .powerStateEntered _ => none
  | .powerStateExited _ _ => none
  | .thermalRead _ => none
  | .regIinPeakRead _ => none
  | .thmMaxSeenRead _ => none
  | .tapInstruction _ _ => none
  | .tapTestLogicReset => none
  | .coarseShiftSet _ => none
  | .foNearLimit _ => none
  | .dgdLimit _ => none
  | .rxBeaconClear => none
  | .codSelftest _ _ => none
  | .alignmentMarkerLoss _ => none
  | .pcsBlockError _ => none
  | .fwFetchUncorrectable _ _ => none
  | .dataPathReadError _ _ _ => none
  | .hkdRampDone _ => none
  | .pciePerstRelease => none
  | .ringEntryWrite _ _ _ _ => none

/-- The request of a well-formed command fits: field widths, payload and, in the Urgent class, one entry. -/
def Statement (i : Instr) : Prop :=
  i.wf = true → ∀ r, carried i = some r →
    r.tag < 2 ^ 16 ∧ r.seq < 2 ^ 32 ∧ r.target.fits = true ∧ r.payload.length ≤ 1004 ∧
      (r.cls = .urgent → Machine.entriesFor r.payload.length = 1)

theorem of_none {i : Instr} (h : carried i = none) : Statement i := by
  intro _ r e
  rw [h] at e
  cases e

theorem of_wf {i : Instr} {req : Request} {op : Nat} (h : carried i = some req) (w : i.wf = true → req.wf op = true) : Statement i := by
  intro hw r e
  rw [h] at e
  cases e
  have := w hw
  simp only [Request.wf, Bool.and_eq_true, Bool.or_eq_true, decide_eq_true_eq] at this
  obtain ⟨⟨⟨⟨⟨-, h1⟩, h2⟩, h3⟩, h4⟩, h5⟩ := this
  exact ⟨h1, h2, h3, h4, fun hu => h5.resolve_left fun hn => hn hu⟩

theorem commitBoundary (path : Path) (dir : Dir) : Statement (.commitBoundary path dir) := of_none rfl
theorem pmIntervalTick : Statement (.pmIntervalTick) := of_none rfl
theorem pmDrainDone (bad : List PmError) (ns : Nat) : Statement (.pmDrainDone bad ns) := of_none rfl
theorem functionLevelReset (pf : Fin 2) : Statement (.functionLevelReset pf) := of_none rfl
theorem pciePerst : Statement (.pciePerst) := of_none rfl
theorem registerWrite (seat : SeatId) (write : WindowWrite) : Statement (.registerWrite seat write) := of_none rfl
theorem unmappedWrite (seat : SeatId) (capture : Option Nat) (bytes : List Byte) : Statement (.unmappedWrite seat capture bytes) := of_none rfl
theorem attach (seat : SeatId) (value : Word) : Statement (.attach seat value) := of_none rfl
theorem seatReset (seat : SeatId) : Statement (.seatReset seat) := of_none rfl
theorem detach (seat : SeatId) : Statement (.detach seat) := of_none rfl
theorem heartbeat (seat : SeatId) (beat : Word) : Statement (.heartbeat seat beat) := of_none rfl
theorem seatHbTimeoutWrite (seat : SeatId) (value : Word) : Statement (.seatHbTimeoutWrite seat value) := of_none rfl
theorem seatAbsent (seat : SeatId) : Statement (.seatAbsent seat) := of_none rfl
theorem doorbell (seat : SeatId) (tail : BitVec 7) (upsets : List (Nat × Nat)) : Statement (.doorbell seat tail upsets) := of_none rfl
theorem rspHeadWrite (seat : SeatId) (head : BitVec 7) : Statement (.rspHeadWrite seat head) := of_none rfl
theorem rspRingStalled (seat : SeatId) : Statement (.rspRingStalled seat) := of_none rfl
theorem nop (req : Request) : Statement (.nop req) := of_wf rfl fun h => h
theorem claim (req : Request) : Statement (.claim req) := of_wf rfl fun h => h
theorem release (req : Request) : Statement (.release req) := of_wf rfl fun h => h
theorem delegate (req : Request) : Statement (.delegate req) := of_wf rfl fun h => h
theorem ownerQuery (req : Request) : Statement (.ownerQuery req) := of_wf rfl fun h => h
theorem reclaim (req : Request) : Statement (.reclaim req) := of_wf rfl fun h => h
theorem slateWrite (req : Request) : Statement (.slateWrite req) := of_wf rfl fun h => h
theorem slateRead (req : Request) : Statement (.slateRead req) := of_wf rfl fun h => h
theorem slateClear (req : Request) : Statement (.slateClear req) := of_wf rfl fun h => h
theorem paramRead (req : Request) : Statement (.paramRead req) := of_wf rfl fun h => h
theorem commitCheck (req : Request) : Statement (.commitCheck req) := of_wf rfl fun h => h
theorem commitApply (req : Request) : Statement (.commitApply req) := of_wf rfl fun h => h
theorem mute (req : Request) : Statement (.mute req) := of_wf rfl fun h => h
theorem eventAck (req : Request) : Statement (.eventAck req) := of_wf rfl fun h => h
theorem unitReset (req : Request) (checkOk : Bool) : Statement (.unitReset req checkOk) := of_wf rfl fun h => h
theorem sectionReset (req : Request) (checkOk : Bool) : Statement (.sectionReset req checkOk) := of_wf rfl fun h => h
theorem resetRelease (path : Path) : Statement (.resetRelease path) := of_none rfl
theorem controlRestart (req : Request) : Statement (.controlRestart req) := of_wf rfl fun h => h
theorem controlRestartDone : Statement (.controlRestartDone) := of_none rfl
theorem fwWatchdog (core : Fin 4) (expires : Bool) : Statement (.fwWatchdog core expires) := of_none rfl
theorem deviceReset (req : Request) : Statement (.deviceReset req) := of_wf rfl fun h => h
theorem domainTimeout (policy : Nat) : Statement (.domainTimeout policy) := of_none rfl
theorem rotationStep (ch : Fin 4) (grp : Fin 12) : Statement (.rotationStep ch grp) := of_none rfl
theorem sliceCalDone (ch : Fin 4) (grp : Fin 12) (result : CalResult) (meanDiff : Nat) (rmsDiff : Nat) : Statement (.sliceCalDone ch grp result meanDiff rmsDiff) := of_none rfl
theorem sliceCalTimeout (ch : Fin 4) (grp : Fin 12) : Statement (.sliceCalTimeout ch grp) := of_none rfl
theorem sliceSwap (ch : Fin 4) (grp : Fin 12) (meanDiff : Nat) (rmsDiff : Nat) : Statement (.sliceSwap ch grp meanDiff rmsDiff) := of_none rfl
theorem tempRead : Statement (.tempRead) := of_none rfl
theorem forcePass (seat : SeatId) : Statement (.forcePass seat) := of_none rfl
theorem forcedStepStart : Statement (.forcedStepStart) := of_none rfl
theorem forcedPassEnd : Statement (.forcedPassEnd) := of_none rfl
theorem initCalDone (adcs : List InitCalItem) (dacs : List InitCalItem) : Statement (.initCalDone adcs dacs) := of_none rfl
theorem dacCalStep (refOk : Bool) : Statement (.dacCalStep refOk) := of_none rfl
theorem dacCalDone (result : CalResult) : Statement (.dacCalDone result) := of_none rfl
theorem agcDecision (set : Fin 4) : Statement (.agcDecision set) := of_none rfl
theorem adcClipCheck (ch : Fin 4) (clipped : Nat) (total : Nat) : Statement (.adcClipCheck ch clipped total) := of_none rfl
theorem adcClipCountRead (seat : SeatId) (ch : Fin 4) : Statement (.adcClipCountRead seat ch) := of_none rfl
theorem iqCorrectUpdate (angleX : Int) (gainX : Int) (angleY : Int) (gainY : Int) : Statement (.iqCorrectUpdate angleX gainX angleY gainY) := of_none rfl
theorem acquisitionStart : Statement (.acquisitionStart) := of_none rfl
theorem cdScanDone (metrics : List Nat) : Statement (.cdScanDone metrics) := of_none rfl
theorem cdSeedRefineDone (metrics : List Nat) : Statement (.cdSeedRefineDone metrics) := of_none rfl
theorem seedWaitTimeout : Statement (.seedWaitTimeout) := of_none rfl
theorem acqStepTimeout : Statement (.acqStepTimeout) := of_none rfl
theorem timingLock (offset : Int) : Statement (.timingLock offset) := of_none rfl
theorem polBlindConverged : Statement (.polBlindConverged) := of_none rfl
theorem pmxSingularityCheck (xcorr : Nat) : Statement (.pmxSingularityCheck xcorr) := of_none rfl
theorem superframeLock : Statement (.superframeLock) := of_none rfl
theorem polRdConverged : Statement (.polRdConverged) := of_none rfl
theorem superframeHeader (found : Bool) (wordA : Option Nat) (wordB : Option Nat) : Statement (.superframeHeader found wordA wordB) := of_none rfl
theorem rxFormatChange : Statement (.rxFormatChange) := of_none rfl
theorem codewordGroup (group : CodewordGroup) (first : Nat) (last : Nat) (unsat : Nat) (checks : Nat) : Statement (.codewordGroup group first last unsat checks) := of_none rfl
theorem cdTrack (residual : Int) : Statement (.cdTrack residual) := of_none rfl
theorem nleRampDone : Statement (.nleRampDone) := of_none rfl
theorem timingUnlock (offset : Int) : Statement (.timingUnlock offset) := of_none rfl
theorem carrierUnlock : Statement (.carrierUnlock) := of_none rfl
theorem losWindow (power : Int) : Statement (.losWindow power) := of_none rfl
theorem losHoldExpire : Statement (.losHoldExpire) := of_none rfl
theorem warmReacquire : Statement (.warmReacquire) := of_none rfl
theorem warmTimeout : Statement (.warmTimeout) := of_none rfl
theorem rxReacquire (req : Request) : Statement (.rxReacquire req) := of_wf rfl fun h => h
theorem nleCoefLoad (req : Request) : Statement (.nleCoefLoad req) := of_wf rfl fun h => h
theorem nleCoefRead (req : Request) : Statement (.nleCoefRead req) := of_wf rfl fun h => h
theorem txSuperframe : Statement (.txSuperframe) := of_none rfl
theorem rateAnswerRx : Statement (.rateAnswerRx) := of_none rfl
theorem rateProposeRx : Statement (.rateProposeRx) := of_none rfl
theorem negotiateTimeout : Statement (.negotiateTimeout) := of_none rfl
theorem rateHoldExpire : Statement (.rateHoldExpire) := of_none rfl
theorem rateAnnounce : Statement (.rateAnnounce) := of_none rfl
theorem rateChange : Statement (.rateChange) := of_none rfl
theorem rateAbort (req : Request) : Statement (.rateAbort req) := of_wf rfl fun h => h
theorem dpdCoefLoad (req : Request) : Statement (.dpdCoefLoad req) := of_wf rfl fun h => h
theorem dpdCoefRead (req : Request) : Statement (.dpdCoefRead req) := of_wf rfl fun h => h
theorem dpdRampDone : Statement (.dpdRampDone) := of_none rfl
theorem dpdClipCountRead (seat : SeatId) : Statement (.dpdClipCountRead seat) := of_none rfl
theorem outputClipCheck (clipped : Nat) (total : Nat) : Statement (.outputClipCheck clipped total) := of_none rfl
theorem blockDecoded (block : BlockResult) : Statement (.blockDecoded block) := of_none rfl
theorem parityError (cluster : Fin 16) : Statement (.parityError cluster) := of_none rfl
theorem fastBerWindow (berPpb : Nat) : Statement (.fastBerWindow berPpb) := of_none rfl
theorem ifdFrame (aligned : Bool) (codedBits : Nat) (corrected : Nat) (uncorrected : Nat) : Statement (.ifdFrame aligned codedBits corrected uncorrected) := of_none rfl
theorem fecResync (req : Request) : Statement (.fecResync req) := of_wf rfl fun h => h
theorem fecInject (req : Request) : Statement (.fecInject req) := of_wf rfl fun h => h
theorem injectEnd (ife : Bool) : Statement (.injectEnd ife) := of_none rfl
theorem rxOtucFrame (frame : OtucFrame) : Statement (.rxOtucFrame frame) := of_none rfl
theorem lofDeclare : Statement (.lofDeclare) := of_none rfl
theorem lofClear : Statement (.lofClear) := of_none rfl
theorem restoreHoldExpire (client : Fin 64) : Statement (.restoreHoldExpire client) := of_none rfl
theorem oduflexResizeStep (step : ResizeStep) : Statement (.oduflexResizeStep step) := of_none rfl
theorem resizeTimeout : Statement (.resizeTimeout) := of_none rfl
theorem gccRxFrame (channel : Fin 3) (received : List Byte) : Statement (.gccRxFrame channel received) := of_none rfl
theorem gccTxPacket (channel : Fin 3) : Statement (.gccTxPacket channel) := of_none rfl
theorem frmTtiRead (req : Request) : Statement (.frmTtiRead req) := of_wf rfl fun h => h
theorem frmClientQuery (req : Request) : Statement (.frmClientQuery req) := of_wf rfl fun h => h
theorem keyLoad (seat : SeatId) (value : Word) : Statement (.keyLoad seat value) := of_none rfl
theorem keyLoadDone (slot : Fin 128) (storeOk : Bool) : Statement (.keyLoadDone slot storeOk) := of_none rfl
theorem keyActivate (req : Request) : Statement (.keyActivate req) := of_wf rfl fun h => h
theorem keyChangeover (channel : Fin 64) : Statement (.keyChangeover channel) := of_none rfl
theorem keyZeroise (req : Request) : Statement (.keyZeroise req) := of_wf rfl fun h => h
theorem secChannelQuery (req : Request) : Statement (.secChannelQuery req) := of_wf rfl fun h => h
theorem txSegment (channel : Fin 64) (frames : List OduFrame) (suspensions : List Nat) : Statement (.txSegment channel frames suspensions) := of_none rfl
theorem rxSegmentStart (channel : Fin 64) (frames : List OduFrame) (suspensions : List Nat) : Statement (.rxSegmentStart channel frames suspensions) := of_none rfl
theorem tagVerdict (channel : Fin 64) : Statement (.tagVerdict channel) := of_none rfl
theorem secSelftest (failed : BitVec 32) (expandOk : Bool) : Statement (.secSelftest failed expandOk) := of_none rfl
theorem lodSlot : Statement (.lodSlot) := of_none rfl
theorem identityDue : Statement (.identityDue) := of_none rfl
theorem preambleDetect (metric : Nat) (gain : Fin 121) (group : Byte) : Statement (.preambleDetect metric gain group) := of_none rfl
theorem lodHeader (bytes : Vector Byte 4) : Statement (.lodHeader bytes) := of_none rfl
theorem lodFrame (rest : List Byte) (cd : Int) (fo : Int) (ppm : Int) (beacon : Bool) : Statement (.lodFrame rest cd fo ppm beacon) := of_none rfl
theorem identityRx : Statement (.identityRx) := of_none rfl
theorem hostOpaqueRx : Statement (.hostOpaqueRx) := of_none rfl
theorem lodTxPacket : Statement (.lodTxPacket) := of_none rfl
theorem ldtGainUpdate (gain : Fin 121) : Statement (.ldtGainUpdate gain) := of_none rfl
theorem partnerTimeout : Statement (.partnerTimeout) := of_none rfl
theorem lodPartnerQuery (req : Request) : Statement (.lodPartnerQuery req) := of_wf rfl fun h => h
theorem lodIdentityNow (req : Request) : Statement (.lodIdentityNow req) := of_wf rfl fun h => h
theorem chainOutput (chain : Fin 8) (cycles : List TapCycle) : Statement (.chainOutput chain cycles) := of_none rfl
theorem chainSettled (chain : Fin 8) : Statement (.chainSettled chain) := of_none rfl
theorem detApply (seat : SeatId) (chain : Fin 8) (value : Word) : Statement (.detApply seat chain value) := of_none rfl
theorem measureSample (e : Estimates) : Statement (.measureSample e) := of_none rfl
theorem pmSnapshot (req : Request) : Statement (.pmSnapshot req) := of_wf rfl fun h => h
theorem pmLocate (req : Request) : Statement (.pmLocate req) := of_wf rfl fun h => h
theorem capArm (req : Request) : Statement (.capArm req) := of_wf rfl fun h => h
theorem capStop (req : Request) : Statement (.capStop req) := of_wf rfl fun h => h
theorem capTrigger (req : Request) : Statement (.capTrigger req) := of_wf rfl fun h => h
theorem captureDone (before : Nat) (cycles : List CaptureCycle) : Statement (.captureDone before cycles) := of_none rfl
theorem loRead (seat : SeatId) (offset : Fin 1048576) : Statement (.loRead seat offset) := of_none rfl
theorem hiRead (seat : SeatId) (offset : Fin 1048576) : Statement (.hiRead seat offset) := of_none rfl
theorem paired64Read (seat : SeatId) (offset : Fin 1048576) : Statement (.paired64Read seat offset) := of_none rfl
theorem pmcReadStatusRead (seat : SeatId) : Statement (.pmcReadStatusRead seat) := of_none rfl
theorem laneSignalDetect (lane : Fin 16) : Statement (.laneSignalDetect lane) := of_none rfl
theorem cdrLock (lane : Fin 16) : Statement (.cdrLock lane) := of_none rfl
theorem trainingDone (lane : Fin 16) (ok : Bool) (taps : Vector Int 6) : Statement (.trainingDone lane ok taps) := of_none rfl
theorem polarityDetermined (lane : Fin 16) (inverted : Bool) : Statement (.polarityDetermined lane inverted) := of_none rfl
theorem laneOrderTry : Statement (.laneOrderTry) := of_none rfl
theorem portUp (port : Fin 16) (skewNs : Nat) : Statement (.portUp port skewNs) := of_none rfl
theorem bringupTimeout (lane : Fin 16) : Statement (.bringupTimeout lane) := of_none rfl
theorem deskewRetry (port : Fin 16) (skewNs : Nat) : Statement (.deskewRetry port skewNs) := of_none rfl
theorem freqOffset (lane : Fin 16) (ppm : Int) : Statement (.freqOffset lane ppm) := of_none rfl
theorem partnerAbsent (lane : Fin 16) : Statement (.partnerAbsent lane) := of_none rfl
theorem laneDown (lane : Fin 16) (signalLost : Bool) : Statement (.laneDown lane signalLost) := of_none rfl
theorem auiFecCodeword (port : Fin 16) (corrected : Bool) (uncorrectable : Bool) (lf : Bool) (rf : Bool) : Statement (.auiFecCodeword port corrected uncorrectable lf rf) := of_none rfl
theorem tlmMarker (lane : Fin 16) (marker : Option (BitVec 256)) (received : List (Fin 4)) : Statement (.tlmMarker lane marker received) := of_none rfl
theorem tlmPeriod (port : Fin 16) (pad : Fin 4096) (dropped : Nat) (words : List (BitVec 256)) : Statement (.tlmPeriod port pad dropped words) := of_none rfl
theorem flexeOh (port : Fin 16) (crcOk : Bool) (gidOk : Bool) (phyOk : Bool) (locked : Bool) (rpf : Bool) : Statement (.flexeOh port crcOk gidOk phyOk locked rpf) := of_none rfl
theorem hostCalRequest (group : Fin 4) (calendar : List Nat) : Statement (.hostCalRequest group calendar) := of_none rfl
theorem flexeCalAck (group : Fin 4) : Statement (.flexeCalAck group) := of_none rfl
theorem flexeCalTimeout : Statement (.flexeCalTimeout) := of_none rfl
theorem hstLaneRetrain (req : Request) : Statement (.hstLaneRetrain req) := of_wf rfl fun h => h
theorem hstLaneEye (req : Request) (snr : Nat) (upper : Nat) (middle : Nat) (lower : Nat) (width : Nat) (ctle : Nat) (dfe : Int) : Statement (.hstLaneEye req snr upper middle lower width ctle dfe) := of_wf rfl fun h => h
theorem flexeCalQuery (req : Request) : Statement (.flexeCalQuery req) := of_wf rfl fun h => h
theorem selectorRun : Statement (.selectorRun) := of_none rfl
theorem slotMeasure (slot : Fin 8) (hard : Int) (soft : Int) (xtalB : Int) : Statement (.slotMeasure slot hard soft xtalB) := of_none rfl
theorem soakDone (slot : Fin 8) : Statement (.soakDone slot) := of_none rfl
theorem wtrDone (slot : Fin 8) : Statement (.wtrDone slot) := of_none rfl
theorem activityLoss (slot : Fin 8) : Statement (.activityLoss slot) := of_none rfl
theorem activityReturn (slot : Fin 8) : Statement (.activityReturn slot) := of_none rfl
theorem holdoffExpire (slot : Fin 8) : Statement (.holdoffExpire slot) := of_none rfl
theorem xtalBWarmup (offset : Int) : Statement (.xtalBWarmup offset) := of_none rfl
theorem historyEntry (ppt : Int) (linePpt : Int) (lineLocked : Bool) (syncLocked : Bool) : Statement (.historyEntry ppt linePpt lineLocked syncLocked) := of_none rfl
theorem holdoverLimit : Statement (.holdoverLimit) := of_none rfl
theorem ppsInEdge (edge : PpsEdge) : Statement (.ppsInEdge edge) := of_none rfl
theorem ppsOut : Statement (.ppsOut) := of_none rfl
theorem ppsPulseEnd : Statement (.ppsPulseEnd) := of_none rfl
theorem ptpMessageRx (port : Fin 2) (message : PtpRx) : Statement (.ptpMessageRx port message) := of_none rfl
theorem ptpMessageTx (port : Fin 2) (kind : Fin 4) : Statement (.ptpMessageTx port kind) := of_none rfl
theorem ptpSyncTimeout (port : Fin 2) : Statement (.ptpSyncTimeout port) := of_none rfl
theorem timSetTime (req : Request) : Statement (.timSetTime req) := of_wf rfl fun h => h
theorem timSetTimeApply : Statement (.timSetTimeApply) := of_none rfl
theorem timQuery (req : Request) : Statement (.timQuery req) := of_wf rfl fun h => h
theorem timClearWtr (req : Request) : Statement (.timClearWtr req) := of_wf rfl fun h => h
theorem sourceAmplitude (source : Fin 10) (valid : Bool) : Statement (.sourceAmplitude source valid) := of_none rfl
theorem sourceReady (source : Fin 10) : Statement (.sourceReady source) := of_none rfl
theorem pllLock (pll : Fin 4) : Statement (.pllLock pll) := of_none rfl
theorem pllUnlock (pll : Fin 4) : Statement (.pllUnlock pll) := of_none rfl
theorem clockMonitorWindow (source : Fin 10) (ok : Bool) : Statement (.clockMonitorWindow source ok) := of_none rfl
theorem clkSwitch (req : Request) : Statement (.clkSwitch req) := of_wf rfl fun h => h
theorem clkSwitchDone (mux : Fin 3) : Statement (.clkSwitchDone mux) := of_none rfl
theorem oldClockStopped (mux : Fin 3) : Statement (.oldClockStopped mux) := of_none rfl
theorem clkResume (req : Request) : Statement (.clkResume req) := of_wf rfl fun h => h
theorem idleAck (path : Path) : Statement (.idleAck path) := of_none rfl
theorem gateTimeout (path : Path) (accesses : List PendingAccess) : Statement (.gateTimeout path accesses) := of_none rfl
theorem scrubRead (group : Fin 6) (mask : Nat) : Statement (.scrubRead group mask) := of_none rfl
theorem memRetire (req : Request) : Statement (.memRetire req) := of_wf rfl fun h => h
theorem retireDone : Statement (.retireDone) := of_none rfl
theorem memInject (req : Request) : Statement (.memInject req) := of_wf rfl fun h => h
theorem logClear (seat : SeatId) (groups : BitVec 6) : Statement (.logClear seat groups) := of_none rfl
theorem spqPush (seat : SeatId) (queue : Fin 24) (hi : Word) (lo : Option Word) : Statement (.spqPush seat queue hi lo) := of_none rfl
theorem spqPushLast (seat : SeatId) (queue : Fin 24) (hi : Word) : Statement (.spqPushLast seat queue hi) := of_none rfl
theorem spqPop (seat : SeatId) (queue : Fin 24) (wide : Bool) : Statement (.spqPop seat queue wide) := of_none rfl
theorem spqDrop (seat : SeatId) (queue : Fin 24) : Statement (.spqDrop seat queue) := of_none rfl
theorem spqHwPush (queue : Fin 24) (words : List Word64) : Statement (.spqHwPush queue words) := of_none rfl
theorem spqHwPop (queue : Fin 24) : Statement (.spqHwPop queue) := of_none rfl
theorem spqSpill (queue : Fin 24) (upsets : List (Nat × Nat)) : Statement (.spqSpill queue upsets) := of_none rfl
theorem seqApply (seat : SeatId) (mask : BitVec 2) : Statement (.seqApply seat mask) := of_none rfl
theorem seqTrigger (seat : SeatId) (mask : BitVec 2) : Statement (.seqTrigger seat mask) := of_none rfl
theorem urgentTrigger (seat : SeatId) (mask : BitVec 2) : Statement (.urgentTrigger seat mask) := of_none rfl
theorem burstStop (seat : SeatId) (mask : BitVec 2) : Statement (.burstStop seat mask) := of_none rfl
theorem seqTimer (conv : Fin 2) : Statement (.seqTimer conv) := of_none rfl
theorem flintHkTrigger : Statement (.flintHkTrigger) := of_none rfl
theorem compCrossing (comp : Fin 8) (uv : Nat) : Statement (.compCrossing comp uv) := of_none rfl
theorem hkConversion (conv : Fin 2) (uv : Int) (other : Int) (vref : Nat) : Statement (.hkConversion conv uv other vref) := of_none rfl
theorem refSettled (conv : Fin 2) : Statement (.refSettled conv) := of_none rfl
theorem vrefCheck (uv : Nat) : Statement (.vrefCheck uv) := of_none rfl
theorem dmaRdOffset (seat : SeatId) (conv : Fin 2) (value : BitVec 20) : Statement (.dmaRdOffset seat conv value) := of_none rfl
theorem abcDwell (samples : List (Nat × Int)) (vref : Nat) : Statement (.abcDwell samples vref) := of_none rfl
theorem abcRelock (req : Request) : Statement (.abcRelock req) := of_wf rfl fun h => h
theorem itlLoopQuery (req : Request) : Statement (.itlLoopQuery req) := of_wf rfl fun h => h
theorem itlTxPacket : Statement (.itlTxPacket) := of_none rfl
theorem itlResponse (bytes : Vector Byte 4) : Statement (.itlResponse bytes) := of_none rfl
theorem itlRspTimeout : Statement (.itlRspTimeout) := of_none rfl
theorem ftfLoopPeriod : Statement (.ftfLoopPeriod) := of_none rfl
theorem helloSend : Statement (.helloSend) := of_none rfl
theorem helloRx (port : Fin 2) (bytes : List Byte) : Statement (.helloRx port bytes) := of_none rfl
theorem rosterRx (port : Fin 2) (bytes : List Byte) : Statement (.rosterRx port bytes) := of_none rfl
theorem nakRx (port : Fin 2) (bytes : List Byte) : Statement (.nakRx port bytes) := of_none rfl
theorem policyRx (port : Fin 2) (bytes : List Byte) : Statement (.policyRx port bytes) := of_none rfl
theorem policyAckRx (port : Fin 2) (bytes : List Byte) : Statement (.policyAckRx port bytes) := of_none rfl
theorem npStatusRx (port : Fin 2) (bytes : List Byte) : Statement (.npStatusRx port bytes) := of_none rfl
theorem npSelectRx (port : Fin 2) (bytes : List Byte) : Statement (.npSelectRx port bytes) := of_none rfl
theorem hostFrameRx (port : Fin 2) (bytes : List Byte) : Statement (.hostFrameRx port bytes) := of_none rfl
theorem domHostTx : Statement (.domHostTx) := of_none rfl
theorem neighbourLost (port : Fin 2) (id : Nat) : Statement (.neighbourLost port id) := of_none rfl
theorem reachLost (id : Nat) : Statement (.reachLost id) := of_none rfl
theorem rosterTimeout (id : Nat) : Statement (.rosterTimeout id) := of_none rfl
theorem tvlPortLink (port : Fin 2) (up : Bool) : Statement (.tvlPortLink port up) := of_none rfl
theorem flintForce (req : Request) : Statement (.flintForce req) := of_wf rfl fun h => h
theorem flintLockout (req : Request) : Statement (.flintLockout req) := of_wf rfl fun h => h
theorem domPolicySend (req : Request) : Statement (.domPolicySend req) := of_wf rfl fun h => h
theorem domRosterAdopt (req : Request) : Statement (.domRosterAdopt req) := of_wf rfl fun h => h
theorem domMemberQuery (req : Request) : Statement (.domMemberQuery req) := of_wf rfl fun h => h
theorem npForce (req : Request) : Statement (.npForce req) := of_wf rfl fun h => h
theorem flintFrameTx : Statement (.flintFrameTx) := of_none rfl
theorem flintFrameRx (word : BitVec 16) (check : Byte) : Statement (.flintFrameRx word check) := of_none rfl
theorem flintHealthChange : Statement (.flintHealthChange) := of_none rfl
theorem flintLinkLoss : Statement (.flintLinkLoss) := of_none rfl
theorem flintWtrExpire : Statement (.flintWtrExpire) := of_none rfl
theorem npStatusTx : Statement (.npStatusTx) := of_none rfl
theorem npSelectTx : Statement (.npSelectTx) := of_none rfl
theorem npWtrExpire : Statement (.npWtrExpire) := of_none rfl
theorem npSelectTimeout : Statement (.npSelectTimeout) := of_none rfl
theorem vinRise (lost : Bool) : Statement (.vinRise lost) := of_none rfl
theorem vinLow : Statement (.vinLow) := of_none rfl
theorem vinLowClear : Statement (.vinLowClear) := of_none rfl
theorem brownOut : Statement (.brownOut) := of_none rfl
theorem porstAssert : Statement (.porstAssert) := of_none rfl
theorem startupReference (straps : BitVec 8) (aonTemp : Int) : Statement (.startupReference straps aonTemp) := of_none rfl
theorem railsInRegulation : Statement (.railsInRegulation) := of_none rfl
theorem memorySelftestFill (singles : List (Fin 6 × Nat)) (banks : List (Fin 64)) (failed : Bool) : Statement (.memorySelftestFill singles banks failed) := of_none rfl
theorem seqBootGo (seat : SeatId) (value : Word) : Statement (.seqBootGo seat value) := of_none rfl
theorem firmwareVerified (slot : Fin 2) (version : Nat) (floor : Nat) (build : Nat) : Statement (.firmwareVerified slot version floor build) := of_none rfl
theorem seatsReady : Statement (.seatsReady) := of_none rfl
theorem startupFault (cause : Fin 7) : Statement (.startupFault cause) := of_none rfl
theorem phaseFailed (rail : Fin 7) : Statement (.phaseFailed rail) := of_none rfl
theorem railFault (rail : Fin 7) : Statement (.railFault rail) := of_none rfl
theorem avsUpdate : Statement (.avsUpdate) := of_none rfl
theorem iinMeasure (vinMv : Nat) (iin10mA : Nat) : Statement (.iinMeasure vinMv iin10mA) := of_none rfl
theorem pwrTolerance (req : Request) : Statement (.pwrTolerance req) := of_wf rfl fun h => h
theorem pwrQuery (req : Request) : Statement (.pwrQuery req) := of_wf rfl fun h => h
theorem deepenHoldExpire (group : Fin 4) : Statement (.deepenHoldExpire group) := of_none rfl
theorem powerStateEntered (group : Fin 4) : Statement (.powerStateEntered group) := of_none rfl
theorem powerStateExited (group : Fin 4) (us : Nat) : Statement (.powerStateExited group us) := of_none rfl
theorem thermalRead (readings : Vector Int 8) : Statement (.thermalRead readings) := of_none rfl
theorem regIinPeakRead (seat : SeatId) : Statement (.regIinPeakRead seat) := of_none rfl
theorem thmMaxSeenRead (seat : SeatId) : Statement (.thmMaxSeenRead seat) := of_none rfl
theorem tapInstruction (code : Byte) (cells : List Bool) : Statement (.tapInstruction code cells) := of_none rfl
theorem tapTestLogicReset : Statement (.tapTestLogicReset) := of_none rfl
theorem coarseShiftSet (blindMHz : Int) : Statement (.coarseShiftSet blindMHz) := of_none rfl
theorem foNearLimit (fineKHz : Int) : Statement (.foNearLimit fineKHz) := of_none rfl
theorem dgdLimit (dgdPsX10 : Nat) : Statement (.dgdLimit dgdPsX10) := of_none rfl
theorem rxBeaconClear : Statement (.rxBeaconClear) := of_none rfl
theorem codSelftest (failedClusters : BitVec 16) (failed : Option CodPart) : Statement (.codSelftest failedClusters failed) := of_none rfl
theorem alignmentMarkerLoss (port : Fin 16) : Statement (.alignmentMarkerLoss port) := of_none rfl
theorem pcsBlockError (port : Fin 16) : Statement (.pcsBlockError port) := of_none rfl
theorem fwFetchUncorrectable (word : Nat) (poisoned : Bool) : Statement (.fwFetchUncorrectable word poisoned) := of_none rfl
theorem dataPathReadError (read : DataRead) (word : Nat) (mask : Nat) : Statement (.dataPathReadError read word mask) := of_none rfl
theorem hkdRampDone (dac : Fin 12) : Statement (.hkdRampDone dac) := of_none rfl
theorem pciePerstRelease : Statement (.pciePerstRelease) := of_none rfl
theorem ringEntryWrite (seat : SeatId) (offset : Fin 8192) (bytes : List Byte) (flips : Nat) : Statement (.ringEntryWrite seat offset bytes flips) := of_none rfl

end Sys2Proof.Laws.Requests
end

