-- ==== Sys2Proof/Laws/Serve.lean ====
section
/-!
SUPPORT. When a request or a write is carried out, and what events and responses leave as it was.
-/
namespace Sys2Proof.Machine

/-- A served request is carried out on the state without it. -/
theorem serve_served {s : State} {r : Request} (h : Served s r) (act : State → State) : serve r s act = act (takeRequest r s) := by
  obtain ⟨h1, h2, hc, h3⟩ := h
  unfold serve
  rw [if_neg (by simp [h1]), if_neg (by simp [h2, hc]), if_neg]
  rintro ⟨hm, he⟩
  simp [h3 hm] at he

/-- Taking a request out leaves all but its channel and the count of R56. -/
theorem takeRequest_eq (r : Request) (s : State) : takeRequest r s =
    { s with mgt.channel := (takeRequest r s).mgt.channel, mgt.normalRun := (takeRequest r s).mgt.normalRun } := rfl

@[simp] theorem takeRequest_owns (r : Request) (s : State) (i : SeatId) (p : Path) : (takeRequest r s).owns i p = s.owns i p := rfl
@[simp] theorem takeRequest_resetRequired (r : Request) (s : State) (p : Path) :
    (takeRequest r s).resetRequired p = s.resetRequired p := rfl
@[simp] theorem takeRequest_seat (r : Request) (s : State) (i : SeatId) : (takeRequest r s).seat i = s.seat i := rfl
@[simp] theorem takeRequest_cfg (r : Request) (s : State) (p : ParamRow) (x y z : Nat) :
    (takeRequest r s).cfg p x y z = s.cfg p x y z := rfl

/-- An admitted request to one of the opcode's Units is carried out. -/
theorem serveTarget_admitted {s : State} {r : Request} (h : Admitted s r) {units : List (Nat × Nat)}
    (hu : units.contains (r.target.sec, r.target.unit) = true) (own : Bool) (act : State → State) :
    serveTarget r s units own act = act (takeRequest r s) := by
  obtain ⟨h0, h1, h2, h3⟩ := h
  unfold serveTarget
  rw [serve_served h0]
  rw [if_neg (by rw [hu]; decide)]
  simp [targetCheck, h1, h2, h3]

/-- The same for an opcode that any seat may send. -/
theorem serveTarget_any {s : State} {r : Request} (h : Served s r) (ht : r.target.isTarget = true)
    (hm : s.resetRequired r.target = false) {units : List (Nat × Nat)}
    (hu : units.contains (r.target.sec, r.target.unit) = true) (act : State → State) :
    serveTarget r s units false act = act (takeRequest r s) := by
  unfold serveTarget
  rw [serve_served h]
  rw [if_neg (by rw [hu]; decide)]
  simp [targetCheck, ht, hm]

/-- A write that is carried out. -/
theorem unitWrite_writes {s : State} {i : SeatId} {p : Path} (h : Writes s i p) (act : State → State) :
    unitWrite i p s act = act s := by
  obtain ⟨h1, h2, h3, h4⟩ := h
  simp [unitWrite, h1, h2, h3, h4]

/-! ### What events and responses leave as it was -/

@[simp] theorem told_seat (s t : State) (i : SeatId) : (s.told t).seat i = (s.seat i).told (t.seat i) := vgen_get _ i

/-- Two states are equal if they agree in the seats and in every other part. -/
theorem state_ext {s t : State} (h : calm t = calm s) (hs : ∀ i, t.seat i = s.seat i) (hl : t.mgt.limits = s.mgt.limits)
    (hc : t.mon.cap = s.mon.cap) (ho : t.out = s.out) : t = s := by
  have hv : t.mgt.seats = s.mgt.seats := by
    apply Vector.ext
    intro i hi
    exact hs ⟨i, hi⟩
  have e : ∀ x : State, x = { calm x with mgt.seats := x.mgt.seats, mgt.limits := x.mgt.limits, mon.cap := x.mon.cap, out := x.out } :=
    fun _ => rfl
  rw [e t, e s, h, hv, hl, hc, ho]

@[simp] theorem calm_told (s t : State) : calm (s.told t) = calm s := rfl

/-- Nothing but events and responses: the two ways of saying so. -/
theorem told_iff (s t : State) : t = s.told t ↔ calm t = calm s ∧ ∀ i, t.seat i = (s.seat i).told (t.seat i) := by
  constructor
  · intro h
    refine ⟨(congrArg calm h).trans rfl, fun i => ?_⟩
    have := congrArg (fun x => x.seat i) h
    simpa using this
  · rintro ⟨h1, h2⟩
    exact state_ext (by simpa using h1) (fun i => by simpa using h2 i) rfl rfl rfl

theorem Seat.told_trans {p q r : Seat} (h1 : q = p.told q) (h2 : r = q.told r) : r = p.told r := by
  rw [h2, h1]; rfl

theorem told_refl (s : State) : s = s.told s := (told_iff s s).2 ⟨rfl, fun _ => rfl⟩

theorem told_trans {s t u : State} (h1 : t = s.told t) (h2 : u = t.told u) : u = s.told u := by
  rw [told_iff] at *
  exact ⟨h2.1.trans h1.1, fun i => Seat.told_trans (h1.2 i) (h2.2 i)⟩

theorem told_onSeat (s : State) (i : SeatId) (f : Seat → Seat) (h : f (s.seat i) = (s.seat i).told (f (s.seat i))) :
    s.onSeat i f = s.told (s.onSeat i f) := by
  rw [told_iff]
  refine ⟨rfl, fun j => ?_⟩
  by_cases hj : j = i
  · subst hj; rw [State.onSeat_seat]; exact h
  · rw [State.onSeat_seat_other _ _ _ _ hj]; rfl

theorem told_send (s : State) (o : Output) : s.send o = s.told (s.send o) := (told_iff _ _).2 ⟨rfl, fun _ => rfl⟩

theorem told_fireCapture (n : Nat) (s : State) : fireCapture n s = s.told (fireCapture n s) := by
  rw [told_iff]
  refine ⟨calm_fireCapture n s, fun i => ?_⟩
  unfold fireCapture; split <;> rfl

theorem told_offerMsix (i : SeatId) (v : Nat) (s : State) : offerMsix i v s = s.told (offerMsix i v s) := by
  unfold offerMsix
  split
  · exact told_refl s
  · dsimp only
    split
    · exact told_onSeat _ _ _ rfl
    · split
      · exact told_refl s
      · exact told_trans (told_onSeat _ _ _ rfl) (told_send _ _)

theorem told_overAll {ι : Type} (is : List ι) (f : ι → State → State) (h : ∀ i s, f i s = s.told (f i s)) (s : State) :
    overAll is f s = s.told (overAll is f s) := by
  induction is generalizing s with
  | nil => exact told_refl s
  | cons i is ih => exact told_trans (h i s) (ih (f i s))

/-- A raise delivers: nothing but events, messages, limits and capture triggers changes. -/
theorem told_raiseAt (n u i : Nat) (s : State) : raiseAt n u i s = s.told (raiseAt n u i s) := by
  unfold raiseAt
  dsimp only
  have hm := fun (t : State) (is : List SeatId) => told_overAll is (fun i s => offerMsix i (n / 16) s) (fun i s => told_offerMsix i _ s) t
  have h0 : ∀ (f : Seat → Seat) (l : List LimitEntry), (∀ q, f q = q.told (f q)) →
      { s with mgt.seats := vmap s.mgt.seats f, mgt.limits := l } =
        s.told { s with mgt.seats := vmap s.mgt.seats f, mgt.limits := l } := by
    intro f l hf
    rw [told_iff]
    refine ⟨rfl, fun j => ?_⟩
    simp only [State.seat, vmap_get]
    exact hf _
  split
  · exact told_trans (told_trans (h0 _ _ fun q => rfl) (hm _ _)) (told_fireCapture _ _)
  · exact told_trans (h0 _ _ fun q => rfl) (hm _ _)

theorem told_raise (n : Nat) (s : State) : raise n s = s.told (raise n s) := told_raiseAt _ _ _ s
theorem told_raiseFor (n i : Nat) (s : State) : raiseFor n i s = s.told (raiseFor n i s) := told_raiseAt _ _ _ s

theorem told_postInto (i : SeatId) (p : Posting) (s : State) : postInto i p s = s.told (postInto i p s) := by
  unfold postInto
  dsimp only
  split
  · exact told_trans (told_onSeat _ _ _ rfl) (told_offerMsix _ _ _)
  · exact told_onSeat _ _ _ rfl

theorem told_post (i : SeatId) (p : Posting) (s : State) : post i p s = s.told (post i p s) := by
  unfold post
  split
  · exact told_postInto _ _ _
  · exact told_onSeat _ _ _ rfl

/-- A response is posted: nothing but rings, messages and the count of Urgent requests changes. -/
theorem told_respond (r : Request) (rep : Reply) (s : State) : respond r rep s = s.told (respond r rep s) := by
  unfold respond
  have h0 : (if r.cls = .urgent then s.onSeat r.seat fun q => { q with urgentOut := q.urgentOut - 1 } else s) =
      s.told (if r.cls = .urgent then s.onSeat r.seat fun q => { q with urgentOut := q.urgentOut - 1 } else s) := by
    split
    · exact told_onSeat _ _ _ rfl
    · exact told_refl s
  dsimp only
  split
  · exact h0
  · exact told_trans h0 (told_post _ _ _)

end Sys2Proof.Machine
end

