-- ==== Sys2Proof/Tests/Slice0.lean ====
section
/-!
SUPPORT. Tests of the model: ill-formed commands that the check refuses, figures that the spec works out, and for every statement with
hypotheses a state and operands that meet them, one line a clause in the order of the statement.
-/
set_option Elab.async false

namespace Sys2Proof.Tests
open Sys2Proof Sys2Proof.Machine

/-! ### States -/

/-- The device with firmware ready. -/
def up : State := { State.reset with mgt.fwReady := true }

/-- A request of seat 0. -/
def ask (p : Path) (b : List Byte) : Request := { seat := 0, opcode := 0, target := p, payload := b }

/-- A state with one parameter set. -/
def setP (row : ParamRow) (v : Int) (s : State) (inst elem : Nat := 0) : State :=
  { s with mgt.running := nmPut s.mgt.running (paramKey ⟨row.sec, row.unit, inst⟩ row.num elem) v }

/-- Slice groups of running channels in a phase, with rotation steps owed. -/
def rot (p : RotationPhase) (owed : Nat) : State :=
  setP Param.calBackgroundEnable 1
    { up with cnv.adcs := Vector.replicate 4 { running := true, groups := Vector.replicate 12 { phase := p, passLeft := owed } } }

/-- A forced pass whose rotations have ended, on channels of one state. -/
def forced (a : Adc) : State :=
  setP Param.calForcedStepEnable 1 { up with cnv.forcedPass := true, cnv.adcs := Vector.replicate 4 a }

/-- A receiver with a signal on converters that run, and a seed. -/
def sig (s : State) : State :=
  { s with cnv.adcs := Vector.replicate 4 { running := true }, rxd.powerAt := some 0, rxd.seedValid := true }

/-- A device that sends and receives superframes. -/
def ln (s : State) : State := { s with txd.counting := true, rxd.sfLock := true, txd.sf := 10, rxd.sf := 20, cod.sync := true }

/-- A rate change on its way. -/
def rateOn (st : RateStage) : PendingRate := { commit := 3, stage := st, values := ⟨32, 512, 1⟩, s0 := 12, change := 40, changeId := 5 }

/-- A commit of one record that waits. -/
def oneCommit (p : Path) (d : Dir) (recs : NMap Int) (plan : List CommitStage) : Commit :=
  { id := 0, req := ask ⟨0, 4, 0⟩ [], targets := [p], recs := recs, applied := ⟨recs, [], []⟩, plan := plan, landing := true,
    parts := [{ path := p, dir := d, onTx := true, due := 11 }], values := ⟨0, 0, 0⟩ }

/-- Channel 63 with keys in both slots and both directions in use. -/
def keyed : State :=
  setP Param.cipMode 1 (setP Param.cipClient 5 { ln up with
    sec.slots := Vector.replicate 128 { loaded := true }
    sec.channels := Vector.replicate 64 { txUsing := true, txEpoch := some 4, rxUsing := true, rxEpoch := some 0xFFFF, rxSync := true, rxRead := true, rxRuns := true }
    frm.lof := false, frm.oof := false } 63) 63

/-- Seat 0 with one record in its slate: the capture source. -/
def slated (v : Int) : State :=
  { up with mgt.seats := up.mgt.seats.set 0 { slate := [(paramKey ⟨12, 3, 0⟩ 1 0, v)] } }

/-- A line frame in frame. -/
def framed (s : State) : State := { s with frm.oof := false, frm.lof := false }

/-- Every chain settled and at a level. -/
def levels (l : Int) : State :=
  { up with mon.chains := Vector.ofFn fun _ => { settled := true, rms := some l }, cnv.adcs := Vector.replicate 4 { running := true } }

/-- Port 0 of a type on lanes that are ready for it. -/
def host (type : Int) : State :=
  setP Param.pcsPortType type { up with
    hst.lanes := Vector.replicate 16 { low := false, step := 6, passed := true, signal := true, cdr := true, locked := true }, hst.orderLocked := true }

/-- Port 0 up. -/
def hostUp (type : Int) : State := { host type with hst.ports := (Vector.replicate 16 {}).set 0 { up := true } }

/-- Every lane at one step of the bring-up. -/
def lanes (l : Lane) : State := { up with hst.lanes := Vector.replicate 16 l }

/-- Every slot alike. -/
def slots (q : Slot) : State := { up with tim.slots := Vector.replicate 8 q }

/-- Both housekeeping converters alike. -/
def hks (k : HkConv) : State := { up with feh.convs := Vector.replicate 2 k }

/-- Firmware ready, seat 0 owns what `ps` do not list, and seat 1 owns those. -/
def owned (o : Option SeatId) (p : Path) : State := { up with mgt.owners := [(p.key, o)] }

/-- Seats attached. -/
def attached (s : State) : State := { s with mgt.seats := Vector.replicate 4 { attached := true } }

/-- A member of a domain with number 5, both ports on. -/
def member : State :=
  setP Param.dauMember 1 (setP Param.dauDomainId 5 (setP Param.tvlEnable 1 (setP Param.tvlEnable 1 up 1) 0))

/-- A frame of a type from member 7 to member 5. -/
def frameOf (type : Nat) (payload : List Byte) : TvlFrame :=
  { ethertype := 0x88B5, type := type, tag := 0, source := 7, dest := 5, epoch := 0, seq := 3, payload := payload }

/-- Such a frame on the wire. -/
def wire (f : TvlFrame) : List Byte := tvlBytes 1 f

/-- A request entry of 128 bytes with `NOP` for sequence number 0. -/
def nopEntry : List Byte :=
  let head := leBytes 16 (Header.toNat ⟨0, 1, false, 0, 0, 9, 0, ⟨0, 5, 0⟩⟩)
  head ++ leBytes 4 (crc32c head) ++ List.replicate 108 0

/-- Seat 0 attached, with that entry at its head. -/
def rung : State :=
  { up with mgt.seats := up.mgt.seats.set 0 { attached := true, reqRing := writeBytes [] 0 nopEntry } }

/-- A `HELLO` of member 7 as member 5 itself would send it. -/
def helloFrame : TvlFrame := { frameOf 1 (helloBytes 0 member) with dest := 0xFFFF }
/-- A roster of the member with authority. -/
def rosterFrame : TvlFrame := { frameOf 2 (List.replicate 128 1) with epoch := 4 }
/-- The payload of a `NAK` with nothing in it. -/
def nakBytes : List Byte := List.replicate 4 0

/-- The arbiter of 1:N group 9. -/
def np : State := setP Param.fltNpGroup 9 member

/-- Four short ODU frames of one slice. -/
def oduFrames : List OduFrame := List.replicate 4 [{ overhead := List.replicate 64 0, payload := [1, 2, 3] }]

/-- A received segment with this control byte, epoch and counter. -/
def shown (control epoch counter : Nat) : List OduFrame := withOverhead control epoch counter (some (2 ^ 128 - 7)) oduFrames

/-- The words of a list of paths. -/
def wordsOf (ps : List Path) : List Byte := ps.flatMap fun p => leBytes 4 p.word

/-- Chain 7 run until its next core cycle gives an output. -/
def chainRun : State :=
  (List.range 20).foldl
    (fun s _ =>
      let r := (s.chain 7).cycle (s.cfgN Param.dchPreset 7) (s.chainInputOf 7 (List.replicate 64 (some 100)))
      if r.2.isSome then s else { s with mon.chains := s.mon.chains.set 7 r.1 })
    (setP Param.dchPreset 0 (setP Param.dchStream 1 (setP Param.dchEnable 1 (levels 0) 7) 7) 7)

/-- The same with nothing else changed. -/
def chainEnds : State := { levels 0 with mgt := chainRun.mgt, mon.chains := chainRun.mon.chains }

/-- Bias 5 in its dwell. -/
def dwelling : State := { hks { settling := false } with mgt := (setP Param.abcDwellPeriods 16 (setP Param.abcEnable 0x3F up)).mgt, feh.active := some 5 }

/-- The samples of a whole dwell. -/
def dwellSamples : List (Nat × Int) := (List.range (16 * dwelling.cfgN Param.abcDwellPeriods)).map fun i => (i, (i % 7 : Nat))

/-- The next state of an outcome that has one. -/
def nextOf (o : Result) : State :=
  match o with
  | .next t => t
  | _ => State.reset

/-! ### Well-formedness: an ill-formed command for each check -/

/-- A well-formed request passes (R48, Table 2.11). -/
theorem test_wf_ok : Instr.wf (.nop (ask ⟨0, 4, 0⟩ [])) = true := by decide +kernel
/-- The opcode is the row's (Table 2.11). -/
theorem test_wf_opcode : Instr.wf (.claim (ask ⟨9, 0, 0⟩ [])) = false := by decide +kernel
/-- `TAG` has 16 bits, `SEQ` 32 (Table 2.9). -/
theorem test_wf_tag : Instr.wf (.nop { ask ⟨0, 4, 0⟩ [] with tag := 0x10000 }) = false := by decide +kernel
theorem test_wf_seq : Instr.wf (.nop { ask ⟨0, 4, 0⟩ [] with seq := 2 ^ 32 }) = false := by decide +kernel
/-- A path has 4, 5 and 10 bits (R53). -/
theorem test_wf_target : Instr.wf (.nop (ask ⟨16, 4, 0⟩ [])) = false ∧ Instr.wf (.nop (ask ⟨0, 32, 0⟩ [])) = false ∧
    Instr.wf (.nop (ask ⟨0, 4, 1024⟩ [])) = false := by decide +kernel
/-- A payload has at most 1,004 bytes (R48). -/
theorem test_wf_payload : Instr.wf (.nop (ask ⟨0, 4, 0⟩ (List.replicate 1005 0))) = false := by decide +kernel
/-- A request of the Urgent class has one entry (R56). -/
theorem test_wf_urgent : Instr.wf (.nop { ask ⟨0, 4, 0⟩ (List.replicate 109 0) with cls := .urgent }) = false := by decide +kernel
/-- Trim codes have the widths of Table 3.4. -/
theorem test_wf_trims : Trims.wf { offset := 256, gain := 0, skew := 0, bandwidth := 0 } = false ∧
    Trims.wf { offset := 0, gain := 256, skew := 0, bandwidth := 0 } = false ∧
    Trims.wf { offset := 0, gain := 0, skew := 1024, bandwidth := 0 } = false ∧
    Trims.wf { offset := 0, gain := 0, skew := 0, bandwidth := 64 } = false := by decide +kernel
/-- More clipped samples than samples, a share above one, a mask past 79 bits, a name past 10 bits: none is a command. -/
theorem test_wf_bounds : Instr.wf (.outputClipCheck 2 1) = false ∧ Instr.wf (.adcClipCheck 0 2 1) = false ∧
    Instr.wf (.fastBerWindow 1000000001) = false ∧ Instr.wf (.scrubRead 0 (2 ^ 79)) = false ∧
    Instr.wf (.reachLost 1024) = false ∧ Instr.wf (.domainTimeout 65536) = false ∧
    Instr.wf (.iinMeasure 65536 0) = false ∧ Instr.wf (.superframeHeader true (some (2 ^ 64)) none) = false := by decide +kernel
/-- A scan has 1,601 or at most 33 metrics and a seeded one 17 (R129, R131); a change ends after it began (R143); the boundary register has
133 cells (R584); a ring holds 8,192 bytes (R52). -/
theorem test_wf_lengths : Instr.wf (.cdScanDone (List.replicate 34 0)) = false ∧ Instr.wf (.cdSeedRefineDone []) = false ∧
    Instr.wf (.codewordGroup ⟨true, [], []⟩ 2 1 0 1) = false ∧ Instr.wf (.codewordGroup ⟨true, [], []⟩ 1 1 2 1) = false ∧
    Instr.wf (.tapInstruction 0 []) = false ∧ Instr.wf (.ringEntryWrite 0 8191 [0, 0] 0) = false ∧
    Instr.wf (.ringEntryWrite 0 0 [] (2 ^ 79)) = false ∧ Instr.wf (.lodFrame (List.replicate 260 0) 0 0 0 false) = false := by decide +kernel
/-- The sizes of a slice (R268), the order of a dwell's samples (R476), the words of an outcome (R107, R212). -/
theorem test_wf_content : Instr.wf (.txSegment 0 oduFrames []) = false ∧ Instr.wf (.rxSegmentStart 0 oduFrames []) = false ∧
    Instr.wf (.abcDwell [(1, 0), (1, 0)] 0) = false ∧
    InitCalItem.wf { channel := 0, member := 0, failed := 4, trims := {} } = false ∧
    Instr.wf (.doorbell 0 0 [(1024, 0)]) = false ∧ Instr.wf (.firmwareVerified 0 65536 0 0) = false := by decide +kernel
/-- A path that is an operand has its widths too (R53). -/
theorem test_wf_path : Instr.wf (.resetRelease ⟨16, 0, 0⟩) = false := by decide +kernel

/-! ### Figures of the spec -/

/-- R299: CRC-8 over "123456789" gives 0xF4. -/
theorem test_crc8_check : crc8 [0x31, 0x32, 0x33, 0x34, 0x35, 0x36, 0x37, 0x38, 0x39] = 0xF4 := by decide +kernel
/-- Chapter 5's example: OTUC28 at 300.0 GBd with Basalt-15, S = 64, C = 96 takes 317/64 bits, and C = 100 takes 330/64 (R170). -/
theorem test_matched_entropy : matchedEntropy 2400 (payloadSymbols 1) 1 96 2 = 317 ∧
    matchedEntropy 2400 (payloadSymbols 1) 1 100 2 = 330 := by decide +kernel
/-- Chapter 12's example: the phase limit is reached after 763 s of holdover (R403). -/
theorem test_holdover_limit : (limitAfter 1 100 50 1100 0 + 500000) / 1000000 = 763 := by decide +kernel
/-- Chapter 15's example: 0.29 V against 1.2 V reads 990 = 0x03DE, stored as it is (R461, R462). -/
theorem test_hk_result : hkResult 4 290000 1200000 = 990 ∧ hkFormat false 990 = 0x03DE := by decide +kernel
/-- Chapter 16's example: of two halves of three, the one that holds 3 keeps authority (R494). -/
theorem test_tie : authorityOf [3, 40, 41, 200, 512, 700] [3, 40, 41, 200, 512, 700] [3, 40, 41] = true ∧
    authorityOf [3, 40, 41, 200, 512, 700] [3, 40, 41, 200, 512, 700] [200, 512, 700] = false := by decide +kernel
/-- Chapter 18's example: word 0 of the entry has the low half 0x0010_29A8 (Table 18.4). -/
theorem test_event_entry :
    leNat (({ event := 0xA8, severity := 1, sec := 10, unit := 0, inst := 2 } : EventEntry).bytes.take 8) = 0x001029A8 := by
  decide +kernel
/-- Chapter 14's example: page 2,194 lies in queue 7's region, whose capacity falls from 32,832 to 32,320 words (R446). -/
theorem test_retired_page : up.queueCapacity 7 = 32832 ∧
    ({ up with mem.retired := [2194] } : State).queueCapacity 7 = 32320 := by decide +kernel
/-- Chapter 19's counts: 900 balls, of which 120 supply, 509 ground, 66 reserved and 205 signals, no two signals in one place (R568). -/
theorem test_balls : (allPlaces.map BallPlace.role).count .vin = 120 ∧ (allPlaces.map BallPlace.role).count .gnd = 509 ∧
    (allPlaces.map BallPlace.role).count .reserved = 66 ∧ (allPlaces.map BallPlace.role).count .signal = 205 ∧
    signalBalls.length = 205 ∧ (signalBalls.map Ball.place).all (fun b => decide (b.role = .signal)) = true := by decide +kernel
/-- The 32-bit FCS of "123456789" is the check value 0xCBF43926 of CRC-32, least significant byte first (R259). -/
theorem test_fcs : fcs32 [0x31, 0x32, 0x33, 0x34, 0x35, 0x36, 0x37, 0x38, 0x39] = [0x26, 0x39, 0xF4, 0xCB] := by decide +kernel
/-- Flag and escape bytes are stuffed (R259). -/
theorem test_stuff : stuffBytes [0x7E, 0x01, 0x7D] = [0x7D, 0x5E, 0x01, 0x7D, 0x5D] := by decide +kernel
/-- No word spells a command: the table gives no bits. -/
theorem test_no_word : decodeTableWord 32 0 = none := rfl

/-! ### Waiting and quarantine -/

/-- The hypotheses of `Obligations.WaitingAndQuarantine` can be met. -/
theorem test_witness_WaitingAndQuarantine :
    (∃ s : State, s.clk.mgmtStopped = true) ∧
    (∃ (s : State) (r : Request), s.clk.mgmtStopped = false ∧ (s.mgt.fwReady = false ∨ s.coreServes r.cls = false) ∧ r ∉ s.mgt.channel) ∧
    (∃ (s : State) (i : SeatId) (v : Word) (off : Fin 1048576) (wire : List Bool), (s.seat i).quarantined = true ∧ off.val ≠ 0x00C ∧
      off.val ≠ 0x008 ∧ wireBytes wire = 0x02 :: leBytes 4 off.val ++ leBytes 4 v.toNat) ∧
    (∃ v : Word, v.getLsbD 0 = true ∧ v.getLsbD 1 = false) :=
  ⟨⟨{ up with clk.mgmtStopped := true }, rfl⟩,
   ⟨State.reset, ask ⟨0, 4, 0⟩ [], by decide +kernel⟩,
   ⟨{ up with mgt.seats := Vector.replicate 4 { quarantined := true } }, 3, 0, 0, [false, false, false, false, false, false, true, false] ++
     List.replicate 64 false, by decide +kernel⟩,
   ⟨1, by decide +kernel⟩⟩

/-- A pair whose option holds something is its parts. -/
theorem pair_of_isSome {α β : Type} (x : β) : (p : α × Option β) → p.2.isSome = true → p = (p.1, some (p.2.getD x))
  | (_, some _), _ => rfl

/-- A frame whose FCS has been computed over it, of a length and type that a MAC passes, is good to the MAC (R490). -/
theorem tvl_macOk (body : List Byte) (low : 60 ≤ body.length) (high : body.length ≤ 1514)
    (type : [0x8100, 0x88A8, 0x8808].contains (beAt body 12 2) = false) : (tvlOf (body ++ fcs32 body)).macOk = true := by
  have n : (fcs32 body).length = 4 := by simp [fcs32, leBytes]
  simp only [tvlOf, List.length_append, n, Nat.add_sub_cancel, List.take_left, List.drop_left, type]
  simp; omega
/-- What is good to the MAC is itself with that said. -/
theorem with_macOk (f : TvlFrame) (h : f.macOk = true) : f = { f with macOk := true } := by cases f; cases h; rfl

/-- Ports that have heard no master have none to forget. -/
theorem expireMasters_silent (s : State) (h : s.tim.ptp.toList.all (fun q => q.heard.isNone) = true) : expireMasters s = s := by
  have e : (vmap s.tim.ptp fun q => if q.heardAt + Config.announceTimeoutUs ≤ s.now then { q with heard := none } else q) = s.tim.ptp := by
    apply Vector.toList_inj.mp
    show List.map _ s.tim.ptp.toList = s.tim.ptp.toList
    refine (List.map_congr_left (g := id) fun q hq => ?_).trans (List.map_id _)
    have n : q.heard = none := by simpa using List.all_eq_true.mp h q hq
    by_cases t : q.heardAt + Config.announceTimeoutUs ≤ s.now
    · rw [if_pos t]; cases q; cases n; rfl
    · rw [if_neg t]; rfl
  unfold expireMasters
  rw [e]

/-! ### Hypotheses of the statements -/

/-- The hypotheses of `Obligations.WideReads` can be met. -/
theorem test_witness_WideReads :
    (∃ (s : State) (off : Fin 1048576) (offHi : Fin 1048576) (v : Nat), (s.clk.mgmtStopped = false) ∧ (offHi.val = off.val + 4) ∧ (livePair s off.val = some v) ∧ Open s off.val) ∧
    (∃ (s : State), (s.clk.mgmtStopped = false) ∧ (s.gateClosed { sec := 12, unit := 2 } = false)) :=
  ⟨⟨up, 0x40010, 0x40014, 0, by decide +kernel⟩,
   ⟨up, by decide +kernel⟩⟩

/-- The hypotheses of `Obligations.PairedReads` can be met. -/
theorem test_witness_PairedReads :
    ∃ (s : State) (i : SeatId) (off : Fin 1048576) (v : Nat), (s.clk.mgmtStopped = false) ∧ (isPcieSeat s.mapB i = true) ∧ (off.val % 8 = 0) ∧ (livePair s off.val = some v) ∧ Open s off.val ∧ Open s (off.val + 4) :=
  ⟨{ up with frm.replaced := 5000000000 }, 1, 0x90808, 5000000000, by decide +kernel⟩

/-- The hypotheses of `Obligations.RegisterWrites` can be met. -/
theorem test_witness_RegisterWrites :
    (∃ (s : State) (i : SeatId) (w : Fin 8) (off : Fin 1048576), (s.clk.mgmtStopped = false) ∧ ((s.seat i).quarantined = false) ∧ (off.val = 47168 + 4 * w.val)) ∧
    (∃ (s : State) (i : SeatId) (w : Fin 8) (off : Fin 1048576), (s.clk.mgmtStopped = false) ∧ ((s.seat i).quarantined = false) ∧ (off.val = 47232 + 4 * w.val)) ∧
    (∃ (s : State) (i : SeatId) (off : Fin 1048576), (Writes s i { sec := 9, unit := 0 }) ∧ (off.val = 589832)) ∧
    (∃ (s : State) (i : SeatId) (off : Fin 1048576), (s.clk.mgmtStopped = false) ∧ ((s.seat i).quarantined = false) ∧ (off.val % 4 ≠ 0 ∨ isMapped s i off.val = false) ∧ Open s off.val) ∧
    (∃ (s : State) (i : SeatId) (v : Word64) (off : Fin 1048576) (hi : Fin 1048576) (t : State), (isPcieSeat s.mapB i = true) ∧ (off.val % 8 = 0) ∧ (hi.val = off.val + 4) ∧ Open s off.val ∧ Open s hi.val ∧ Open t hi.val ∧ (exec (Instr.registerWrite i (WindowWrite.word off (BitVec.setWidth (32) v))) s = Host.Outcome.next t)) ∧
    (∃ (s : State) (i : SeatId) (v : Word) (off : Fin 1048576) (wire : List Bool), Open s off.val ∧ (seatIface s.mapB i = 2) ∧ (wireBytes wire = 2 :: leBytes (4) off.val ++ leBytes (4) (BitVec.toNat v))) ∧
    (∃ (s : State) (i : SeatId) (v : Word) (off : Fin 1048576) (a : BitVec 7) (bs : List Byte), Open s off.val ∧ (seatIface s.mapB i = 3) ∧ (a.toNat = 80 + s.mgt.seq.straps.toNat % 8) ∧ (bs = leBytes (4) off.val ++ leBytes (4) (BitVec.toNat v))) ∧
    (∃ (s : State) (i : SeatId) (wire : List Bool) (off : Fin 1048576) (a : Byte) (b : Byte) (c : Byte) (d : Byte) (e : Byte), (seatIface s.mapB i = 2) ∧ (livePair s off.val = none) ∧ (s.seat i).shadowPair ≠ some off.val ∧ (liveHigh s i off.val = none) ∧ (inUnits off.val = false) ∧ (s.clk.mgmtStopped = false) ∧ Open s off.val ∧ (wireBytes wire = 11 :: leBytes (4) off.val ++ [a, b, c, d, e])) :=
  ⟨⟨up, 3, 7, 0xB85C, by decide +kernel⟩,
   ⟨up, 3, 7, 0xB89C, by decide +kernel⟩,
   ⟨up, 0, 0x90008, by decide +kernel⟩,
   ⟨up, 1, 0xFFFFC, by decide +kernel⟩,
   ⟨up, 1, 0x500000003, 0x40, 0x44, (nextOf (Sys2Proof.Machine.exec (.registerWrite 1 (.word 0x40 3)) up)), by decide +kernel, by decide +kernel, by decide +kernel, by decide +kernel, by decide +kernel, by decide +kernel, rfl⟩,
   ⟨up, 2, 5, 0x90008, ((0x02 :: leBytes 4 0x90008 ++ leBytes 4 5).flatMap fun (b : Byte) => (List.range 8).map fun j => b.getLsbD (7 - j)), by decide +kernel⟩,
   ⟨up, 3, 5, 0x90008, 0x50, leBytes 4 0x90008 ++ leBytes 4 5, by decide +kernel⟩,
   ⟨up, 2, ((0x0B :: leBytes 4 0x40 ++ [1, 2, 3, 4, 5]).flatMap fun (b : Byte) => (List.range 8).map fun j => b.getLsbD (7 - j)), 0x40, 1, 2, 3, 4, 5, by decide +kernel⟩⟩

/-- The hypotheses of `Obligations.ClockSources` can be met. -/
theorem test_witness_ClockSources :
    (∃ (s : State) (n : Fin 10), (n.val < 4 ∨ 7 < n.val) ∧ (s.sourceReady n.val = false) ∧ (n.val = 3 → s.cfgB Param.oscXtalBEnable = true)) ∧
    (∃ (n : Fin 10), n.val < 4 ∨ 7 < n.val) ∧
    (∃ (s : State) (n : Fin 10), s.clk.counting.getLsbD n.val = true) ∧
    (∃ (s : State) (p : Fin 4), (s.sourceReady (s.pllReference p) = true) ∧ (s.clk.locked.getLsbD p.val = false) ∧ s.deviceState ≠ 4) ∧
    (∃ (s : State) (p : Fin 4), s.clk.locked.getLsbD p.val = true) ∧
    (∃ (s : State) (n : Fin 10), (n.val < 4 ∨ 7 < n.val) ∧ (s.disarmed n = false) ∧ (s.clk.failed.getLsbD n.val = false)) :=
  ⟨⟨State.reset, 9, by decide +kernel⟩,
   ⟨9, by decide +kernel⟩,
   ⟨{ State.reset with clk.counting := 0x3FF }, 9, by decide +kernel⟩,
   ⟨{ State.reset with clk.ready := 0x3FF }, 0, by decide +kernel⟩,
   ⟨{ State.reset with clk.locked := 0xF }, 0, by decide +kernel⟩,
   ⟨{ State.reset with clk.ready := 0x3FF }, 2, by decide +kernel⟩⟩

/-- The hypotheses of `Obligations.ClockCommands` can be met. -/
theorem test_witness_ClockCommands :
    (∃ (s : State) (m : Fin 3) (src : Bool) (r : Request), (s.clk.muxes[m].sel = !src) ∧ (s.sourceReady (muxSource m src).val = true) ∧ Admitted s r ∧ (r.target = { sec := 2, unit := 0 }) ∧ (r.payload = [BitVec.ofNat (8) m.val, BitVec.ofNat (8) (bit src)]) ∧ (s.clk.muxes[m].switchTo = none) ∧ (m.val = 1 → src = true → s.cfg Param.rslXtalBHz % 1000000 = 0)) ∧
    (∃ (s : State) (m : Fin 3) (src : Bool), (s.clk.muxes[m].sel = !src) ∧ (s.sourceReady (muxSource m src).val = true) ∧ (s.clk.muxes[m].switchTo = some src)) ∧
    (∃ (s : State) (p : Path), s.clk.gateWait.contains p = true) :=
  ⟨⟨{ up with clk.ready := 0x3FF }, 2, true, ask ⟨2, 0, 0⟩ [2, 1], by decide +kernel⟩,
   ⟨{ up with clk.ready := 0x3FF, clk.muxes := Vector.replicate 3 { switchTo := some true } }, 1, true, by decide +kernel⟩,
   ⟨{ up with clk.gateWait := [⟨6, 2, 0⟩] }, ⟨6, 2, 0⟩, by decide +kernel⟩⟩

/-- The hypotheses of `Obligations.MemoryFaults` can be met. -/
theorem test_witness_MemoryFaults :
    (∃ (s : State) (g : Fin 6) (mask : Nat), g.val ≠ 2 ∧ g.val ≠ 3 ∧ mask ≠ 0 ∧ (mask < 2 ^ 79) ∧ (maskWeight mask ≤ 2) ∧ (s.mem.flipsOf g s.mem.scrubPos[g] = 0) ∧ (g.val = 0 → s.mem.isRetired (pageOf (8 * s.mem.scrubPos[g])) = false)) ∧
    (∃ (s : State) (word : Nat) (mask : Nat), (word < groupWords 3) ∧ (mask < 2 ^ 79) ∧ (maskWeight mask = 3) ∧ (s.mem.flipsOf 3 word = 0)) ∧
    (∃ (s : State) (r : Request) (a : Nat) (b : Nat), Admitted s r ∧ (r.target = { sec := 4, unit := 1 }) ∧ (a % 8 = 0) ∧ (a < bulkSize) ∧ (pmPages ≤ pageOf a) ∧ (s.mem.isRetired (pageOf a) = false) ∧ (b ≤ 78) ∧ (r.payload = leBytes (4) a ++ [BitVec.ofNat (8) b, 255, 255])) ∧
    (∃ (s : State) (i : SeatId), Writes s i { sec := 4, unit := 1 }) ∧
    (∃ (s : State) (r : Request) (bank : Bool) (n : Nat), Admitted s r ∧ (r.target = { sec := 4, unit := 0 }) ∧ (n < if bank = true then 64 else 8192) ∧ (∀ (p : Nat), p ∈ (Retiring.mk bank n).pages → pmPages ≤ p) ∧ (r.payload = leBytes (2) (bit bank) ++ leBytes (2) n)) ∧
    (∃ (s : State) (x : Retiring), List.find? s.mayRetire s.mem.retiring = some x) :=
  ⟨⟨up, 5, 3, by decide +kernel⟩,
   ⟨up, 0, 7, by decide +kernel⟩,
   ⟨up, ask ⟨4, 1, 0⟩ ([0xF8, 0xFF, 0xFF, 0x01] ++ [78, 0xFF, 0xFF]), 0x1FFFFF8, 78, by decide +kernel⟩,
   ⟨up, 0, by decide +kernel⟩,
   ⟨up, ask ⟨4, 0, 0⟩ [0, 0, 0xC0, 0x06], false, 1728, by decide +kernel⟩,
   ⟨{ up with mem.retiring := [⟨true, 20⟩] }, ⟨true, 20⟩, by decide +kernel⟩⟩

/-- The hypotheses of `Obligations.SpillQueues` can be met. -/
theorem test_witness_SpillQueues :
    (∃ (s : State) (q : Fin 24) (i : SeatId), (∀ (w : Nat), s.mem.flipsOf 0 w = 0) ∧ Writes s i (queuePath q) ∧ (hwProduces q = false) ∧ (s.mem.queues[q].dropping = false) ∧ (s.mem.queues[q].count < s.queueCapacity q)) ∧
    (∃ (s : State) (q : Fin 24) (i : SeatId) (w : SpqWord) (rest : List SpqWord), (∀ (w : Nat), s.mem.flipsOf 0 w = 0) ∧ (s.clk.mgmtStopped = false) ∧ (s.owns i (queuePath q) = true) ∧ (s.resetRequired (queuePath q) = false) ∧ (s.gateClosed (queuePath q) = false) ∧ (hwConsumes q = false) ∧ (s.mem.queues[q].words = w :: rest)) ∧
    (∃ (s : State) (q : Fin 24) (i : SeatId) (n : Nat), (∀ (w : Nat), s.mem.flipsOf 0 w = 0) ∧ Writes s i (queuePath q) ∧ (hwConsumes q = false) ∧ (s.mem.queues[q].packetLength = some n)) ∧
    (∃ (s : State) (q : Fin 24) (ds : List Word64), (∀ (w : Nat), s.mem.flipsOf 0 w = 0) ∧ (hwProduces q = true) ∧ (s.hwStops q = false) ∧ (s.mem.queues[q].dropping = false) ∧ (ds.length + 1 + s.mem.queues[q].count ≤ s.queueCapacity q)) ∧
    (∃ (s : State) (q : Fin 24) (n : Nat), (∀ (w : Nat), s.mem.flipsOf 0 w = 0) ∧ (hwConsumes q = true) ∧ (s.hwStops q = false) ∧ (s.mem.queues[q].packetLength = some n)) ∧
    (∃ (s : State), ∀ (w : Nat), s.mem.flipsOf 0 w = 0) :=
  ⟨⟨up, 4, 0, fun _ => rfl, by decide +kernel, by decide +kernel, by decide +kernel, by decide +kernel⟩,
   ⟨{ up with mem.queues := Vector.replicate 24 { head := [⟨7, true⟩] } }, 9, 0, ⟨7, true⟩, [], fun _ => rfl, by decide +kernel, by decide +kernel, by decide +kernel, by decide +kernel, by decide +kernel, by decide +kernel⟩,
   ⟨{ up with mem.queues := Vector.replicate 24 { head := [⟨7, false⟩], region := [⟨7, true⟩], tail := [⟨7, true⟩] } }, 9, 0, 2, fun _ => rfl, by decide +kernel, by decide +kernel, by decide +kernel⟩,
   ⟨up, 1, [1, 2], fun _ => rfl, by decide +kernel, by decide +kernel, by decide +kernel, by decide +kernel⟩,
   ⟨{ up with mem.queues := Vector.replicate 24 { head := [⟨7, false⟩], region := [⟨7, true⟩], tail := [⟨7, true⟩] } }, 10, 2, fun _ => rfl, by decide +kernel, by decide +kernel, by decide +kernel⟩,
   ⟨{ up with mem.queues := Vector.replicate 24 { head := [⟨7, false⟩], region := [⟨7, true⟩], tail := [⟨7, true⟩] } }, fun _ => rfl⟩⟩

/-- The hypotheses of `Obligations.SliceRotation` can be met. -/
theorem test_witness_SliceRotation :
    (∃ (s : State) (ch : Fin 4) (grp : Fin 12) (i : Fin 13), (s.calibrating = true) ∧ (s.cnv.adcs[ch].running = true) ∧ (s.cnv.forcedAt = none) ∧ ((s.group ch grp).resting = some i.val) ∧ ((s.group ch grp).phase = RotationPhase.idle) ∧ (0 < (s.group ch grp).passLeft)) ∧
    (∃ (s : State) (ch : Fin 4) (grp : Fin 12) (i : Fin 13), (s.calibrating = true) ∧ (s.cnv.adcs[ch].running = true) ∧ (s.cnv.forcedAt = none) ∧ ((s.group ch grp).resting = some i.val) ∧ ((s.group ch grp).phase = RotationPhase.idle) ∧ ((s.group ch grp).passLeft = 0) ∧ (s.cfgB Param.calBackgroundEnable = true) ∧ (s.cnv.forcedPass = false)) ∧
    (∃ (s : State) (ch : Fin 4) (grp : Fin 12) (i : Fin 13) (x : CalResult) (good : Bool), (s.calibrating = true) ∧ (s.cnv.adcs[ch].running = true) ∧ (s.cnv.forcedAt = none) ∧ ((s.group ch grp).resting = some i.val) ∧ ((s.group ch grp).phase = RotationPhase.calibrating) ∧ (good = if s.cnv.adcs[ch].full = true then plausible ((s.group ch grp).slice i.val).trims x.trims true else x.converged)) ∧
    (∃ (s : State) (ch : Fin 4) (grp : Fin 12) (i : Fin 13), (s.calibrating = true) ∧ (s.cnv.adcs[ch].running = true) ∧ (s.cnv.forcedAt = none) ∧ ((s.group ch grp).resting = some i.val) ∧ ((s.group ch grp).phase = RotationPhase.calibrating) ∧ (s.cnv.adcs[ch].full = false)) ∧
    (∃ (s : State) (ch : Fin 4) (grp : Fin 12) (i : Fin 13) (old : Trims), (s.calibrating = true) ∧ (s.cnv.adcs[ch].running = true) ∧ (s.cnv.forcedAt = none) ∧ ((s.group ch grp).resting = some i.val) ∧ ((s.group ch grp).phase = RotationPhase.parallel old)) :=
  ⟨⟨rot .idle 1, 3, 11, 6, by decide +kernel⟩,
   ⟨rot .idle 0, 3, 11, 6, by decide +kernel⟩,
   ⟨rot .calibrating 0, 3, 11, 6, ⟨{ offset := 3 }, true⟩, true, by decide +kernel⟩,
   ⟨rot .calibrating 0, 3, 11, 6, by decide +kernel⟩,
   ⟨rot (.parallel {}) 0, 3, 11, 6, {}, by decide +kernel⟩⟩

/-- The hypotheses of `Obligations.ConverterCalibration` can be met. -/
theorem test_witness_ConverterCalibration :
    (∃ (s : State), (s.calibrating = true) ∧ (s.cnv.forcedPass = false) ∧ ((s.cfgN Param.calTempThresholdCX10).cast * 8 < 10 * (s.pwr.temps[0] - s.cnv.refTemp).natAbs.cast)) ∧
    (∃ (s : State) (i : SeatId), (s.calibrating = true) ∧ (s.cnv.forcedPass = false) ∧ (Writes s i { sec := 5, unit := 9 })) ∧
    (∃ (s : State) (c : Fin 4) (g : Fin 12) (rest : List (Fin 4 × Fin 12)), (s.calibrating = true) ∧ (s.cnv.forcedPass = true) ∧ (s.rotationsEnded = true) ∧ (s.cnv.forcedAt = none) ∧ (s.cfgB Param.calForcedStepEnable = true) ∧ (s.exhausted = (c, g) :: rest)) ∧
    (∃ (s : State), (s.calibrating = true) ∧ (s.cnv.forcedPass = true) ∧ (s.rotationsEnded = true) ∧ (s.cnv.forcedAt = none) ∧ (s.dacOwed = false) ∧ (s.cfgB Param.calForcedStepEnable = true) ∧ (s.exhausted = []) ∧ (s.cnv.passQueued = false)) ∧
    (∃ (s : State) (n : Nat), (s.calibrating = true) ∧ (s.obsServes = true) ∧ (s.obsRunning = false) ∧ (0 < s.cnv.dacPassLeft) ∧ (s.unmutedFrom (16 - s.cnv.dacPassLeft) = some n)) ∧
    (∃ (s : State) (n : Nat), (s.calibrating = true) ∧ (s.obsServes = true) ∧ (s.obsRunning = false) ∧ (0 < s.cnv.dacPassLeft) ∧ (s.unmutedFrom (16 - s.cnv.dacPassLeft) = some n) ∧ (s.cnv.dacPassBegun = false)) ∧
    (∃ (s : State) (n : Nat), (s.calibrating = true) ∧ (s.obsServes = true) ∧ (s.obsRunning = false) ∧ (s.cnv.dacPassLeft = 0) ∧ (s.cfgB Param.calBackgroundEnable = true) ∧ (s.unmutedFrom s.cnv.obsNext = some n)) ∧
    (∃ (s : State) (x : CalResult) (old : Trims), (s.obsRunning = true) ∧ (Option.map SubDac.trims s.cnv.dacs[dacOf s.cnv.obsSub].subs[s.cnv.obsSub % 4]? = some old) ∧ ((if s.cnv.dacs[dacOf s.cnv.obsSub].full = true then plausible old x.trims false else x.converged) = true)) ∧
    (∃ (s : State) (ch : Fin 4), Reads s { sec := 5, unit := ch.val }) :=
  ⟨⟨{ up with pwr.temps := Vector.replicate 8 41 }, by decide +kernel⟩,
   ⟨up, 0, by decide +kernel⟩,
   ⟨forced { full := true, running := true, groups := Vector.replicate 12 { retired := some 3 } }, 0, 0, (forced { full := true, running := true, groups := Vector.replicate 12 { retired := some 3 } }).exhausted.tail, by decide +kernel⟩,
   ⟨forced { running := true }, by decide +kernel⟩,
   ⟨{ up with cnv.dacPassLeft := 1, cnv.obsNext := 5 }, 15, by decide +kernel⟩,
   ⟨{ up with cnv.dacPassLeft := 16, cnv.obsNext := 5 }, 0, by decide +kernel⟩,
   ⟨setP Param.calBackgroundEnable 1 { up with cnv.obsNext := 15 }, 15, by decide +kernel⟩,
   ⟨{ up with cnv.obsActive := true, cnv.obsSub := 15 }, ⟨{ gain := 4 }, true⟩, {}, by decide +kernel⟩,
   ⟨{ up with cnv.adcs := Vector.replicate 4 { clips := 9 } }, 3, by decide +kernel⟩⟩

/-- The hypotheses of `Obligations.AcquisitionSteps` can be met. -/
theorem test_witness_AcquisitionSteps :
    (∃ (s : State), s.cfgB Param.cdeIqCorrect = true) ∧
    (∃ (s : State), (s.rxd.rxState = RxState.idle) ∧ (s.signalPresent = true) ∧ (s.cfgN Param.cdeCdMode = 2 → s.rxd.seedValid = true)) ∧
    (∃ (s : State), s.rxd.rxState = RxState.freq) ∧
    (∃ (s : State) (ms : List Nat) (i : Nat), (bestOf ms = i) ∧ (s.rxd.rxState = RxState.cdScan) ∧ (exceedsBy (24) (ms.getD i (0)) (medianOf ms) = true)) ∧
    (∃ (s : State) (ms : List Nat) (i : Nat), (bestOf ms = i) ∧ (s.rxd.rxState = RxState.cdScan) ∧ (exceedsBy (24) (ms.getD i (0)) (medianOf ms) = false)) ∧
    (∃ (s : State) (ms : List Nat) (i : Nat), (bestOf ms = i) ∧ (s.rxd.rxState = RxState.cdRefine) ∧ (s.rxd.acqMode = 1)) ∧
    (∃ (s : State) (ms : List Nat) (i : Nat), (bestOf ms = i) ∧ (s.rxd.rxState = RxState.cdRefine) ∧ (s.rxd.acqMode = 2)) ∧
    (∃ (s : State) (since : Nat), (s.rxd.powerAt = some since) ∧ (s.rxd.rxState = RxState.idle) ∧ (s.signalPresent = true) ∧ (s.cfg Param.cdeCdMode = 2) ∧ (s.rxd.seedValid = false)) ∧
    (∃ (s : State), (s.rxd.acquiring = true) ∧ (s.rxd.stored = false)) ∧
    (∃ (s : State) (offset : Int), (offset.natAbs ≤ 20000) ∧ (s.rxd.rxState = RxState.timing)) ∧
    (∃ (s : State), s.rxd.rxState = RxState.polBlind) ∧
    (∃ (s : State), (4 ≤ s.rxd.headers) ∧ (s.rxd.sfLock = false) ∧ (s.rxd.los = false) ∧ (s.rxd.rxState = RxState.carrier)) ∧
    (∃ (s : State), s.rxd.rxState = RxState.polRd) :=
  ⟨⟨up, by decide +kernel⟩,
   ⟨sig up, by decide +kernel⟩,
   ⟨{ sig up with rxd.rxState := .freq }, by decide +kernel⟩,
   ⟨{ sig up with rxd.rxState := .cdScan, rxd.acqMode := 1 }, List.replicate 9 10 ++ [1000] ++ List.replicate 9 10, 9, by decide +kernel⟩,
   ⟨{ sig up with rxd.rxState := .cdScan, rxd.acqMode := 1 }, List.replicate 9 10, 0, by decide +kernel⟩,
   ⟨{ sig up with rxd.rxState := .cdRefine, rxd.acqMode := 1 }, List.replicate 9 10 ++ [1000] ++ List.replicate 9 10, 9, by decide +kernel⟩,
   ⟨{ sig up with rxd.rxState := .cdRefine, rxd.acqMode := 2 }, List.replicate 8 10 ++ [1000] ++ List.replicate 8 10, 8, by decide +kernel⟩,
   ⟨setP Param.cdeCdMode 2 { sig up with rxd.seedValid := false }, 0, by decide +kernel⟩,
   ⟨{ sig up with rxd.rxState := .freq }, by decide +kernel⟩,
   ⟨{ sig up with rxd.rxState := .timing }, 20000, by decide +kernel⟩,
   ⟨{ sig up with rxd.rxState := .polBlind }, by decide +kernel⟩,
   ⟨{ sig up with rxd.rxState := .carrier, rxd.headers := 4 }, by decide +kernel⟩,
   ⟨{ sig up with rxd.rxState := .polRd }, rfl⟩⟩

/-- The hypotheses of `Obligations.ReceiverStates` can be met. -/
theorem test_witness_ReceiverStates :
    (∃ (s : State) (x : Nat), (900 < x) ∧ (s.rxd.stage = PmxStage.cma)) ∧
    (∃ (s : State) (g : CodewordGroup), (s.rxInterop = false) ∧ (s.deviceState < 2) ∧ (s.rxd.stage = PmxStage.da) ∧ (g.sync = false ∨ s.cod.returnBad = true ∨ s.cod.halted = true ∨ s.cod.sync = false)) ∧
    (∃ (s : State) (first : Nat) (last : Nat) (g : CodewordGroup), (s.rxInterop = false) ∧ (s.deviceState < 2) ∧ (s.rxd.stage = PmxStage.da) ∧ (g.sync = true) ∧ (s.cod.halted = false) ∧ (s.cod.sync = true) ∧ (s.cod.returnBad = false) ∧ (s.spansChange first last = true)) ∧
    (∃ (s : State) (first : Nat) (last : Nat) (unsat : Nat) (checks : Nat) (g : CodewordGroup), (s.rxInterop = false) ∧ (s.deviceState < 2) ∧ (s.rxd.stage = PmxStage.da) ∧ (g.sync = true) ∧ (s.cod.halted = false) ∧ (s.cod.sync = true) ∧ (s.cod.returnBad = false) ∧ (s.spansChange first last = false) ∧ (0 < checks) ∧ (s.cfgN Param.pmxDaUnreliablePpm < roundFree (1000000 * unsat) checks) ∧ (s.cfgN Param.pmxDaFallbackGroups ≤ s.rxd.bad + 1)) ∧
    (∃ (s : State) (first : Nat) (last : Nat) (unsat : Nat) (checks : Nat) (g : CodewordGroup), (s.rxInterop = false) ∧ (s.deviceState < 2) ∧ (s.rxd.stage = PmxStage.da) ∧ (g.sync = true) ∧ (s.cod.halted = false) ∧ (s.cod.sync = true) ∧ (s.cod.returnBad = false) ∧ (s.spansChange first last = false) ∧ (checks = 0 ∨ roundFree (1000000 * unsat) checks ≤ s.cfgN Param.pmxDaUnreliablePpm)) ∧
    (∃ (s : State) (residual : Int), (0 < residual) ∧ (s.cfgB Param.cdeTrackEnable = true) ∧ (s.rxd.rxState = RxState.locked) ∧ ((s.rxd.cdValue + 1 - s.rxd.cdAcquired).natAbs ≤ s.cfgN Param.cdeTrackLimitPsNm)) ∧
    (∃ (s : State), s.rxd.trcLocked = true) ∧
    (∃ (s : State), s.rxd.freqLock = true ∨ s.rxd.phaseLock = true) ∧
    (∃ (s : State) (power : Int), (power < 50 * s.cfg Param.cdeLosThresholdDbfsX2) ∧ (s.rxd.los = false) ∧ (s.lod.rxBeacon = false) ∧ (s.deviceState < 2)) ∧
    (∃ (s : State), (s.rxd.los = true) ∧ (s.rxd.rxState = RxState.hold) ∧ (s.rxd.holdExpired = false)) ∧
    (∃ (s : State), (s.rxd.rxState = RxState.hold) ∧ (s.rxd.holdExpired = true) ∧ (s.signalPresent = true) ∧ (s.rxd.exitP2 = false)) ∧
    (∃ (s : State), s.rxd.warmRun = true ∨ s.rxd.resumed = true) ∧
    (∃ (s : State) (r : Request), Admitted s r ∧ (r.target = { sec := 6, unit := 0 }) ∧ (r.payload = [1] ∨ r.payload = [0] ∧ s.rxd.stored = false)) ∧
    (∃ (s : State) (r : Request), Admitted s r ∧ (r.target = { sec := 6, unit := 0 }) ∧ (r.payload = [0]) ∧ (s.rxd.stored = true)) :=
  ⟨⟨{ sig up with rxd.stage := .cma }, 901, by decide +kernel⟩,
   ⟨{ sig up with rxd.stage := .da, cod.sync := true, rxd.bad := 100 }, { sync := false }, by decide +kernel⟩,
   ⟨{ sig up with rxd.stage := .da, cod.sync := true, rxd.bad := 100, rxd.changeSfs := [4] }, 3, 4, { sync := true }, by decide +kernel⟩,
   ⟨{ sig up with rxd.stage := .da, cod.sync := true, rxd.bad := 100 }, 3, 4, 100, 100, { sync := true }, by decide +kernel⟩,
   ⟨{ sig up with rxd.stage := .da, cod.sync := true, rxd.bad := 100 }, 3, 4, 0, 100, { sync := true, decisions := [{ iterations := [[false, true, true, false]] }] }, by decide +kernel⟩,
   ⟨{ sig up with rxd.rxState := .locked, rxd.cdValue := 5, rxd.cdAcquired := 5 }, 1, by decide +kernel⟩,
   ⟨{ sig up with rxd.trcLocked := true, rxd.rxState := .locked, rxd.stored := true }, by decide +kernel⟩,
   ⟨{ sig up with rxd.freqLock := true, rxd.rxState := .locked, rxd.stored := true }, by decide +kernel⟩,
   ⟨{ sig up with rxd.rxState := .locked, rxd.stored := true }, -10000, by decide +kernel⟩,
   ⟨{ sig up with rxd.rxState := .hold, rxd.los := true, rxd.stored := true }, by decide +kernel⟩,
   ⟨{ sig up with rxd.rxState := .hold, rxd.holdExpired := true, rxd.stored := true }, by decide +kernel⟩,
   ⟨{ sig up with rxd.rxState := .timing, rxd.warmRun := true, rxd.stored := true }, by decide +kernel⟩,
   ⟨up, ask ⟨6, 0, 0⟩ [1], by decide +kernel⟩,
   ⟨{ sig up with rxd.rxState := .locked, rxd.stored := true, rxd.sfLock := true, rxd.trcLocked := true }, ask ⟨6, 0, 0⟩ [0], by decide +kernel⟩⟩

/-- The hypotheses of `Obligations.SuperframeHeaders` can be met. -/
theorem test_witness_SuperframeHeaders :
    (∃ (s : State), (s.txd.counting = true) ∧ (s.coreOff = false) ∧ (s.rxd.sfLock = true) ∧ (s.mgt.commits = []) ∧ (s.txd.pending = none) ∧ (∀ (c : ChannelId), (s.channel c).pending = none)) ∧
    (∃ (s : State) (p : PendingRate), (s.txd.counting = true) ∧ (s.coreOff = false) ∧ (s.rxd.sfLock = true) ∧ (s.mgt.commits = []) ∧ (∀ (c : ChannelId), (s.channel c).pending = none) ∧ (s.txd.pending = some p) ∧ (p.stage = RateStage.placed) ∧ (s.txd.sf < p.s0) ∧ (p.s0 < p.change)) ∧
    (∃ (s : State) (p : PendingRate), (s.txd.counting = true) ∧ (s.coreOff = false) ∧ (s.rxd.sfLock = true) ∧ (s.mgt.commits = []) ∧ (∀ (c : ChannelId), (s.channel c).pending = none) ∧ (s.txd.pending = some p) ∧ (p.stage = RateStage.announced) ∧ (s.txd.sf < p.change)) ∧
    (∃ (s : State) (c : ChannelId) (p : KeyChange), (s.txd.counting = true) ∧ (s.coreOff = false) ∧ (s.rxd.sfLock = true) ∧ (s.mgt.commits = []) ∧ (s.txd.pending = none) ∧ (∀ (d : ChannelId), d ≠ c → (s.channel d).pending = none) ∧ ((s.channel c).pending = some p) ∧ (s.txd.sf < p.sf)) ∧
    (∃ (s : State) (wa : Nat) (wb : Nat) (a : WordA) (b : WordB), (s.deviceState < 2) ∧ (s.rxd.los = false) ∧ (s.rxInterop = false) ∧ (s.rxd.sfLock = true) ∧ (s.rxd.adopted = false) ∧ (WordA.ofNat wa = a) ∧ (WordB.ofNat wb = b) ∧ (a.version = 1)) ∧
    (∃ (s : State) (x : FormatChange), (s.rxd.announced = some x) ∧ (x.sf ≤ s.rxd.sf)) :=
  ⟨⟨ln up, by decide +kernel⟩,
   ⟨{ ln up with txd.pending := some (rateOn .placed) }, rateOn .placed, by decide +kernel⟩,
   ⟨{ ln up with txd.pending := some (rateOn .announced) }, rateOn .announced, by decide +kernel⟩,
   ⟨{ ln up with sec.channels := (Vector.replicate 64 {}).set 63 { pending := some ⟨true, 11, 0⟩ } }, 63, ⟨true, 11, 0⟩, by decide +kernel⟩,
   ⟨ln up, (WordA.toNat ⟨7, 448, 1, 32, true, 1⟩), (WordB.toNat ⟨9, 500, 2, 30, 3⟩), ⟨7, 448, 1, 32, true, 1⟩, ⟨9, 500, 2, 30, 3⟩, by decide +kernel⟩,
   ⟨{ ln up with rxd.announced := some ⟨20, ⟨30, 500, 2⟩⟩ }, ⟨20, ⟨30, 500, 2⟩⟩, by decide +kernel⟩⟩

/-- The hypotheses of `Obligations.RateNegotiation` can be met. -/
theorem test_witness_RateNegotiation :
    (∃ (s : State) (m : LodMessage) (p : Proposal), (s.mgt.restarting = false) ∧ (List.find? (fun m => m.type == 33) s.lod.inbox = some m) ∧ (s.lod.identified = true) ∧ (s.mgt.waiting = []) ∧ (s.txd.proposal = some p) ∧ (u16At m.payload (0) = p.changeId) ∧ (byteAt m.payload (2) = 0)) ∧
    (∃ (s : State) (m : LodMessage) (p : Proposal), (s.mgt.restarting = false) ∧ (List.find? (fun m => m.type == 33) s.lod.inbox = some m) ∧ (s.lod.identified = true) ∧ (s.mgt.waiting = []) ∧ (s.txd.proposal = some p) ∧ (u16At m.payload (0) = p.changeId) ∧ byteAt m.payload (2) ≠ 0) ∧
    (∃ (s : State) (m : LodMessage), (s.mgt.restarting = false) ∧ (List.find? (fun m => m.type == 33) s.lod.inbox = some m) ∧ (s.lod.identified = false)) ∧
    (∃ (s : State) (m : LodMessage), (s.mgt.restarting = false) ∧ (List.find? (fun m => m.type == 32) s.lod.inbox = some m) ∧ (s.lod.identified = true)) ∧
    (∃ (s : State) (m : LodMessage), (s.mgt.restarting = false) ∧ (List.find? (fun m => m.type == 32) s.lod.inbox = some m) ∧ (s.lod.identified = false)) ∧
    (∃ (s : State) (p : Proposal), (s.txd.proposal = some p) ∧ (s.mgt.waiting = [])) ∧
    (∃ (s : State) (a : Accepted) (rest : List Accepted), s.txd.accepted = a :: rest) ∧
    (∃ (s : State) (r : Request) (p : PendingRate), Admitted s r ∧ (r.target = { sec := 7, unit := 0 }) ∧ (r.payload = []) ∧ (s.txd.pending = some p) ∧ (p.stage = RateStage.resizingDown ∨ p.stage = RateStage.placed) ∧ (∀ (c : Commit), c ∈ s.mgt.commits → c.id = p.commit → c.landedInPart = false)) :=
  ⟨⟨{ ln up with txd.proposal := some ⟨5, ⟨30, 500, 2⟩, 0⟩, lod.identified := true, lod.inbox := [{ type := 0x21, payload := [5, 0, 0, 0] }] }, { type := 0x21, payload := [5, 0, 0, 0] }, ⟨5, ⟨30, 500, 2⟩, 0⟩, by decide +kernel⟩,
   ⟨{ ln up with txd.proposal := some ⟨5, ⟨30, 500, 2⟩, 0⟩, lod.identified := true, lod.inbox := [{ type := 0x21, payload := [5, 0, 3, 0] }] }, { type := 0x21, payload := [5, 0, 3, 0] }, ⟨5, ⟨30, 500, 2⟩, 0⟩, by decide +kernel⟩,
   ⟨{ ln up with lod.inbox := [{ type := 0x21, payload := [5, 0, 3, 0] }] }, { type := 0x21, payload := [5, 0, 3, 0] }, by decide +kernel⟩,
   ⟨{ ln up with lod.identified := true, lod.inbox := [{ type := 0x20, payload := [5, 0, 0, 0, 1, 2, 3, 4, 5] }] }, { type := 0x20, payload := [5, 0, 0, 0, 1, 2, 3, 4, 5] }, by decide +kernel⟩,
   ⟨{ ln up with lod.inbox := [{ type := 0x20, payload := [5, 0, 0, 0, 1, 2, 3, 4, 5] }] }, { type := 0x20, payload := [5, 0, 0, 0, 1, 2, 3, 4, 5] }, by decide +kernel⟩,
   ⟨{ ln up with txd.proposal := some ⟨5, ⟨30, 500, 2⟩, 0⟩ }, ⟨5, ⟨30, 500, 2⟩, 0⟩, by decide +kernel⟩,
   ⟨{ ln up with txd.accepted := [⟨5, ⟨30, 500, 2⟩, 0⟩] }, ⟨5, ⟨30, 500, 2⟩, 0⟩, [], by decide +kernel⟩,
   ⟨{ ln up with txd.pending := some (rateOn .placed), txd.reserved := [⟨12, .rate⟩] }, ask ⟨7, 0, 0⟩ [], rateOn .placed, by decide +kernel⟩⟩

/-- The hypotheses of `Obligations.SignalCoefficients` can be met. -/
theorem test_witness_SignalCoefficients :
    (∃ (s : State), Reads s { sec := 7, unit := 3 }) ∧
    (∃ (s : State) (r : Request), Admitted s r ∧ (r.target = { sec := 6, unit := 2 }) ∧ (r.payload.length % 12 = 0) ∧ (12 ≤ r.payload.length) ∧ (r.payload.length ≤ 996) ∧ ((s.seat r.seat).nleSlate.length + r.payload.length / 12 ≤ 256)) ∧
    (∃ (s : State) (r : Request), Admitted s r ∧ (r.target = { sec := 6, unit := 2 }) ∧ (r.payload.length = 2)) ∧
    (∃ (s : State) (r : Request), Admitted s r ∧ (r.target = { sec := 7, unit := 3 }) ∧ (r.payload.length % 8 = 0) ∧ (8 ≤ r.payload.length) ∧ (r.payload.length ≤ 768) ∧ ((records (8) r.payload).all dpdRecordOk = true)) ∧
    (∃ (s : State) (r : Request), Admitted s r ∧ (r.target = { sec := 7, unit := 3 }) ∧ (r.payload = [])) :=
  ⟨⟨{ up with txd.dpdClips := 9 }, by decide +kernel⟩,
   ⟨up, ask ⟨6, 2, 0⟩ [1, 0, 2, 0, 3, 0, 0, 0, 4, 0, 0, 0], by decide +kernel⟩,
   ⟨up, ask ⟨6, 2, 0⟩ [0, 0], by decide +kernel⟩,
   ⟨up, ask ⟨7, 3, 0⟩ [0, 1, 0, 0, 5, 0, 0, 0], by decide +kernel⟩,
   ⟨up, ask ⟨7, 3, 0⟩ [], by decide +kernel⟩⟩

/-- The hypotheses of `Obligations.CommitRequests` can be met. -/
theorem test_witness_CommitRequests :
    (∃ (s : State) (r : Request) (targets : List Path) (all : SlateSet) (ch : SlateSet), Served s r ∧ (r.target = { sec := 0, unit := 4 }) ∧ ((s.seat r.seat).slateTargets = targets) ∧ ((targets.any fun p => !p.isTarget) = false) ∧ (targets.any s.resetRequired = false) ∧ (List.find? (fun p => !s.owns r.seat p) targets = none) ∧ ((s.seat r.seat).slatesFor targets = all) ∧ (all.empty = false) ∧ (s.withStored.changes all = ch) ∧ (ch.empty = true) ∧ (r.payload = [])) ∧
    (∃ (s : State) (r : Request) (targets : List Path) (all : SlateSet) (ch : SlateSet), Served s r ∧ (r.target = { sec := 0, unit := 4 }) ∧ ((s.seat r.seat).slateTargets = targets) ∧ ((targets.any fun p => !p.isTarget) = false) ∧ (targets.any s.resetRequired = false) ∧ (List.find? (fun p => !s.owns r.seat p) targets = none) ∧ ((s.seat r.seat).slatesFor targets = all) ∧ (all.empty = false) ∧ (s.withStored.changes all = ch) ∧ (ch.empty = true) ∧ (r.payload = leBytes (4) (0))) ∧
    (∃ (s : State) (r : Request) (targets : List Path) (all : SlateSet) (ch : SlateSet) (e : Evaluation), Served s r ∧ (r.target = { sec := 0, unit := 4 }) ∧ ((s.seat r.seat).slateTargets = targets) ∧ ((targets.any fun p => !p.isTarget) = false) ∧ (targets.any s.resetRequired = false) ∧ (List.find? (fun p => !s.owns r.seat p) targets = none) ∧ ((s.seat r.seat).slatesFor targets = all) ∧ (all.empty = false) ∧ (s.withStored.changes all = ch) ∧ (ch.empty = false) ∧ (firstUnowned s r.seat targets ch.recs = none) ∧ (s.txd.pending = none ∨ touchesPair ch.recs (1) = false) ∧ (commitRefusal all.recs ch.recs (takeRequest r s).withStored = none) ∧ (evaluate ch false (takeRequest r s).withStored = e) ∧ (e.undecided = false) ∧ (r.payload = [])) ∧
    (∃ (s : State) (r : Request) (targets : List Path) (all : SlateSet) (ch : SlateSet) (e : Evaluation), Served s r ∧ (r.target = { sec := 0, unit := 4 }) ∧ ((s.seat r.seat).slateTargets = targets) ∧ ((targets.any fun p => !p.isTarget) = false) ∧ (targets.any s.resetRequired = false) ∧ (List.find? (fun p => !s.owns r.seat p) targets = none) ∧ ((s.seat r.seat).slatesFor targets = all) ∧ (all.empty = false) ∧ (s.withStored.changes all = ch) ∧ (ch.empty = false) ∧ (firstUnowned s r.seat targets ch.recs = none) ∧ (s.txd.pending = none ∨ touchesPair ch.recs (1) = false) ∧ (commitRefusal all.recs ch.recs (takeRequest r s).withStored = none) ∧ (evaluate ch false (takeRequest r s).withStored = e) ∧ (e.undecided = false) ∧ (r.payload = leBytes (4) e.category) ∧ (e.category ≤ 2)) :=
  ⟨⟨slated 0, ask ⟨0, 4, 0⟩ [], ((slated 0).seat 0).slateTargets, (((slated 0).seat 0).slatesFor ((slated 0).seat 0).slateTargets), ((slated 0).withStored.changes (((slated 0).seat 0).slatesFor ((slated 0).seat 0).slateTargets)), by decide +kernel⟩,
   ⟨slated 0, ask ⟨0, 4, 0⟩ [0, 0, 0, 0], ((slated 0).seat 0).slateTargets, (((slated 0).seat 0).slatesFor ((slated 0).seat 0).slateTargets), ((slated 0).withStored.changes (((slated 0).seat 0).slatesFor ((slated 0).seat 0).slateTargets)), by decide +kernel⟩,
   ⟨slated 1, ask ⟨0, 4, 0⟩ [], ((slated 1).seat 0).slateTargets, (((slated 1).seat 0).slatesFor ((slated 1).seat 0).slateTargets), ((slated 1).withStored.changes (((slated 1).seat 0).slatesFor ((slated 1).seat 0).slateTargets)), (evaluate ((slated 1).withStored.changes (((slated 1).seat 0).slatesFor ((slated 1).seat 0).slateTargets)) false (slated 1)), by decide +kernel⟩,
   ⟨slated 1, ask ⟨0, 4, 0⟩ [0, 0, 0, 0], ((slated 1).seat 0).slateTargets, (((slated 1).seat 0).slatesFor ((slated 1).seat 0).slateTargets), ((slated 1).withStored.changes (((slated 1).seat 0).slatesFor ((slated 1).seat 0).slateTargets)), (evaluate ((slated 1).withStored.changes (((slated 1).seat 0).slatesFor ((slated 1).seat 0).slateTargets)) false (slated 1)), by decide +kernel⟩⟩

/-- The hypotheses of `Obligations.KeyPlacement` can be met. -/
theorem test_witness_KeyPlacement :
    ∃ (s : State) (r : Request) (i : Fin 128), Admitted s r ∧ (r.target = { sec := 10, unit := 1, inst := i.val }) ∧ (r.payload = leBytes (8) (0)) ∧ (s.cipherFused = false) ∧ ((s.slot i).usable = true) ∧ (s.txUse i = false) ∧ ((s.channel (slotChannel i)).pending = none) ∧ (s.channel (slotChannel i)).txEpoch ≠ some (16777215) ∧ (s.rxd.sfLock = true) :=
  ⟨{ keyed with txd.reserved := [⟨11, .rate⟩, ⟨12, .rate⟩] }, ask ⟨10, 1, 127⟩ [0, 0, 0, 0, 0, 0, 0, 0], 127, by decide +kernel⟩

/-- The hypotheses of `Obligations.ResizesAndCalendars` can be met. -/
theorem test_witness_ResizesAndCalendars :
    (∃ (s : State) (x : Resize) (rest : List Resize), (s.frm.resizes = x :: rest) ∧ (x.step = 0)) ∧
    (∃ (s : State) (c : Fin 64) (units : Nat), (s.rxInterop = false) ∧ (s.deviceState < 2) ∧ (s.canFollow c.val units = true) ∧ (s.frm.following ≠ some { client := c.val, to_ := units })) ∧
    (∃ (s : State) (c : Fin 64) (units : Nat), (s.rxInterop = false) ∧ (s.deviceState < 2) ∧ (s.canFollow c.val units = true) ∧ (s.frm.following = some { client := c.val, to_ := units })) ∧
    (∃ (s : State) (x : Resize) (rest : List Resize), s.frm.resizes = x :: rest) ∧
    (∃ (s : State) (c : Commit) (g : Fin 4) (gs : List Nat), (s.switchingCommit = some c) ∧ (c.plan = [CommitStage.calendar gs]) ∧ (s.hst.groups[g].switching = true)) ∧
    (∃ (s : State) (c : Commit) (g : Fin 4), (s.switchingCommit = some c) ∧ (s.hst.groups[g].switching = true)) :=
  ⟨⟨{ ln up with frm.resizes := [{ client := 3, from_ := 1, to_ := 2, commit := 0 }] }, { client := 3, from_ := 1, to_ := 2, commit := 0 }, [], by decide +kernel⟩,
   ⟨setP Param.mapClientType 6 (setP Param.mapUnits 2 { ln up with frm.txCapacity := 32 } 0 3) 0 3, 3, 3, by decide +kernel⟩,
   ⟨setP Param.mapClientType 6 (setP Param.mapUnits 2 { ln up with frm.txCapacity := 32, frm.following := some ⟨3, 3⟩ } 0 3) 0 3, 3, 3, by decide +kernel⟩,
   ⟨{ ln up with frm.resizes := [{ client := 3, from_ := 1, to_ := 2, commit := 0 }] }, { client := 3, from_ := 1, to_ := 2, commit := 0 }, [], by decide +kernel⟩,
   ⟨{ ln up with hst.groups := (Vector.replicate 4 {}).set 3 { switching := true }, mgt.commits := [oneCommit ⟨13, 17, 0⟩ .tx [] [.calendar [3]]] }, oneCommit ⟨13, 17, 0⟩ .tx [] [.calendar [3]], 3, [3], by decide +kernel⟩,
   ⟨{ ln up with hst.groups := (Vector.replicate 4 {}).set 3 { switching := true }, mgt.commits := [oneCommit ⟨13, 17, 0⟩ .tx [] [.calendar [3]]] }, oneCommit ⟨13, 17, 0⟩ .tx [] [.calendar [3]], 3, by decide +kernel⟩⟩

/-- The hypotheses of `Obligations.CommitBoundaryLands` can be met. -/
theorem test_witness_CommitBoundaryLands :
    ∃ (s : State) (c : Commit) (q : CommitPart) (k : Nat) (v : Int), (s.txd.counting = true) ∧ (s.coreOff = false) ∧ (s.rxd.sfLock = true) ∧ (s.txd.pending = none) ∧ (∀ (d : ChannelId), (s.channel d).pending = none) ∧ (s.frm.resized = []) ∧ (s.frm.resizes = []) ∧ (s.mgt.commits = [c]) ∧ (c.plan = [CommitStage.land]) ∧ (c.landing = true) ∧ (c.rate = false) ∧ (c.nle = []) ∧ (c.dpd = []) ∧ (c.recs = [(k, v)]) ∧ (c.parts = [q]) ∧ (q.done = false) ∧ (q.onTx = true) ∧ (s.txd.sf < q.due) ∧ (keyCrosses k = true) ∧ (keyPath k = q.path) ∧ (keyDirs k = [q.dir]) :=
  ⟨{ ln up with mgt.commits := [oneCommit ⟨7, 4, 0⟩ .tx [(paramKey ⟨7, 4, 0⟩ 0 2, 5)] [.land]] }, oneCommit ⟨7, 4, 0⟩ .tx [(paramKey ⟨7, 4, 0⟩ 0 2, 5)] [.land], { path := ⟨7, 4, 0⟩, dir := .tx, onTx := true, due := 11 }, paramKey ⟨7, 4, 0⟩ 0 2, 5, by decide +kernel⟩

/-- The hypotheses of `Obligations.FecReports` can be met. -/
theorem test_witness_FecReports :
    (∃ (s : State) (b : BlockResult), (s.decoding = true) ∧ (s.rxInterop = false) ∧ (s.cod.halted = false) ∧ (s.cod.sync = true) ∧ (b.termination = true → s.cod.termDue = true)) ∧
    (∃ (s : State) (b : BlockResult), (s.decoding = true) ∧ (s.rxInterop = false) ∧ (s.cod.halted = false) ∧ (s.cod.sync = false) ∧ (s.rxd.rxState = RxState.decode) ∧ (b.unsatPpm ≤ s.cfgN Param.bdeSyncPpm) ∧ (s.cod.goodBlocks = 15)) ∧
    (∃ (s : State), (s.decoding = true) ∧ (s.rxInterop = false)) ∧
    (∃ (s : State) (v : Nat), (s.decoding = true) ∧ (s.failThreshold < v) ∧ (s.rxInterop = false)) ∧
    (∃ (s : State), (s.decoding = true) ∧ (s.rxInterop = true) ∧ (s.cod.frameLock = true)) ∧
    (∃ (s : State) (r : Request), Admitted s r ∧ (r.payload = []) ∧ (r.target = { sec := 8, unit := 1 }) ∧ (s.rxInterop = false)) ∧
    (∃ (s : State) (r : Request), Admitted s r ∧ (r.payload = []) ∧ (r.target = { sec := 8, unit := 3 }) ∧ (s.rxInterop = true)) ∧
    (∃ (s : State) (r : Request) (rate : Nat) (ms : Nat) (i : Injection), Admitted s r ∧ (1000 ≤ rate) ∧ (rate ≤ 100000000) ∧ (1 ≤ ms) ∧ (ms ≤ 3600000) ∧ (r.payload = leBytes (4) rate ++ leBytes (4) ms) ∧ (i = { ratePpb := rate, since := s.now, until_ := s.now + ms * 1000 }) ∧ (r.target = { sec := 8, unit := 0 }) ∧ (s.txInterop = false)) ∧
    (∃ (s : State) (r : Request) (rate : Nat) (ms : Nat) (i : Injection), Admitted s r ∧ (1000 ≤ rate) ∧ (rate ≤ 100000000) ∧ (1 ≤ ms) ∧ (ms ≤ 3600000) ∧ (r.payload = leBytes (4) rate ++ leBytes (4) ms) ∧ (i = { ratePpb := rate, since := s.now, until_ := s.now + ms * 1000 }) ∧ (r.target = { sec := 8, unit := 2 }) ∧ (s.txInterop = true)) ∧
    (∃ (s : State) (r : Request) (ms : Nat), Admitted s r ∧ (r.target = { sec := 8, unit := 0 }) ∧ (s.txInterop = false) ∧ (1 ≤ ms) ∧ (ms ≤ 3600000) ∧ (r.payload = leBytes (4) (0) ++ leBytes (4) ms)) ∧
    (∃ (s : State) (i : Injection), s.cod.benInject = some i) ∧
    (∃ (s : State) (i : Injection), s.cod.ifeInject = some i) ∧
    (∃ (s : State), s.cod.testing = none) ∧
    (∃ (s : State), s.cod.testing = some true) ∧
    (∃ (s : State), s.cod.testing = some false) :=
  ⟨⟨{ ln up with cod.released := true }, { errors := 3, satisfiedAt := some 4 }, by decide +kernel⟩,
   ⟨{ up with cod.released := true, rxd.rxState := .decode, cod.goodBlocks := 15, cod.candidate := 7 }, {}, by decide +kernel⟩,
   ⟨{ up with cod.released := true }, by decide +kernel⟩,
   ⟨{ ln up with cod.released := true }, 30000000, by decide +kernel⟩,
   ⟨{ setP Param.bdeFec 4 (ln up) with cod.released := true, cod.frameLock := true }, by decide +kernel⟩,
   ⟨ln up, ask ⟨8, 1, 0⟩ [], by decide +kernel⟩,
   ⟨setP Param.bdeFec 4 (ln up), ask ⟨8, 3, 0⟩ [], by decide +kernel⟩,
   ⟨ln up, ask ⟨8, 0, 0⟩ (leBytes 4 1000 ++ leBytes 4 1), 1000, 1, ⟨1000, 0, 1000⟩, by decide +kernel⟩,
   ⟨setP Param.beFec 4 (ln up), ask ⟨8, 2, 0⟩ (leBytes 4 1000 ++ leBytes 4 1), 1000, 1, ⟨1000, 0, 1000⟩, by decide +kernel⟩,
   ⟨ln up, ask ⟨8, 0, 0⟩ (leBytes 4 0 ++ leBytes 4 1), 1, by decide +kernel⟩,
   ⟨{ ln up with cod.benInject := some ⟨5, 0, 1000⟩ }, ⟨5, 0, 1000⟩, by decide +kernel⟩,
   ⟨{ ln up with cod.ifeInject := some ⟨5, 0, 1000⟩ }, ⟨5, 0, 1000⟩, by decide +kernel⟩,
   ⟨{ up with cod.testing := none }, by decide +kernel⟩,
   ⟨{ up with cod.testing := some true }, by decide +kernel⟩,
   ⟨{ up with cod.testing := some false }, by decide +kernel⟩⟩

/-- The hypotheses of `Obligations.FrameAndChannels` can be met. -/
theorem test_witness_FrameAndChannels :
    (∃ (s : State) (f : OtucFrame) (here : List SliceOverhead), (s.deviceState < 2) ∧ (s.rxInterop = false) ∧ (f.fasOk = true) ∧ (List.take (presentSlices s.rxC) f.slices = here) ∧ (∀ (x : SliceOverhead), x ∈ here → x.mfasDiffers = false) ∧ (s.frm.oof = true → 1 ≤ s.frm.fasGood)) ∧
    (∃ (s : State) (f : OtucFrame), (s.deviceState < 2) ∧ (s.rxInterop = false) ∧ (f.fasOk = false) ∧ (s.frm.oof = false) ∧ (4 ≤ s.frm.fasBad)) ∧
    (∃ (s : State), (s.deviceState < 2) ∧ (s.frm.oof = true) ∧ (s.frm.lof = false) ∧ (s.rxInterop = false)) ∧
    (∃ (s : State), (s.deviceState < 2) ∧ (s.frm.oof = false) ∧ (s.frm.lof = true)) ∧
    (∃ (s : State) (c : Fin 64) (x : Nat), (s.deviceState < 2) ∧ (s.frm.clients[c].clearSince = some x) ∧ (s.frm.clients[c].replacing = true) ∧ (s.clientCause c.val = false)) ∧
    (∃ (s : State) (ch : Fin 3) (received : List Byte) (bytes : List Byte), (∀ (w : Nat), s.mem.flipsOf 0 w = 0) ∧ (s.gccOn ch s.rxInterop = true) ∧ (hdlcContent received = some bytes) ∧ (s.mem.queues[gccRxQueue ch].dropping = false) ∧ ((countedPacket bytes).length + s.mem.queues[gccRxQueue ch].count ≤ s.queueCapacity (gccRxQueue ch))) ∧
    (∃ (s : State) (ch : Fin 3) (received : List Byte), (∀ (w : Nat), s.mem.flipsOf 0 w = 0) ∧ (s.gccOn ch s.rxInterop = true) ∧ (hdlcContent received = none)) ∧
    (∃ (s : State) (ch : Fin 3) (n : Nat) (bs : List Byte), (∀ (w : Nat), s.mem.flipsOf 0 w = 0) ∧ (s.gccOn ch s.txInterop = true) ∧ (s.mem.queues[gccTxQueue ch].packetLength = some n) ∧ (countedBytes (List.map SpqWord.data (List.take n s.mem.queues[gccTxQueue ch].words)) (1) (1536) = some bs)) ∧
    (∃ (s : State) (ch : Fin 3), (∀ (w : Nat), s.mem.flipsOf 0 w = 0) ∧ (s.gccOn ch s.txInterop = true) ∧ (s.mem.queues[gccTxQueue ch].packetLength = none)) :=
  ⟨⟨{ up with frm.rxCapacity := 3, frm.fasGood := 1 }, { slices := [{ smBip := 8, bei := 2 }], pmBip := 3, bdi := true }, [{ smBip := 8, bei := 2 }], by decide +kernel⟩,
   ⟨{ framed up with frm.fasBad := 4 }, { fasOk := false }, by decide +kernel⟩,
   ⟨{ up with frm.lof := false }, by decide +kernel⟩,
   ⟨{ up with frm.oof := false }, by decide +kernel⟩,
   ⟨{ framed up with rxd.sfLock := true, cod.sync := true, frm.clients := (Vector.replicate 64 {}).set 63 { clearSince := some 0, replacing := true } }, 63, 0, by decide +kernel⟩,
   ⟨setP Param.lfrGccEnable 7 up, 2, stuffBytes ([0x7E] ++ fcs32 [0x7E]), [0x7E], fun _ => rfl, by decide +kernel, by decide +kernel, by decide +kernel, by decide +kernel⟩,
   ⟨setP Param.lfrGccEnable 7 up, 1, [1], fun _ => rfl, by decide +kernel, by decide +kernel⟩,
   ⟨{ setP Param.lfrGccEnable 7 up with mem.queues := Vector.replicate 24 { head := [⟨1, false⟩, ⟨7, true⟩, ⟨3, true⟩] } }, 0, 2, [7], fun _ => rfl, by decide +kernel, by decide +kernel, by decide +kernel⟩,
   ⟨setP Param.lfrGccEnable 7 up, 2, fun _ => rfl, by decide +kernel, by decide +kernel⟩⟩

/-- The hypotheses of `Obligations.KeysAndSegments` can be met. -/
theorem test_witness_KeysAndSegments :
    (∃ (s : State) (i : SeatId) (k : Fin 128) (v : Word), ((s.seat i).quarantined = false) ∧ (s.resetRequired { sec := 10, unit := 1 } = false) ∧ (s.gateClosed { sec := 10, unit := 1 } = false) ∧ (s.cipherFused = false) ∧ (s.owns i (slotPath k) = true) ∧ (BitVec.toNat v % 128 = k.val) ∧ (s.slotInUse k = false) ∧ ((s.slot k).loading = none) ∧ (BitVec.toNat v / 2 ^ 16 = crc32c (List.flatMap (fun w => leBytes (4) (BitVec.toNat w)) (s.seat i).keyStage.toList) % 65536)) ∧
    (∃ (s : State) (i : SeatId) (k : Fin 128) (v : Word), ((s.seat i).quarantined = false) ∧ (s.resetRequired { sec := 10, unit := 1 } = false) ∧ (s.gateClosed { sec := 10, unit := 1 } = false) ∧ (s.cipherFused = false) ∧ (s.owns i (slotPath k) = true) ∧ (BitVec.toNat v % 128 = k.val) ∧ (s.slotInUse k = true)) ∧
    (∃ (s : State) (k : Fin 128) (l : KeyLoading), (s.slot k).loading = some l) ∧
    (∃ (s : State) (k : Fin 128) (r : Request), Admitted s r ∧ (r.target = slotPath k) ∧ (r.payload = [0]) ∧ (s.cipherFused = false)) ∧
    (∃ (s : State) (c : ChannelId) (frames : List OduFrame) (x : List OduFrame × Nat × List (List Byte)), (s.encrypted Dir.tx c = true) ∧ (s.carried Dir.tx c < 64) ∧ (s.cipherPower Dir.tx c < 2) ∧ (s.sec.released = true) ∧ (s.txKey c = true) ∧ (s.sentSegment c true (s.segmentFrames c frames) = x)) ∧
    (∃ (s : State) (c : ChannelId) (frames : List OduFrame) (x : List OduFrame × Nat × List (List Byte)), (s.encrypted Dir.tx c = true) ∧ (s.carried Dir.tx c < 64) ∧ (s.cipherPower Dir.tx c < 2) ∧ (s.sec.released = false ∨ s.txKey c = false) ∧ (s.sentSegment c false (s.segmentFrames c frames) = x)) ∧
    (∃ (s : State) (c : ChannelId) (frames : List OduFrame) (control : Byte) (e : Nat) (n : Nat) (tag : Nat) (e0 : Nat), (s.encrypted Dir.rx c = true) ∧ (s.carried Dir.rx c < 64) ∧ (s.cipherPower Dir.rx c < 2) ∧ (s.decoderLocked = true) ∧ (s.frm.lof = false) ∧ ((s.channel c).rxEpoch = some e0) ∧ (readSegment frames = { control := control, whole := some (e, n, tag) }) ∧ (BitVec.getLsbD control (0) = true) ∧ (BitVec.getLsbD control (4) = true) ∧ (decide (e0 % 2 = 1) = BitVec.getLsbD control (2))) ∧
    (∃ (s : State) (c : ChannelId) (frames : List OduFrame) (control : Byte) (e : Nat) (n : Nat) (tag : Nat) (e0 : Nat), (s.encrypted Dir.rx c = true) ∧ (s.carried Dir.rx c < 64) ∧ (s.cipherPower Dir.rx c < 2) ∧ (s.decoderLocked = true) ∧ (s.frm.lof = false) ∧ ((s.channel c).rxEpoch = some e0) ∧ (readSegment frames = { control := control, whole := some (e, n, tag) }) ∧ (BitVec.getLsbD control (0) = true) ∧ (BitVec.getLsbD control (4) = true) ∧ (decide (e0 % 2 = 1) ≠ BitVec.getLsbD control (2)) ∧ (e = e0 + 1) ∧ ((s.slot (slotOf c !(s.channel c).rxSlot)).usable = true)) :=
  ⟨⟨{ up with mgt.seats := up.mgt.seats.set 0 { keyStage := Vector.replicate 8 5 } }, 0, 127, (BitVec.ofNat 32 (127 + 65536 * (crc32c ((Vector.replicate 8 (5 : Word)).toList.flatMap fun w => leBytes 4 w.toNat) % 65536))), by decide +kernel⟩,
   ⟨keyed, 0, 126, 126, by decide +kernel⟩,
   ⟨{ up with sec.slots := Vector.replicate 128 { loaded := true, loading := some ⟨2, Vector.replicate 8 5, 0⟩ } }, 126, ⟨2, Vector.replicate 8 5, 0⟩, by decide +kernel⟩,
   ⟨keyed, 126, ask ⟨10, 1, 126⟩ [0], by decide +kernel⟩,
   ⟨{ keyed with sec.released := true }, 63, oduFrames, ({ keyed with sec.released := true }.sentSegment 63 true ({ keyed with sec.released := true }.segmentFrames 63 oduFrames)), by decide +kernel, by decide +kernel, by decide +kernel, by decide +kernel, by decide +kernel, rfl⟩,
   ⟨{ keyed with sec.channels := Vector.replicate 64 { txNoKey := true } }, 63, oduFrames, ({ keyed with sec.channels := Vector.replicate 64 { txNoKey := true } }.sentSegment 63 false ({ keyed with sec.channels := Vector.replicate 64 { txNoKey := true } }.segmentFrames 63 oduFrames)), by decide +kernel, by decide +kernel, by decide +kernel, by decide +kernel, rfl⟩,
   ⟨keyed, 63, shown 21 0xFFFF 9, (readSegment (shown 21 0xFFFF 9)).control, 0xFFFF, 9, (2 ^ 128 - 7), 0xFFFF, by decide +kernel⟩,
   ⟨keyed, 63, shown 17 0x10000 9, (readSegment (shown 17 0x10000 9)).control, 0x10000, 9, (2 ^ 128 - 7), 0xFFFF, by decide +kernel⟩⟩

/-- The hypotheses of `Obligations.CipherVerdicts` can be met. -/
theorem test_witness_CipherVerdicts :
    (∃ (s : State) (c : ChannelId) (d : DueVerdict), ((s.channel c).due = some d) ∧ (d.doubt = true)) ∧
    (∃ (s : State) (c : ChannelId) (d : DueVerdict), ((s.channel c).due = some d) ∧ (d.doubt = false) ∧ (d.received = d.computed)) ∧
    (∃ (s : State) (c : ChannelId) (d : DueVerdict), ((s.channel c).due = some d) ∧ (d.doubt = false) ∧ d.received ≠ d.computed) ∧
    (∃ (s : State) (failed : BitVec 32), (s.cipherFused = false) ∧ (s.sec.released = false) ∧ (s.sec.selftestFail = false) ∧ ((List.filter (fun i => failed.getLsbD i) (List.range (32))).length ≤ 10)) ∧
    (∃ (s : State) (failed : BitVec 32) (ok : Bool), (s.cipherFused = false) ∧ (s.sec.released = false) ∧ (s.sec.selftestFail = false) ∧ (10 < (List.filter (fun i => failed.getLsbD i) (List.range (32))).length ∨ ok = false)) :=
  ⟨⟨{ keyed with sec.channels := Vector.replicate 64 { due := some ⟨5, true, 1, 2⟩ } }, 63, ⟨5, true, 1, 2⟩, by decide +kernel⟩,
   ⟨{ keyed with sec.channels := Vector.replicate 64 { due := some ⟨5, false, 1, 1⟩, authDefect := true, passRun := 5000, policyReplaces := true } }, 63, ⟨5, false, 1, 1⟩, by decide +kernel⟩,
   ⟨{ keyed with sec.channels := Vector.replicate 64 { due := some ⟨5, false, 1, 2⟩, consec := 5000 } }, 63, ⟨5, false, 1, 2⟩, by decide +kernel⟩,
   ⟨up, 0xFFC00000, by decide +kernel⟩,
   ⟨up, 0xFFE00000, true, by decide +kernel⟩⟩

/-- The hypotheses of `Obligations.LodestoneTransmission` can be met. -/
theorem test_witness_LodestoneTransmission :
    (∃ (s : State), (s.lodMode = 2) ∧ (s.lod.identityDue = false)) ∧
    (∃ (s : State) (n : Nat) (m : LodMessage), (∀ (w : Nat), s.mem.flipsOf 0 w = 0) ∧ (s.mgt.restarting = false) ∧ (s.mem.queues[6].packetLength = some n) ∧ (opaqueOf (List.map SpqWord.data (List.take n s.mem.queues[6].words)) = some m)) ∧
    (∃ (s : State) (type : Nat) (p : List Byte) (after : Lod), (s.txd.counting = true) ∧ (s.coreOff = false) ∧ (s.txd.sf % s.slotLength = 0) ∧ s.lod.lastSlot ≠ some s.txd.sf ∧ s.lodMode ≠ 0 ∧ (s.lod.busyUntil ≤ s.txd.sf) ∧ (s.deviceState < 3) ∧ (s.mgt.restarting = false) ∧ ((s.lod.answers.head? = some p ∧ type = 33 ∧ after = have __src := s.lod; { mode := __src.mode, busyUntil := __src.busyUntil, lastSlot := __src.lastSlot, frames := __src.frames, txSeq := __src.txSeq, answers := s.lod.answers.tail, propose := __src.propose, identityDue := __src.identityDue, identityAt := __src.identityAt, opaques := __src.opaques, template := __src.template, current := __src.current, header := __src.header, tracked := __src.tracked, gain := __src.gain, metric := __src.metric, estimateValid := __src.estimateValid, estimateNoted := __src.estimateNoted, cd := __src.cd, fo := __src.fo, rate := __src.rate, framesOk := __src.framesOk, hdrCrc := __src.hdrCrc, payCrc := __src.payCrc, preempted := __src.preempted, ignored := __src.ignored, foreign := __src.foreign, lastGroup := __src.lastGroup, rxBeacon := __src.rxBeacon, beaconAt := __src.beaconAt, inService := __src.inService, cancelling := __src.cancelling, rateNoted := __src.rateNoted, cancelNoted := __src.cancelNoted, inbox := __src.inbox, identified := __src.identified, mismatch := __src.mismatch, partner := __src.partner, partnerAt := __src.partnerAt, partnerMetric := __src.partnerMetric, lastValid := __src.lastValid, rxSeq := __src.rxSeq, missed := __src.missed, protoErrors := __src.protoErrors, rxDrops := __src.rxDrops, txRejects := __src.txRejects }) ∨ (s.lod.answers = [] ∧ s.lod.propose = some p ∧ type = 32 ∧ after = have __src := s.lod; { mode := __src.mode, busyUntil := __src.busyUntil, lastSlot := __src.lastSlot, frames := __src.frames, txSeq := __src.txSeq, answers := __src.answers, identityDue := __src.identityDue, identityAt := __src.identityAt, opaques := __src.opaques, template := __src.template, current := __src.current, header := __src.header, tracked := __src.tracked, gain := __src.gain, metric := __src.metric, estimateValid := __src.estimateValid, estimateNoted := __src.estimateNoted, cd := __src.cd, fo := __src.fo, rate := __src.rate, framesOk := __src.framesOk, hdrCrc := __src.hdrCrc, payCrc := __src.payCrc, preempted := __src.preempted, ignored := __src.ignored, foreign := __src.foreign, lastGroup := __src.lastGroup, rxBeacon := __src.rxBeacon, beaconAt := __src.beaconAt, inService := __src.inService, cancelling := __src.cancelling, rateNoted := __src.rateNoted, cancelNoted := __src.cancelNoted, inbox := __src.inbox, identified := __src.identified, mismatch := __src.mismatch, partner := __src.partner, partnerAt := __src.partnerAt, partnerMetric := __src.partnerMetric, lastValid := __src.lastValid, rxSeq := __src.rxSeq, missed := __src.missed, protoErrors := __src.protoErrors, rxDrops := __src.rxDrops, txRejects := __src.txRejects }) ∨ (s.lod.answers = [] ∧ s.lod.propose = none ∧ s.lod.identityDue = true ∧ p = s.identityPayload ∧ type = 1 ∧ after = have __src := s.lod; { mode := __src.mode, busyUntil := __src.busyUntil, lastSlot := __src.lastSlot, frames := __src.frames, txSeq := __src.txSeq, answers := __src.answers, propose := __src.propose, identityAt := s.now, opaques := __src.opaques, template := p, current := __src.current, header := __src.header, tracked := __src.tracked, gain := __src.gain, metric := __src.metric, estimateValid := __src.estimateValid, estimateNoted := __src.estimateNoted, cd := __src.cd, fo := __src.fo, rate := __src.rate, framesOk := __src.framesOk, hdrCrc := __src.hdrCrc, payCrc := __src.payCrc, preempted := __src.preempted, ignored := __src.ignored, foreign := __src.foreign, lastGroup := __src.lastGroup, rxBeacon := __src.rxBeacon, beaconAt := __src.beaconAt, inService := __src.inService, cancelling := __src.cancelling, rateNoted := __src.rateNoted, cancelNoted := __src.cancelNoted, inbox := __src.inbox, identified := __src.identified, mismatch := __src.mismatch, partner := __src.partner, partnerAt := __src.partnerAt, partnerMetric := __src.partnerMetric, lastValid := __src.lastValid, rxSeq := __src.rxSeq, missed := __src.missed, protoErrors := __src.protoErrors, rxDrops := __src.rxDrops, txRejects := __src.txRejects }) ∨ s.lod.answers = [] ∧ s.lod.propose = none ∧ s.lod.identityDue = false ∧ (List.map (fun m => (m.type, m.payload)) s.lod.opaques).head? = some (type, p) ∧ after = have __src := s.lod; { mode := __src.mode, busyUntil := __src.busyUntil, lastSlot := __src.lastSlot, frames := __src.frames, txSeq := __src.txSeq, answers := __src.answers, propose := __src.propose, identityDue := __src.identityDue, identityAt := __src.identityAt, opaques := s.lod.opaques.tail, template := __src.template, current := __src.current, header := __src.header, tracked := __src.tracked, gain := __src.gain, metric := __src.metric, estimateValid := __src.estimateValid, estimateNoted := __src.estimateNoted, cd := __src.cd, fo := __src.fo, rate := __src.rate, framesOk := __src.framesOk, hdrCrc := __src.hdrCrc, payCrc := __src.payCrc, preempted := __src.preempted, ignored := __src.ignored, foreign := __src.foreign, lastGroup := __src.lastGroup, rxBeacon := __src.rxBeacon, beaconAt := __src.beaconAt, inService := __src.inService, cancelling := __src.cancelling, rateNoted := __src.rateNoted, cancelNoted := __src.cancelNoted, inbox := __src.inbox, identified := __src.identified, mismatch := __src.mismatch, partner := __src.partner, partnerAt := __src.partnerAt, partnerMetric := __src.partnerMetric, lastValid := __src.lastValid, rxSeq := __src.rxSeq, missed := __src.missed, protoErrors := __src.protoErrors, rxDrops := __src.rxDrops, txRejects := __src.txRejects })) ∧
    (∃ (s : State) (r : Request), Admitted s r ∧ (r.target = { sec := 11, unit := 2 }) ∧ (r.payload = [])) :=
  ⟨⟨setP Param.lgMode 2 (ln up), by decide +kernel⟩,
   ⟨{ ln up with mem.queues := Vector.replicate 24 { head := [⟨0x800001, false⟩, ⟨7, true⟩] } }, 2, { type := 0x80, payload := [7] }, fun _ => rfl, by decide +kernel, by decide +kernel, by decide +kernel⟩,
   ⟨{ setP Param.lgMode 2 (ln up) with txd.sf := 0, lod.answers := [[1, 2, 3, 4]], lod.txSeq := 255, cnv.dacs := Vector.replicate 4 { running := true } }, 0x21, [1, 2, 3, 4], { { setP Param.lgMode 2 (ln up) with txd.sf := 0, lod.txSeq := 255 }.lod with answers := [] }, by decide +kernel⟩,
   ⟨ln up, ask ⟨11, 2, 0⟩ [], by decide +kernel⟩⟩

/-- The hypotheses of `Obligations.LodestoneReceiver` can be met. -/
theorem test_witness_LodestoneReceiver :
    (∃ (s : State) (m : Nat), (s.ldtOn = true) ∧ (s.cfgN Param.ldtDetectThresholdDbX2 ≤ m) ∧ (s.lod.current = none)) ∧
    (∃ (s : State) (p : Preamble) (b : Vector Byte 4), (s.ldtOn = true) ∧ (s.lod.current = some p) ∧ (s.lod.header = none) ∧ (p.group = s.cfgN Param.ldtLinkGroup) ∧ (crc8 [b[0], b[1], b[2]] = b[3])) ∧
    (∃ (s : State) (p : Preamble) (b : Vector Byte 4), (s.ldtOn = true) ∧ (s.lod.current = some p) ∧ (s.lod.header = none) ∧ (p.group = s.cfgN Param.ldtLinkGroup) ∧ crc8 [b[0], b[1], b[2]] ≠ b[3] ∧ (s.lod.tracked = none)) ∧
    (∃ (s : State) (p : Preamble) (type : Nat) (len : Nat) (seq : Nat) (body : List Byte), (s.ldtOn = true) ∧ (s.lod.current = some p) ∧ (s.lod.header = some (type, len, seq)) ∧ (body.length = len) ∧ (type < 256) ∧ (len < 256) ∧ (seq < 256) ∧ (s.lod.tracked = none) ∧ (s.mgt.restarting = false) ∧ (knownMessage type len = true)) ∧
    (∃ (s : State), (s.ldtOn = true) ∧ (s.lod.current = none)) ∧
    (∃ (s : State), (s.ldtOn = true) ∧ (s.lod.rxBeacon = true)) ∧
    (∃ (s : State) (m : LodMessage), (s.mgt.restarting = false) ∧ (List.find? (fun m => m.type == 1) s.lod.inbox = some m) ∧ (s.expects (u64At m.payload (0)) = true)) ∧
    (∃ (s : State) (m : LodMessage), (s.mgt.restarting = false) ∧ (List.find? (fun m => m.type == 1) s.lod.inbox = some m) ∧ (s.expects (u64At m.payload (0)) = false)) ∧
    (∃ (s : State) (m : LodMessage), (s.mgt.restarting = false) ∧ (List.find? (fun m => decide (128 ≤ m.type)) s.lod.inbox = some m) ∧ (∀ (w : Nat), s.mem.flipsOf 0 w = 0) ∧ (s.mem.queues[7].dropping = false) ∧ ((bytesToWords m.payload).length + 1 + s.mem.queues[7].count ≤ s.queueCapacity 7)) ∧
    (∃ (s : State), (s.mgt.restarting = false) ∧ (s.lod.identified = true ∨ s.lod.estimateValid = true)) :=
  ⟨⟨setP Param.ldtDetectThresholdDbX2 40 up, 40, by decide +kernel⟩,
   ⟨{ up with lod.current := some ⟨60, 0, 0⟩ }, ⟨60, 0, 0⟩, #v[1, 36, 255, crc8 [1, 36, 255]], by decide +kernel⟩,
   ⟨{ up with lod.current := some ⟨60, 0, 0⟩ }, ⟨60, 0, 0⟩, #v[1, 36, 255, crc8 [1, 36, 255] + 1], by decide +kernel⟩,
   ⟨{ up with lod.current := some ⟨60, 0, 0⟩, lod.header := some (0x20, 27, 255) }, ⟨60, 0, 0⟩, 0x20, 27, 255, List.replicate 27 9, by decide +kernel⟩,
   ⟨up, by decide +kernel⟩,
   ⟨{ up with lod.rxBeacon := true }, by decide +kernel⟩,
   ⟨{ up with lod.inbox := [{ type := 1, payload := List.replicate 32 1 }] }, { type := 1, payload := List.replicate 32 1 }, by decide +kernel⟩,
   ⟨{ setP Param.lmsExpectedId 5 up with lod.inbox := [{ type := 1, payload := List.replicate 32 1 }] }, { type := 1, payload := List.replicate 32 1 }, by decide +kernel⟩,
   ⟨{ up with lod.inbox := [{ type := 0x80, payload := List.replicate 32 1, seq := 255, at_ := 9 }] }, { type := 0x80, payload := List.replicate 32 1, seq := 255, at_ := 9 }, by decide +kernel, by decide +kernel, fun _ => rfl, by decide +kernel, by decide +kernel⟩,
   ⟨{ up with lod.identified := true, rxd.seedValid := true }, by decide +kernel⟩⟩

/-- The hypotheses of `Obligations.GainAndChains` can be met. -/
theorem test_witness_GainAndChains :
    (∃ (s : State) (set : Fin 4), (s.cfg Param.agcMode = 0) ∧ s.gainSet set ≠ [] ∧ (s.deviceState < 2) ∧ (∀ (ch : Fin (4)), ch ∈ s.gainSet set → s.gainUsable ch = true) ∧ (∃ ch, ch ∈ s.gainSet set ∧ ∃ l, s.gainLevel ch = some l ∧ s.gainUpper < l)) ∧
    (∃ (s : State) (set : Fin 4), (s.cfg Param.agcMode = 0) ∧ s.gainSet set ≠ [] ∧ (s.deviceState < 2) ∧ (∃ ch, ch ∈ s.gainSet set ∧ s.gainUsable ch = false)) ∧
    (∃ (s : State) (c : ChainId), (s.cfgB Param.dchEnable c.val = true) ∧ ((s.chain c).settled = false) ∧ (s.sourceGone c = false) ∧ s.deviceState ≠ 4) ∧
    (∃ (s : State) (c : ChainId), (s.cfgB Param.dchEnable c.val = true) ∧ s.deviceState ≠ 4) ∧
    (∃ (s : State) (c : ChainId) (x : TapCycle) (k : Chain), (s.cfgB Param.dchEnable c.val = true) ∧ s.deviceState ≠ 4 ∧ ((s.chain c).cycle (s.cfgN Param.dchPreset c.val) (s.chainInputOf c x) = (k, none))) ∧
    (∃ (s : State) (c : ChainId) (x : TapCycle) (k : Chain) (y : BitVec 32), (s.cfgB Param.dchEnable c.val = true) ∧ s.deviceState ≠ 4 ∧ (∀ (w : Nat), s.mem.flipsOf 0 w = 0) ∧ ((s.chain c).settled = true) ∧ ((s.chain c).noSource = false) ∧ ((s.chain c).cycle (s.cfgN Param.dchPreset c.val) (s.chainInputOf c x) = (k, some y))) ∧
    (∃ (s : State) (i : SeatId) (v : Word), (Writes s i { sec := 12, unit := 1 }) ∧ (BitVec.getLsbD v (0) = true)) :=
  ⟨⟨setP Param.agcLink 0 (levels 0), 3, by decide +kernel⟩,
   ⟨{ levels 0 with mon.chains := Vector.replicate 8 {} }, 1, by decide +kernel⟩,
   ⟨setP Param.dchEnable 1 up 7, 7, by decide +kernel⟩,
   ⟨setP Param.dchEnable 1 (levels 0) 7, 7, by decide +kernel⟩,
   ⟨setP Param.dchEnable 1 (levels 0) 7, 7, List.replicate 64 (some 100), (((setP Param.dchEnable 1 (levels 0) 7).chain 7).cycle ((setP Param.dchEnable 1 (levels 0) 7).cfgN Param.dchPreset 7) ((setP Param.dchEnable 1 (levels 0) 7).chainInputOf 7 (List.replicate 64 (some 100)))).1, by decide +kernel, by decide +kernel, rfl⟩,
   ⟨chainEnds, 7, List.replicate 64 (some 100), ((chainEnds.chain 7).cycle (chainEnds.cfgN Param.dchPreset 7) (chainEnds.chainInputOf 7 (List.replicate 64 (some 100)))).1, (((chainEnds.chain 7).cycle (chainEnds.cfgN Param.dchPreset 7) (chainEnds.chainInputOf 7 (List.replicate 64 (some 100)))).2.getD 0), by decide +kernel, by decide +kernel, fun _ => rfl, by decide +kernel, by decide +kernel, pair_of_isSome 0 _ (by decide +kernel)⟩,
   ⟨{ up with mon.chains := Vector.replicate 8 { windowSh := 0x1F0F1F1F, threshSh := 0x0003FFFF, peak := some 5 } }, 0, 1, by decide +kernel⟩⟩

/-- The hypotheses of `Obligations.CapturesAndRecords` can be met. -/
theorem test_witness_CapturesAndRecords :
    (∃ (s : State) (r : Request), Admitted s r ∧ (r.target = { sec := 12, unit := 3 }) ∧ (r.payload = []) ∧ (s.captureGated = false) ∧ (∀ (c : ChainId), s.capturedChain = some c → (s.chain c).noSource = false ∧ (s.chain c).settled = true)) ∧
    (∃ (s : State) (r : Request), Admitted s r ∧ (r.target = { sec := 12, unit := 3 }) ∧ (r.payload = [])) ∧
    (∃ (s : State), (s.mon.cap.state = 2) ∧ (s.capturedChain.isSome = true) ∧ (s.mon.cap.left = 0)) ∧
    (∃ (s : State) (data : List CaptureCycle), (s.mon.cap.state = 2) ∧ (s.capturedChain = none) ∧ (s.mon.cap.left = 0) ∧ (data = [])) ∧
    (∃ (s : State) (data : List CaptureCycle), (s.mon.cap.state = 2) ∧ (s.cfgN Param.capSource ≤ 3) ∧ (s.mon.cap.left = 1024 * data.length) ∧ (0 < s.captureBytes)) ∧
    (∃ (s : State), (s.lod.estimateValid = false) ∧ (s.rxd.rxState = RxState.locked)) ∧
    (∃ (s : State), (s.lod.estimateValid = false) ∧ s.rxd.rxState ≠ RxState.locked) ∧
    (∃ (s : State), (s.clk.timeStopped = false) ∧ (s.tim.devNs < 1000000000)) ∧
    (∃ (s : State) (d : Drain), (s.mon.drain = some d) ∧ (s.mon.waiting = [])) ∧
    (∃ (s : State) (r : Request), Asked s r ∧ (r.target = { sec := 12, unit := 2 }) ∧ (r.payload = []) ∧ (s.mon.drain = none) ∧ (s.tim.devNs < 999990000)) ∧
    (∃ (s : State) (r : Request) (k : Fin 4) (age : Byte) (snap : Nat), Asked s r ∧ (r.target = { sec := 12, unit := 2 }) ∧ (r.payload = [BitVec.ofNat (8) k.val, age]) ∧ (s.mon.snaps[k][BitVec.toNat age]? = some snap)) :=
  ⟨⟨up, ask ⟨12, 3, 0⟩ [], by decide +kernel⟩,
   ⟨{ up with mon.cap := { state := 1, pos := 5 } }, ask ⟨12, 3, 0⟩ [], by decide +kernel⟩,
   ⟨{ setP Param.capSource 4 up with mon.cap := { state := 2, pos := 5 } }, by decide +kernel⟩,
   ⟨{ up with mon.cap := { state := 2, pos := 5, trigPos := 5 } }, [], by decide +kernel⟩,
   ⟨{ up with mon.cap := { state := 2, pos := 5, left := 1024, trigPos := 5 } }, [{ samples := List.replicate 4 (List.replicate 156 7) }], by decide +kernel⟩,
   ⟨{ up with rxd.rxState := .locked }, by decide +kernel⟩,
   ⟨up, by decide +kernel⟩,
   ⟨{ up with tim.devNs := 999999999 }, by decide +kernel⟩,
   ⟨{ up with mon.drain := some { content := { kind := 0 } } }, { content := { kind := 0 } }, by decide +kernel⟩,
   ⟨up, ask ⟨12, 2, 0⟩ [], by decide +kernel⟩,
   ⟨{ up with mon.snaps := Vector.replicate 4 [7, 6], mon.written := Vector.replicate 4 2 }, ask ⟨12, 2, 0⟩ [3, 1], 3, 1, 6, by decide +kernel⟩⟩

/-- The hypotheses of `Obligations.LaneBringUp` can be met. -/
theorem test_witness_LaneBringUp :
    (∃ (s : State) (l : LaneId), (s.lanePower l < 3) ∧ ((s.lane l).low = false) ∧ ((s.lane l).step = 1)) ∧
    (∃ (s : State) (l : LaneId), (s.lanePower l < 3) ∧ ((s.lane l).low = true) ∧ (s.cfgB Param.lnDiscovery (0) (0) l.val = true) ∧ (s.lanePorted l = true)) ∧
    (∃ (s : State) (l : LaneId), (s.lane l).step = 2) ∧
    (∃ (s : State) (l : LaneId), (s.lane l).step = 3) ∧
    (∃ (s : State) (l : LaneId), ((s.lane l).step = 4) ∧ ((s.lane l).passed = false)) ∧
    (∃ (s : State) (l : LaneId), (s.orderKnown = false) ∧ ((s.lane l).step = 5)) ∧
    (∃ (s : State) (l : LaneId), ((s.lane l).low = false) ∧ (2 ≤ (s.lane l).step) ∧ ((s.lane l).step < 7) ∧ (¬((s.lane l).step = 4 ∧ (s.lane l).passed = true)) ∧ (∀ (p : PortId), s.portOf l = some p → (s.port p).skewed = false)) :=
  ⟨⟨lanes { low := false, step := 1 }, 15, by decide +kernel⟩,
   ⟨setP Param.lnDiscovery 1 (setP Param.pcsPortType 2 (lanes {})), 0, by decide +kernel⟩,
   ⟨lanes { low := false, step := 2 }, 15, by decide +kernel⟩,
   ⟨lanes { low := false, step := 3 }, 15, by decide +kernel⟩,
   ⟨lanes { low := false, step := 4 }, 15, by decide +kernel⟩,
   ⟨lanes { low := false, step := 5 }, 15, by decide +kernel⟩,
   ⟨lanes { low := false, step := 6 }, 15, by decide +kernel⟩⟩

/-- The hypotheses of `Obligations.HostPorts` can be met. -/
theorem test_witness_HostPorts :
    (∃ (s : State) (p : PortId) (n : Nat), (s.portReady p = true) ∧ (s.lanesLocked p = true) ∧ (n ≤ 180) ∧ ((s.port p).up = false) ∧ ((s.port p).skewed = false)) ∧
    (∃ (s : State) (p : PortId) (n : Nat), (s.portReady p = true) ∧ (s.lanesLocked p = true) ∧ (180 < n) ∧ ((s.port p).up = false) ∧ ((s.port p).skewed = false)) ∧
    (∃ (s : State) (p : PortId) (n : Nat), (s.portReady p = true) ∧ (s.lanesLocked p = true) ∧ (n ≤ 180) ∧ ((s.port p).skewed = true)) ∧
    (∃ (s : State) (p : PortId), ((s.port p).up = true) ∧ (2 ≤ s.portType p.val) ∧ (s.portType p.val ≤ 12)) ∧
    (∃ (s : State) (p : PortId), (s.port p).up = true) ∧
    (∃ (s : State) (p : PortId), ((s.port p).up = true) ∧ s.portType p.val ≠ 13) :=
  ⟨⟨host 2, 0, 180, by decide +kernel⟩,
   ⟨host 2, 0, 181, by decide +kernel⟩,
   ⟨{ host 2 with hst.ports := Vector.replicate 16 { skewed := true } }, 0, 180, by decide +kernel⟩,
   ⟨hostUp 2, 0, by decide +kernel⟩,
   ⟨hostUp 2, 0, by decide +kernel⟩,
   ⟨hostUp 2, 0, by decide +kernel⟩⟩

/-- The hypotheses of `Obligations.LaneFaults` can be met. -/
theorem test_witness_LaneFaults :
    (∃ (s : State) (l : LaneId) (ppm : Int), ((s.lane l).low = false) ∧ ((s.lane l).cdr = true) ∧ (s.freqAccepted l ppm = true)) ∧
    (∃ (s : State) (l : LaneId) (ppm : Int), ((s.lane l).low = false) ∧ ((s.lane l).cdr = true) ∧ (s.freqAccepted l ppm = false)) ∧
    (∃ (s : State) (l : LaneId), (s.lane l).low = false) ∧
    (∃ (s : State) (l : LaneId), ((s.lane l).low = false) ∧ ((s.lane l).signal = false)) ∧
    (∃ (s : State) (l : LaneId) (r : Request), (r.target = { sec := 13, unit := l.val }) ∧ (r.payload = []) ∧ Admitted s r) ∧
    (∃ (s : State) (l : LaneId) (r : Request), (r.target = { sec := 13, unit := l.val }) ∧ (r.payload = []) ∧ Asked s r) ∧
    (∃ (s : State) (l : LaneId) (p : PortId) (w : BitVec 256) (m : Marker) (received : List (Fin 4)) (u : Unstuffed) (bs : List Nat), ((s.lane l).passed = true) ∧ (s.orderKnown = true) ∧ (s.portOf l = some p) ∧ (s.portType p.val = 13) ∧ (Marker.ofNat w.toNat = some m) ∧ (m.lane = physical s.rxReversed l.val - p.val) ∧ (m.size + 1 = s.portLanes p.val) ∧ (m.first = p.val) ∧ (tlmUnstuff 0 (0) received = u) ∧ (u.violations = 0) ∧ (bs = tlmScramble m.lane (List.flatMap pam4Bits u.payload))) ∧
    (∃ (s : State) (p : PortId), (s.portType p.val = 13) ∧ (s.boundaryHeld = false)) ∧
    (∃ (s : State) (p : PortId) (dropped : Nat), (s.portType p.val = 13) ∧ (0 < dropped)) ∧
    (∃ (s : State) (p : PortId) (g : Fin 4), (s.cfgN Param.pcsFlexeGroup (0) p.val = g.val + 1) ∧ ((s.port p).up = true) ∧ (s.isPhy p.val g.val = true)) ∧
    (∃ (s : State) (g : Fin 4), s.phys g ≠ []) :=
  ⟨⟨lanes { low := false, step := 7, cdr := true }, 15, 0, by decide +kernel⟩,
   ⟨{ lanes { low := false, step := 7, cdr := true } with hst.orderLocked := true }, 15, 900000000, by decide +kernel⟩,
   ⟨lanes { low := false, step := 7, cdr := true, signal := true }, 15, by decide +kernel⟩,
   ⟨lanes { low := false, step := 1 }, 15, by decide +kernel⟩,
   ⟨hostUp 2, 15, ask ⟨13, 15, 0⟩ [], by decide +kernel⟩,
   ⟨hostUp 2, 0, ask ⟨13, 0, 0⟩ [], by decide +kernel⟩,
   ⟨{ host 13 with hst.lanes := Vector.replicate 16 { low := false, step := 6, passed := true, good := 1 } }, 0, 0, BitVec.ofNat 256 (Marker.toNat { lane := 0, size := (host 13).portLanes 0 - 1, first := 0, pad := 5, period := 9 }), { lane := 0, size := (host 13).portLanes 0 - 1, first := 0, pad := 5, period := 9 }, List.replicate 55 3 ++ [0, 2], (tlmUnstuff 0 0 (List.replicate 55 3 ++ [0, 2])), (tlmScramble 0 ((tlmUnstuff 0 0 (List.replicate 55 3 ++ [0, 2])).payload.flatMap pam4Bits)), by decide +kernel⟩,
   ⟨{ hostUp 13 with hst.ports := Vector.replicate 16 { period := 65535 } }, 0, by decide +kernel⟩,
   ⟨{ hostUp 13 with hst.ports := Vector.replicate 16 { period := 65535 } }, 0, 7, by decide +kernel⟩,
   ⟨setP Param.pcsFlexeGroup 4 (hostUp 2), 0, 3, by decide +kernel⟩,
   ⟨setP Param.pcsFlexeGroup 4 (hostUp 2), 3, by decide +kernel⟩⟩

/-- The hypotheses of `Obligations.Qualification` can be met. -/
theorem test_witness_Qualification :
    (∃ (s : State) (n : SlotId) (u : State) (hard : Int) (soft : Int) (x : Int), (s.clk.timeStopped = false) ∧ (judgeBase (followInputs { s with tim.xtalBPpt := x }) = u) ∧ (u.slotActive n = true) ∧ n ≠ 5 ∧ (hard.natAbs ≤ 50000000) ∧ (soft.natAbs < s.softLimit)) ∧
    (∃ (s : State) (n : SlotId) (u : State) (hard : Int) (x : Int), (s.clk.timeStopped = false) ∧ (judgeBase (followInputs { s with tim.xtalBPpt := x }) = u) ∧ (u.slotActive n = true) ∧ n ≠ 5 ∧ (50000000 < hard.natAbs) ∧ ((u.tslot n).qualified = true)) ∧
    (∃ (s : State) (n : SlotId) (x : Nat), (s.clk.timeStopped = false) ∧ ((s.tslot n).soakAt = some x)) ∧
    (∃ (s : State) (n : SlotId) (x : Nat), (s.clk.timeStopped = false) ∧ ((s.tslot n).wtrAt = some x)) ∧
    (∃ (s : State) (n : SlotId), (s.clk.timeStopped = false) ∧ (n.val = 3 ∨ n.val = 4) ∧ ((s.tslot n).actF = true) ∧ ((s.tslot n).qualified = false)) ∧
    (∃ (s : State) (n : SlotId), (s.clk.timeStopped = false) ∧ (n.val = 3 ∨ n.val = 4) ∧ ((s.tslot n).actF = true) ∧ ((s.tslot n).qualified = true) ∧ (s.isSelected n = true) ∧ (0 < s.cfg Param.rslHoldoffMs) ∧ ((s.tslot n).holdF = none)) ∧
    (∃ (s : State) (n : SlotId) (x : Nat), (s.clk.timeStopped = false) ∧ (n.val = 3 ∨ n.val = 4) ∧ ((s.tslot n).actF = false) ∧ ((s.tslot n).holdF = some x)) ∧
    (∃ (s : State) (n : SlotId) (x : Nat), (s.clk.timeStopped = false) ∧ ((s.tslot n).holdSince = some x) ∧ ((s.tslot n).qualified = true)) ∧
    (∃ (s : State) (x : Nat), (s.clk.timeStopped = false) ∧ (s.tim.xtalBAt = some x)) ∧
    (∃ (s : State) (n : SlotId) (r : Request), (s.clk.timeStopped = false) ∧ Admitted s r ∧ (r.target = { sec := 3, unit := 0 }) ∧ (r.payload = [BitVec.ofNat (8) n.val])) :=
  ⟨⟨slots { actF := true }, 3, judgeBase (followInputs { slots { actF := true } with tim.xtalBPpt := 7 }), 50000000, 100000, 7, by decide +kernel, rfl, by decide +kernel, by decide +kernel, by decide +kernel⟩,
   ⟨slots { actF := true, qualified := true }, 3, judgeBase (followInputs { slots { actF := true, qualified := true } with tim.xtalBPpt := 7 }), -50000001, 7, by decide +kernel, rfl, by decide +kernel, by decide +kernel, by decide +kernel⟩,
   ⟨slots { actF := true, measured := true, soakAt := some 0 }, 7, 0, by decide +kernel⟩,
   ⟨slots { wtrAt := some 0, qualified := true }, 7, 0, by decide +kernel⟩,
   ⟨slots { actF := true, soakAt := some 0 }, 3, by decide +kernel⟩,
   ⟨{ slots { actF := true, qualified := true } with tim.selF := some 4 }, 4, by decide +kernel⟩,
   ⟨slots { holdF := some 0, qualified := true }, 3, 0, by decide +kernel⟩,
   ⟨slots { holdF := some 0, qualified := true }, 7, 0, by decide +kernel⟩,
   ⟨{ slots {} with tim.xtalBAt := some 0, clk.ready := 0x3FF }, 0, by decide +kernel⟩,
   ⟨slots { wtrAt := some 0, qualified := true, everDisq := true }, 7, ask ⟨3, 0, 0⟩ [7], by decide +kernel⟩⟩

/-- The hypotheses of `Obligations.Selection` can be met. -/
theorem test_witness_Selection :
    (∃ (avail : List SlotId), List.Pairwise (fun x1 x2 => x1 < x2) avail) ∧
    (∃ (forced : Nat) (prio : SlotId → Nat) (cur : Option SlotId) (avail : List SlotId) (rev : Bool) (c : SlotId), (List.Pairwise (fun x1 x2 => x1 < x2) avail) ∧ (choose (0) forced rev prio cur avail = some c)) ∧
    (∃ (avail : List SlotId) (c : SlotId), (List.Pairwise (fun x1 x2 => x1 < x2) avail) ∧ c ∈ avail) ∧
    (∃ (avail : List SlotId) (mode : Nat), (List.Pairwise (fun x1 x2 => x1 < x2) avail) ∧ (2 ≤ mode)) ∧
    (∃ (s : State) (u : State), (s.clk.timeStopped = false) ∧ (judgeBase (followInputs s) = u)) :=
  ⟨⟨[1, 3], by decide +kernel⟩,
   ⟨3, (fun n => 9 - n.val), some 1, [1, 3], false, 1, by decide +kernel⟩,
   ⟨[1, 3], 3, by decide +kernel⟩,
   ⟨[1, 3], 2, by decide +kernel⟩,
   ⟨setP Param.rslPriority 1 (slots { qualified := true }) 0 3, judgeBase (followInputs (setP Param.rslPriority 1 (slots { qualified := true }) 0 3)), by decide +kernel, rfl⟩⟩

/-- The hypotheses of `Obligations.ClocksOfTime` can be met. -/
theorem test_witness_ClocksOfTime :
    (∃ (s : State) (x : Nat) (n : SlotId) (v : Int) (r : Int × Int), (s.clk.timeStopped = false) ∧ (s.tim.entryAt = some x) ∧ (s.tim.selF = some n) ∧ ((s.tslot n).holdF = none) ∧ (r = Config.loop (bandwidthMhz (s.cfgN Param.dplSyncBw)) (1000000) v s.tim.syncFreq s.tim.syncMem)) ∧
    (∃ (s : State), (s.clk.timeStopped = false) ∧ (s.tim.holdover = true) ∧ (s.tim.limit = false)) ∧
    (∃ (s : State) (e : PpsEdge) (u : State) (r : Int × Int), (s.clk.timeStopped = false) ∧ ((s.tslot 5).actP = true) ∧ (measurePulse e.intervalPs s = u) ∧ (u.tim.selP = some 5) ∧ (s.mgt.fwReady = true) ∧ (-500000000000 ≤ e.diffPs) ∧ (e.diffPs < 500000000000) ∧ (e.diffPs.natAbs ≤ s.cfgN Param.ppsStepLimitNs * 1000) ∧ (r = Config.loop (bandwidthMhz (s.cfgN Param.dplSyncBw)) (s.now - s.tim.phaseAt.getD s.now) (-e.diffPs) (0) s.tim.phaseMem)) ∧
    (∃ (s : State) (e : PpsEdge) (u : State), (s.clk.timeStopped = false) ∧ ((s.tslot 5).actP = true) ∧ (measurePulse e.intervalPs s = u) ∧ (u.tim.selP = some 5) ∧ (s.mgt.fwReady = true) ∧ (-500000000000 ≤ e.diffPs) ∧ (e.diffPs < 500000000000) ∧ (s.cfgN Param.ppsStepLimitNs * 1000 < e.diffPs.natAbs)) ∧
    (∃ (s : State), (s.clk.timeStopped = false) ∧ (s.cfgB Param.ppsPpsEnable = true) ∧ (s.syncOut = true)) ∧
    (∃ (s : State) (x : Nat), (s.clk.timeStopped = false) ∧ (s.tim.ppsHigh = true) ∧ (s.tim.ppsAt = some x)) ∧
    (∃ (s : State) (r : Request) (v : Nat), (s.clk.timeStopped = false) ∧ Admitted s r ∧ (r.target = { sec := 3, unit := 3 }) ∧ (v < 2 ^ 48) ∧ (r.payload = leBytes (8) v) ∧ s.tim.selP ≠ some 6 ∧ s.tim.selP ≠ some 7) ∧
    (∃ (s : State) (v : Nat), (s.clk.timeStopped = false) ∧ (s.tim.setTime = some v)) ∧
    (∃ (s : State) (p : Fin 2) (d : ClockData), (s.clk.timeStopped = false) ∧ (s.mgt.fwReady = true) ∧ (s.ptpOn p = true) ∧ d.sender / 65536 ≠ s.fuses.deviceId ∧ (d.steps < 255)) ∧
    (∃ (s : State) (p : Fin 2), (s.clk.timeStopped = false) ∧ (s.mgt.fwReady = true) ∧ (s.ptpOn p = true) ∧ ((s.ptpPort p).state = 2)) ∧
    (∃ (s : State) (p : Fin 2), (s.clk.timeStopped = false) ∧ (s.mgt.fwReady = true) ∧ (s.ptpOn p = true) ∧ ((s.ptpPort p).state = 4)) ∧
    (∃ (s : State) (p : Fin 2) (k : Fin 4), (s.clk.timeStopped = false) ∧ (s.mgt.fwReady = true) ∧ (s.ptpOn p = true) ∧ k.val ≠ 3 ∧ (k.val = 2 → (s.ptpPort p).state = 2 ∨ (s.ptpPort p).state = 3) ∧ (k.val ≠ 2 → (s.ptpPort p).state = 4)) ∧
    (∃ (s : State) (p : Fin 2) (u : State), (s.clk.timeStopped = false) ∧ (s.mgt.fwReady = true) ∧ (s.ptpOn p = true) ∧ (judgePtp (expireMasters s) = u) ∧ ((u.ptpPort p).state = 4)) ∧
    (∃ (s : State) (p : Fin 2) (x : Nat), (s.clk.timeStopped = false) ∧ (s.mgt.fwReady = true) ∧ ((s.ptpPort p).lastSync = some x)) :=
  ⟨⟨{ up with tim.entryAt := some 0, tim.selF := some 3 }, 0, 3, 50, (Config.loop (bandwidthMhz (({ up with tim.entryAt := some 0, tim.selF := some 3 }).cfgN Param.dplSyncBw)) 1000000 (50) ({ up with tim.entryAt := some 0, tim.selF := some 3 }).tim.syncFreq ({ up with tim.entryAt := some 0, tim.selF := some 3 }).tim.syncMem), by decide +kernel, by decide +kernel, by decide +kernel, by decide +kernel, rfl⟩,
   ⟨{ up with tim.holdover := true }, by decide +kernel⟩,
   ⟨{ slots { actP := true } with tim.selP := some 5 }, { diffPs := -1000 }, measurePulse 1000000000000 ({ slots { actP := true } with tim.selP := some 5 }), Config.loop (bandwidthMhz (({ slots { actP := true } with tim.selP := some 5 }).cfgN Param.dplSyncBw)) (({ slots { actP := true } with tim.selP := some 5 }).now - ({ slots { actP := true } with tim.selP := some 5 }).tim.phaseAt.getD ({ slots { actP := true } with tim.selP := some 5 }).now) (-(-1000)) 0 ({ slots { actP := true } with tim.selP := some 5 }).tim.phaseMem, by decide +kernel, by decide +kernel, rfl, by decide +kernel, by decide +kernel, by decide +kernel, by decide +kernel, by decide +kernel, rfl⟩,
   ⟨{ slots { actP := true } with tim.selP := some 5 }, { diffPs := 499999999999 }, measurePulse 1000000000000 ({ slots { actP := true } with tim.selP := some 5 }), by decide +kernel⟩,
   ⟨setP Param.ppsPpsEnable 1 { up with mgt.seq.step := 8 }, by decide +kernel⟩,
   ⟨{ up with tim.ppsHigh := true, tim.ppsAt := some 0 }, 0, by decide +kernel⟩,
   ⟨up, ask ⟨3, 3, 0⟩ (leBytes 8 (2 ^ 48 - 1)), 2 ^ 48 - 1, by decide +kernel⟩,
   ⟨{ up with tim.setTime := some 5, tim.devNs := 3 }, 5, by decide +kernel⟩,
   ⟨setP Param.ppsPtpEnable 1 up 0 1, 1, { clockClass := 6, sender := 7 * 65536, steps := 254 }, by decide +kernel⟩,
   ⟨setP Param.ppsPtpEnable 1 { up with tim.ptp := Vector.replicate 2 { state := 2, heard := some { clockClass := 6, sender := 7 * 65536 } } } 0 1, 1, by decide +kernel⟩,
   ⟨setP Param.ppsPtpEnable 1 { up with tim.ptp := Vector.replicate 2 { state := 4 } } 0 1, 1, by decide +kernel⟩,
   ⟨setP Param.ppsPtpEnable 1 { up with tim.ptp := Vector.replicate 2 { state := 4 } } 0 1, 1, 0, by decide +kernel⟩,
   ⟨setP Param.ppsPtpEnable 1 { up with tim.ptp := Vector.replicate 2 { state := 4 } } 0 1, 1, judgePtp (expireMasters (setP Param.ppsPtpEnable 1 { up with tim.ptp := Vector.replicate 2 { state := 4 } } 0 1)), by decide +kernel, by decide +kernel, by decide +kernel, rfl, (congrArg (fun u : State => ((judgePtp u).ptpPort 1).state) (expireMasters_silent _ (by decide +kernel))).trans (by decide +kernel)⟩,
   ⟨{ slots { actP := true } with tim.ptp := Vector.replicate 2 { state := 3, lastSync := some 0 } }, 1, 0, by decide +kernel⟩⟩

/-- The hypotheses of `Obligations.Housekeeping` can be met. -/
theorem test_witness_Housekeeping :
    (∃ (s : State) (i : SeatId), (s.hkSimultaneous = false) ∧ s.deviceState ≠ 4 ∧ Writes s i hkaPath) ∧
    (∃ (s : State) (i : SeatId) (c : ConvId) (m : BitVec 2), (s.hkSimultaneous = false) ∧ s.deviceState ≠ 4 ∧ Writes s i hkaPath ∧ (m.getLsbD c.val = true) ∧ ((s.hk c).burst = false) ∧ ((s.hk c).settling = false)) ∧
    (∃ (s : State) (i : SeatId) (c : ConvId) (m : BitVec 2), (s.hkSimultaneous = false) ∧ s.deviceState ≠ 4 ∧ Writes s i hkaPath ∧ (m.getLsbD c.val = true) ∧ ((s.hk c).burst = true)) ∧
    (∃ (s : State) (i : SeatId) (c : ConvId) (m : BitVec 2), (s.hkSimultaneous = false) ∧ s.deviceState ≠ 4 ∧ Writes s i hkaPath ∧ (m.getLsbD c.val = true) ∧ ((s.hk c).urgent = false) ∧ ((s.hk c).settling = false) ∧ s.cfgN Param.hkaUrgLength (0) c.val ≠ 0) ∧
    (∃ (s : State) (c : ConvId), (s.hkSimultaneous = false) ∧ s.deviceState ≠ 4 ∧ (s.cfg Param.hkaSeqTrigger (0) c.val = 1) ∧ ((s.hk c).burst = false) ∧ ((s.hk c).settling = false)) ∧
    (∃ (s : State) (c : ConvId) (n : Nat), (s.hkSimultaneous = false) ∧ s.deviceState ≠ 4 ∧ (s.dom.flint.hkDue = n + 1) ∧ (s.cfg Param.hkaSeqTrigger (0) c.val = 2) ∧ ((s.hk c).burst = false) ∧ ((s.hk c).settling = false)) ∧
    (∃ (s : State) (k : Fin 8) (uv : Nat) (below : Bool) (above : Bool) (was : Bool), (s.hkSimultaneous = false) ∧ s.deviceState ≠ 4 ∧ (s.windowSide k uv = (below, above)) ∧ (was = (s.feh.below.getLsbD k.val || s.feh.above.getLsbD k.val))) ∧
    (∃ (s : State) (c : ConvId) (code : Nat) (rest : List Nat), s.deviceState ≠ 4 ∧ ((s.hk c).settling = false) ∧ ((s.hk c).urg = code :: rest) ∧ ((s.hk c).refUsed = 0)) ∧
    (∃ (s : State) (c : ConvId) (code : Nat) (rest : List Nat), s.deviceState ≠ 4 ∧ ((s.hk c).settling = false) ∧ ((s.hk c).urg = []) ∧ (s.hkSimultaneous = false) ∧ ((s.hk c).pass = code :: rest) ∧ rest ≠ [] ∧ ((s.hk c).stopping = false) ∧ ((s.hk c).refUsed = 2)) ∧
    (∃ (s : State) (c : ConvId), s.deviceState ≠ 4 ∧ ((s.hk c).settling = false) ∧ (s.hkSimultaneous = true) ∧ (c.val = 0) ∧ ((s.hk 0).urg = []) ∧ ((s.hk 1).urg = []) ∧ ((s.hk 1).settling = false)) ∧
    (∃ (s : State) (c : ConvId), s.deviceState ≠ 4 ∧ ((s.hk c).settling = true) ∧ ((s.hk c).heldSeq = false) ∧ ((s.hk c).heldUrg = false) ∧ (s.hkSimultaneous = false)) ∧
    (∃ (s : State) (c : ConvId), s.deviceState ≠ 4 ∧ ((s.hk c).refUsed = 1)) ∧
    (∃ (s : State) (i : SeatId), s.deviceState ≠ 4 ∧ Writes s i hkaPath) :=
  ⟨⟨hks { settling := false, startSh := 5, lengthSh := 63 }, 0, by decide +kernel⟩,
   ⟨hks { settling := false }, 0, 1, 2, by decide +kernel⟩,
   ⟨hks { settling := false, burst := true }, 0, 1, 3, by decide +kernel⟩,
   ⟨setP Param.hkaUrgLength 8 (hks { settling := false, burst := true }) 0 1, 0, 1, 2, by decide +kernel⟩,
   ⟨setP Param.hkaSeqTrigger 1 (hks { settling := false }) 0 1, 1, by decide +kernel⟩,
   ⟨setP Param.hkaSeqTrigger 2 { hks { settling := false } with dom.flint := { hkDue := 3 } } 0 1, 1, 2, by decide +kernel⟩,
   ⟨setP Param.hkaCompMode 3 (hks { settling := false }) 0 7, 7, 900000, ((setP Param.hkaCompMode 3 (hks { settling := false }) 0 7).windowSide 7 900000).1, ((setP Param.hkaCompMode 3 (hks { settling := false }) 0 7).windowSide 7 900000).2, false, by decide +kernel⟩,
   ⟨hks { settling := false, urg := [3], urgPos := 7, urgent := true }, 1, 3, [], by decide +kernel⟩,
   ⟨hks { settling := false, burst := true, passes := 1, pass := [3, 4], refUsed := 2 }, 1, 3, [4], by decide +kernel⟩,
   ⟨setP Param.hkaSimultaneous 1 (hks { settling := false, burst := true, passes := 1, pass := [3, 4] }), 0, by decide +kernel⟩,
   ⟨hks {}, 1, by decide +kernel⟩,
   ⟨hks { refUsed := 1 }, 1, by decide +kernel⟩,
   ⟨hks { full := true }, 0, by decide +kernel⟩⟩

/-- The hypotheses of `Obligations.ResultFormat` can be met. -/
theorem test_witness_ResultFormat :
    (∃ (v : Int), (0 ≤ v) ∧ (v ≤ 4095)) ∧
    (∃ (v : Int), (-2048 ≤ v) ∧ (v ≤ 2047)) ∧
    (∃ (v : Int) (b : Nat), (-2048 ≤ v) ∧ (v ≤ 2047) ∧ (12 ≤ b) ∧ (b < 16)) ∧
    (∃ (v : Int), (-2048 ≤ v) ∧ (v ≤ 4095)) :=
  ⟨⟨4095, by decide +kernel⟩,
   ⟨-2048, by decide +kernel⟩,
   ⟨-2048, 15, by decide +kernel⟩,
   ⟨4095, by decide +kernel⟩⟩

/-- The hypotheses of `Obligations.BiasAndLaser` can be met. -/
theorem test_witness_BiasAndLaser :
    (∃ (s : State) (n : HkDacId) (x : Nat), s.feh.dacs[n].rampAt = some x) ∧
    (∃ (s : State) (b : Fin 6) (c : ConvId) (samples : List (Nat × Int)) (made : List (Nat × Int)) (vref : Nat) (want : Nat) (ends : Nat), s.deviceState ≠ 4 ∧ (s.feh.active = some b) ∧ (s.clk.safeState = false) ∧ (s.biasOn b = true) ∧ (c.val = s.cfgN Param.abcConverter % 2) ∧ (want = 16 * s.cfgN Param.abcDwellPeriods) ∧ (made = s.dwellSamples samples vref) ∧ (ends = s.feh.dwellAt + s.cfgN Param.abcDwellPeriods * 1000000 / max (1) (s.cfgN Param.abcDitherHz)) ∧ ((s.hk c).settling = true ∨ s.feh.dwellAt < (s.hk c).settledAt ∨ 16 * made.length < 15 * want ∨ made = [])) ∧
    (∃ (s : State) (b : Fin 6) (c : ConvId) (samples : List (Nat × Int)) (made : List (Nat × Int)) (vref : Nat) (want : Nat) (ends : Nat), s.deviceState ≠ 4 ∧ (s.feh.active = some b) ∧ (s.clk.safeState = false) ∧ (s.biasOn b = true) ∧ (c.val = s.cfgN Param.abcConverter % 2) ∧ (want = 16 * s.cfgN Param.abcDwellPeriods) ∧ (made = s.dwellSamples samples vref) ∧ (ends = s.feh.dwellAt + s.cfgN Param.abcDwellPeriods * 1000000 / max (1) (s.cfgN Param.abcDitherHz)) ∧ ((s.hk c).settling = false) ∧ ((s.hk c).settledAt ≤ s.feh.dwellAt) ∧ (15 * want ≤ 16 * made.length) ∧ made ≠ []) ∧
    (∃ (s : State) (r : Request), Admitted s r ∧ (r.target = { sec := 14, unit := 2 }) ∧ (r.payload = [])) ∧
    (∃ (s : State) (n : Nat) (ws : List Word64) (b0 : Byte) (b1 : Byte) (b2 : Byte) (b3 : Byte), (s.itlOn = true) ∧ (s.feh.itl.busy = none) ∧ (s.boundaryHeld = false) ∧ (∀ (w : Nat), s.mem.flipsOf 0 w = 0) ∧ (s.loopOn = false) ∧ (s.mem.queues[10].packetLength = some n) ∧ (List.map SpqWord.data (List.take n s.mem.queues[10].words) = ws) ∧ (leBytes (4) ((List.map BitVec.toNat ws).headD (0)) = [b0, b1, b2, b3])) ∧
    (∃ (s : State) (v : Int), (s.itlOn = true) ∧ (s.feh.itl.busy = none) ∧ (s.boundaryHeld = false) ∧ (∀ (w : Nat), s.mem.flipsOf 0 w = 0) ∧ (s.loopOn = true) ∧ (s.feh.itl.waits = some (ItlCommand.loopWrite v))) ∧
    (∃ (s : State) (b : Vector Byte 4) (c : ItlCommand), (s.feh.itl.busy = some c) ∧ (b[0] &&& Nat.cast (240) = itlChecksum b[0] b[1] b[2] b[3]) ∧ (c = ItlCommand.seat) ∧ (∀ (w : Nat), s.mem.flipsOf 0 w = 0) ∧ (s.mem.queues[11].dropping = false) ∧ (1 + s.mem.queues[11].count ≤ s.queueCapacity 11)) ∧
    (∃ (s : State) (b : Vector Byte 4) (c : ItlCommand) (v : Int), (s.feh.itl.busy = some c) ∧ (b[0] &&& Nat.cast (240) = itlChecksum b[0] b[1] b[2] b[3]) ∧ (v = intOfNat (16) (BitVec.toNat b[2] * 256 + BitVec.toNat b[3])) ∧ (c = ItlCommand.loopRead) ∧ (BitVec.toNat b[0] % 4 = 0 ∨ BitVec.toNat b[0] % 4 = 3)) ∧
    (∃ (s : State) (b : Vector Byte 4) (c : ItlCommand), (s.feh.itl.busy = some c) ∧ b[0] &&& Nat.cast (240) ≠ itlChecksum b[0] b[1] b[2] b[3]) ∧
    (∃ (s : State) (c : ItlCommand), s.feh.itl.busy = some c) ∧
    (∃ (s : State), (s.loopOn = true) ∧ (s.feh.itl.known = false)) ∧
    (∃ (s : State) (fo : Int), (s.loopOn = true) ∧ (s.feh.itl.known = true) ∧ (s.loopEstimate = some fo) ∧ (s.cfgN Param.itlFtfDeadbandMhz * 1000 < fo.natAbs) ∧ (0 ≤ s.cfg Param.itlFtfLimitMhz)) :=
  ⟨⟨{ up with feh.dacs := Vector.replicate 12 { code := 5, target := 900, rampAt := some 0 } }, 11, 0, by decide +kernel⟩,
   ⟨dwelling, 5, 1, [], dwelling.dwellSamples [] 1200000, 1200000, 16 * dwelling.cfgN Param.abcDwellPeriods, dwelling.feh.dwellAt + dwelling.cfgN Param.abcDwellPeriods * 1000000 / max 1 (dwelling.cfgN Param.abcDitherHz), by decide +kernel⟩,
   ⟨dwelling, 5, 1, dwellSamples, dwelling.dwellSamples dwellSamples 1200000, 1200000, 16 * dwelling.cfgN Param.abcDwellPeriods, dwelling.feh.dwellAt + dwelling.cfgN Param.abcDwellPeriods * 1000000 / max 1 (dwelling.cfgN Param.abcDitherHz), by decide +kernel⟩,
   ⟨{ setP Param.abcEnable 0x3F up with feh.biases := Vector.replicate 6 { locked := true } }, ask ⟨14, 2, 0⟩ [], by decide +kernel⟩,
   ⟨{ setP Param.itlEnable 1 up with mem.queues := Vector.replicate 24 { head := [⟨0x04030201, true⟩] } }, 1, [0x04030201], 1, 2, 3, 4, by decide +kernel, by decide +kernel, by decide +kernel, fun _ => rfl, by decide +kernel, by decide +kernel, by decide +kernel, by decide +kernel⟩,
   ⟨{ setP Param.itlFtfSource 1 (setP Param.itlEnable 1 up) with feh.itl := { waits := some (.loopWrite (-5)) } }, -5, by decide +kernel, by decide +kernel, by decide +kernel, fun _ => rfl, by decide +kernel, by decide +kernel⟩,
   ⟨{ setP Param.itlEnable 1 up with feh.itl := { busy := some .seat } }, #v[1 + itlChecksum 1 2 3 4, 2, 3, 4], .seat, by decide +kernel, by decide +kernel, by decide +kernel, fun _ => rfl, by decide +kernel, by decide +kernel⟩,
   ⟨{ setP Param.itlEnable 1 up with feh.itl := { busy := some .loopRead } }, #v[0 + itlChecksum 0 2 3 4, 2, 3, 4], .loopRead, 772, by decide +kernel⟩,
   ⟨{ setP Param.itlEnable 1 up with feh.itl := { busy := some .seat } }, #v[17 + itlChecksum 1 2 3 4, 2, 3, 4], .seat, by decide +kernel⟩,
   ⟨{ setP Param.itlEnable 1 up with feh.itl := { busy := some .seat } }, .seat, by decide +kernel⟩,
   ⟨setP Param.itlFtfSource 1 (setP Param.itlEnable 1 up), by decide +kernel⟩,
   ⟨{ setP Param.itlFtfSource 1 (setP Param.itlEnable 1 up) with feh.itl := { known := true }, rxd.rxState := .locked, rxd.foKHz := 500000 }, 500000, by decide +kernel⟩⟩

/-- The hypotheses of `Obligations.Ownership` can be met. -/
theorem test_witness_Ownership :
    (∃ (s : State) (r : Request) (ws : List Nat) (ps : List Path), Served s r ∧ (r.target = { sec := 0, unit := 4 }) ∧ (ps = List.map Path.ofWord ws) ∧ (readPaths r.payload false = PathList.ok ws) ∧ (isRepeat r ps s = false)) ∧
    (∃ (s : State) (r : Request) (ws : List Nat) (ps : List Path), Served s r ∧ (r.target = { sec := 0, unit := 4 }) ∧ (ps = List.map Path.ofWord ws) ∧ (readPaths r.payload false = PathList.ok ws) ∧ (isRepeat r ps s = true)) ∧
    (∃ (s : State) (r : Request) (ws : List Nat) (ps : List Path), Served s r ∧ (r.target = { sec := 0, unit := 4 }) ∧ (ps = List.map Path.ofWord ws) ∧ (readPaths r.payload false = PathList.ok ws)) ∧
    (∃ (s : State) (r : Request) (ws : List Nat) (ps : List Path), Served s r ∧ (r.target = { sec := 0, unit := 4 }) ∧ (ps = List.map Path.ofWord ws) ∧ (readPaths r.payload false = PathList.ok ws) ∧ (r.seat = 0)) ∧
    (∃ (s : State) (r : Request) (ws : List Nat) (ps : List Path), Served s r ∧ (r.target = { sec := 0, unit := 4 }) ∧ (ps = List.map Path.ofWord ws) ∧ r.seat ≠ 0) ∧
    (∃ (s : State) (r : Request) (ws : List Nat) (ps : List Path) (j : SeatId), Served s r ∧ (r.target = { sec := 0, unit := 4 }) ∧ (ps = List.map Path.ofWord ws) ∧ (4 ≤ r.payload.length) ∧ (u32At r.payload (0) = j.val) ∧ (readPaths (List.drop (4) r.payload) false = PathList.ok ws) ∧ ((s.seat j).attached = true)) ∧
    (∃ (s : State) (r : Request) (ws : List Nat) (ps : List Path) (j : SeatId), Served s r ∧ (r.target = { sec := 0, unit := 4 }) ∧ (ps = List.map Path.ofWord ws) ∧ (4 ≤ r.payload.length) ∧ (u32At r.payload (0) = j.val) ∧ (readPaths (List.drop (4) r.payload) false = PathList.ok ws) ∧ ((s.seat j).attached = false)) :=
  ⟨⟨owned none ⟨6, 2, 0⟩, ask ⟨0, 4, 0⟩ (wordsOf [⟨6, 2, 0⟩, ⟨7, 0, 0⟩]), [Path.word ⟨6, 2, 0⟩, Path.word ⟨7, 0, 0⟩], [⟨6, 2, 0⟩, ⟨7, 0, 0⟩], by decide +kernel⟩,
   ⟨{ owned (some 1) ⟨6, 2, 0⟩ with mgt.seats := up.mgt.seats.set 0 { failedClaim := some ⟨[Path.key ⟨6, 2, 0⟩], 9, some 3⟩ } }, ask ⟨0, 4, 0⟩ (wordsOf [⟨6, 2, 0⟩]), [Path.word ⟨6, 2, 0⟩], [⟨6, 2, 0⟩], by decide +kernel⟩,
   ⟨up, ask ⟨0, 4, 0⟩ (wordsOf [⟨6, 2, 0⟩, ⟨0, 0, 0⟩, ⟨6, 2, 0⟩]), [Path.word ⟨6, 2, 0⟩, Path.word ⟨0, 0, 0⟩, Path.word ⟨6, 2, 0⟩], [⟨6, 2, 0⟩, ⟨0, 0, 0⟩, ⟨6, 2, 0⟩], by decide +kernel⟩,
   ⟨owned (some 1) ⟨10, 1, 127⟩, ask ⟨0, 4, 0⟩ (wordsOf [⟨10, 1, 127⟩, ⟨0, 1, 0⟩]), [Path.word ⟨10, 1, 127⟩, Path.word ⟨0, 1, 0⟩], [⟨10, 1, 127⟩, ⟨0, 1, 0⟩], by decide +kernel⟩,
   ⟨up, { ask ⟨0, 4, 0⟩ [] with seat := 2 }, [], [], by decide +kernel⟩,
   ⟨attached up, ask ⟨0, 4, 0⟩ ([3, 0, 0, 0] ++ wordsOf [⟨10, 1, 127⟩, ⟨0, 0, 0⟩]), [Path.word ⟨10, 1, 127⟩, Path.word ⟨0, 0, 0⟩], [⟨10, 1, 127⟩, ⟨0, 0, 0⟩], 3, by decide +kernel⟩,
   ⟨up, ask ⟨0, 4, 0⟩ ([3, 0, 0, 0] ++ wordsOf [⟨10, 1, 127⟩]), [Path.word ⟨10, 1, 127⟩], [⟨10, 1, 127⟩], 3, by decide +kernel⟩⟩

/-- The hypotheses of `Obligations.SlatesAndMutes` can be met. -/
theorem test_witness_SlatesAndMutes :
    (∃ (s : State) (r : Request) (rs : List ParamRecord), Admitted s r ∧ (r.payload.length = 12 * rs.length) ∧ (rs.length ≤ 83) ∧ (List.map ParamRecord.ofBytes (records (12) r.payload) = rs) ∧ ((rs.any fun x => deviceWide r.target x.num) = false) ∧ (List.findIdx? (fun x => (x.value r.target).isNone) rs = none)) ∧
    (∃ (s : State) (r : Request) (rs : List ParamRecord) (n : Nat), Admitted s r ∧ (r.payload.length = 12 * rs.length) ∧ (rs.length ≤ 83) ∧ (List.map ParamRecord.ofBytes (records (12) r.payload) = rs) ∧ ((rs.any fun x => deviceWide r.target x.num) = false) ∧ (List.findIdx? (fun x => (x.value r.target).isNone) rs = some n)) ∧
    (∃ (s : State) (r : Request) (rs : List ParamRecord), Admitted s r ∧ (r.payload.length = 12 * rs.length) ∧ (rs.length ≤ 83) ∧ (List.map ParamRecord.ofBytes (records (12) r.payload) = rs) ∧ ((rs.any fun x => deviceWide r.target x.num) = true)) ∧
    (∃ (s : State) (r : Request), Admitted s r ∧ (r.payload = [])) ∧
    (∃ (s : State) (r : Request) (on : Bool) (l : LaneId), Admitted s r ∧ (r.payload = leBytes (4) (bit on)) ∧ (r.target = { sec := 13, unit := l.val })) ∧
    (∃ (s : State) (r : Request) (on : Bool) (ch : Fin 4), Admitted s r ∧ (r.payload = leBytes (4) (bit on)) ∧ (r.target = { sec := 5, unit := 4 + ch.val })) ∧
    (∃ (s : State) (r : Request) (on : Bool), Admitted s r ∧ (r.payload = leBytes (4) (bit on)) ∧ r.target.sec ≠ 13 ∧ r.target.sec ≠ 5) ∧
    (∃ (s : State) (r : Request) (m : BitVec 256), Asked s r ∧ (r.payload = leBytes (32) m.toNat)) :=
  ⟨⟨up, ask ⟨12, 3, 0⟩ [1, 0, 0, 0, 12, 0, 0, 0, 0, 0, 0, 0], [ParamRecord.ofBytes [1, 0, 0, 0, 12, 0, 0, 0, 0, 0, 0, 0]], by decide +kernel⟩,
   ⟨up, ask ⟨12, 3, 0⟩ [1, 0, 0, 0, 12, 0, 0, 0, 0, 0, 0, 0, 1, 0, 0, 0, 13, 0, 0, 0, 0, 0, 0, 0], [ParamRecord.ofBytes [1, 0, 0, 0, 12, 0, 0, 0, 0, 0, 0, 0], ParamRecord.ofBytes [1, 0, 0, 0, 13, 0, 0, 0, 0, 0, 0, 0]], 1, by decide +kernel⟩,
   ⟨up, ask ⟨10, 0, 3⟩ [7, 0, 0, 0, 1, 0, 0, 0, 0, 0, 0, 0], [ParamRecord.ofBytes [7, 0, 0, 0, 1, 0, 0, 0, 0, 0, 0, 0]], by decide +kernel⟩,
   ⟨{ up with mgt.seats := up.mgt.seats.set 0 { slate := [(paramKey ⟨12, 3, 0⟩ 1 0, 5), (paramKey ⟨13, 3, 0⟩ 1 0, 5)] } }, ask ⟨12, 3, 0⟩ [], by decide +kernel⟩,
   ⟨up, ask ⟨13, 15, 0⟩ [1, 0, 0, 0], true, 15, by decide +kernel⟩,
   ⟨up, ask ⟨5, 7, 0⟩ [1, 0, 0, 0], true, 3, by decide +kernel⟩,
   ⟨up, ask ⟨6, 0, 0⟩ [1, 0, 0, 0], true, by decide +kernel⟩,
   ⟨{ up with mgt.seats := Vector.replicate 4 { events := { sticky := 0xFF } } }, ask ⟨0, 1, 0⟩ (leBytes 32 0x18), 0x18, by decide +kernel⟩⟩

/-- The hypotheses of `Obligations.Queries` can be met. -/
theorem test_witness_Queries :
    (∃ (s : State) (r : Request), Asked s r ∧ (r.payload = [])) ∧
    (∃ (s : State) (r : Request), Asked s r ∧ (r.payload = []) ∧ (r.target = { sec := 9, unit := 0 })) ∧
    (∃ (s : State) (r : Request), Asked s r ∧ (r.payload = []) ∧ (r.target = { sec := 11, unit := 2 }) ∧ (s.lod.identified = true)) ∧
    (∃ (s : State) (r : Request), Asked s r ∧ (r.payload = []) ∧ (r.target = { sec := 11, unit := 2 }) ∧ (s.lod.identified = false)) ∧
    (∃ (s : State) (r : Request), Asked s r ∧ (r.payload = []) ∧ (r.target = { sec := 3, unit := 0 })) ∧
    (∃ (s : State) (r : Request), Asked s r ∧ (r.payload = []) ∧ (r.target = { sec := 14, unit := 3 })) ∧
    (∃ (s : State) (r : Request), Asked s r ∧ (r.payload = []) ∧ (r.target = { sec := 1, unit := 1 })) ∧
    (∃ (s : State) (r : Request) (c : ChannelId), Asked s r ∧ (r.target = { sec := 10, unit := 0, inst := c.val }) ∧ (r.payload = [])) ∧
    (∃ (s : State) (r : Request) (n : Fin 16), Asked s r ∧ (r.target = { sec := 13, unit := 17 }) ∧ (r.payload = [BitVec.ofNat (8) n.val])) ∧
    (∃ (s : State) (r : Request) (c : Fin 64), Asked s r ∧ (r.target = { sec := 9, unit := 1 }) ∧ (r.payload = [BitVec.ofNat (8) c.val])) ∧
    (∃ (s : State) (r : Request) (n : Nat) (bs : List (List Byte)), Asked s r ∧ (n ≤ 83) ∧ (r.payload.length = 4 * n) ∧ (∀ (x : List Byte), x ∈ records (4) r.payload → deviceWide r.target (u16At x (0)) = false) ∧ (List.map (readItem s r.target) (records (4) r.payload) = List.map some bs)) ∧
    (∃ (s : State) (r : Request) (n : Fin 1024), Asked s r ∧ (s.owns r.seat r.target = true) ∧ (r.payload = leBytes (2) n.val)) ∧
    (∃ (s : State) (r : Request) (ws : List Nat), Asked s r ∧ (r.target = { sec := 0, unit := 4 }) ∧ (readPaths r.payload false = PathList.ok ws)) :=
  ⟨⟨up, ask ⟨0, 5, 0⟩ [], by decide +kernel⟩,
   ⟨up, ask ⟨9, 0, 0⟩ [], by decide +kernel⟩,
   ⟨{ up with lod.identified := true, lod.partner := List.replicate 32 7 }, ask ⟨11, 2, 0⟩ [], by decide +kernel⟩,
   ⟨up, ask ⟨11, 2, 0⟩ [], by decide +kernel⟩,
   ⟨up, ask ⟨3, 0, 0⟩ [], by decide +kernel⟩,
   ⟨{ up with feh.itl := { inForce := -3, ftf := 9, known := true } }, ask ⟨14, 3, 0⟩ [], by decide +kernel⟩,
   ⟨up, ask ⟨1, 1, 0⟩ [], by decide +kernel⟩,
   ⟨keyed, ask ⟨10, 0, 63⟩ [], 63, by decide +kernel⟩,
   ⟨{ up with hst.calendar := [(1200, 4), (1279, 5)], hst.standby := [(1200, 6)] }, ask ⟨13, 17, 0⟩ [15], 15, by decide +kernel⟩,
   ⟨up, ask ⟨9, 1, 0⟩ [63], 63, by decide +kernel⟩,
   ⟨up, ask ⟨12, 3, 0⟩ [1, 0, 0, 0], 1, [leBytes 2 1 ++ leBytes 2 0 ++ leBytes 8 0], by decide +kernel⟩,
   ⟨{ up with mgt.seats := up.mgt.seats.set 0 { slate := [(paramKey ⟨12, 3, 0⟩ 1 0, 5), (paramKey ⟨13, 3, 0⟩ 1 0, 5)] } }, ask ⟨12, 3, 0⟩ [0, 0], 0, by decide +kernel⟩,
   ⟨{ owned none ⟨6, 2, 0⟩ with mgt.seats := Vector.replicate 4 { quarantined := true } }, ask ⟨0, 4, 0⟩ (wordsOf [⟨10, 1, 127⟩, ⟨6, 2, 0⟩, ⟨6, 31, 0⟩]), [Path.word ⟨10, 1, 127⟩, Path.word ⟨6, 2, 0⟩, Path.word ⟨6, 31, 0⟩], by decide +kernel⟩⟩

/-- The hypotheses of `Obligations.SeatLifeAndLinks` can be met. -/
theorem test_witness_SeatLifeAndLinks :
    (∃ (s : State) (i : SeatId) (v : Word), (s.clk.mgmtStopped = false) ∧ ((s.seat i).quarantined = false) ∧ (BitVec.toNat v / 2 ^ 16 % 2 ^ 8 = 1) ∧ ((s.seat i).detached = false) ∧ ((s.seat i).absent = false)) ∧
    (∃ (s : State) (i : SeatId) (v : Word), (s.clk.mgmtStopped = false) ∧ ((s.seat i).quarantined = false) ∧ (BitVec.toNat v / 2 ^ 16 % 2 ^ 8 = 1) ∧ ((s.seat i).detached = true ∨ (s.seat i).absent = true)) ∧
    (∃ (s : State) (i : SeatId) (v : Word), (s.clk.mgmtStopped = false) ∧ ((s.seat i).quarantined = false) ∧ BitVec.toNat v / 2 ^ 16 % 2 ^ 8 ≠ 1) ∧
    (∃ (s : State) (i : SeatId), (s.clk.mgmtStopped = false) ∧ ((s.seat i).quarantined = false)) ∧
    (∃ (s : State) (i : SeatId) (v : Word), (s.clk.mgmtStopped = false) ∧ ((s.seat i).quarantined = false) ∧ (BitVec.toNat v < 2 ^ 16) ∧ (BitVec.toNat v = 0 ∨ 10 ≤ BitVec.toNat v ∧ BitVec.toNat v ≤ 60000)) ∧
    (∃ (s : State) (i : SeatId), (s.clk.mgmtStopped = false) ∧ ((s.seat i).attached = true) ∧ ((s.seat i).absent = false) ∧ (s.seat i).hbTimeoutMs ≠ 0) ∧
    (∃ (s : State), s.clk.mgmtStopped = false) ∧
    (∃ (s : State) (pf : Fin 2) (i : SeatId), seatOfFunction s.mapB pf = i) :=
  ⟨⟨up, 2, 0x01FFFF, by decide +kernel⟩,
   ⟨{ up with mgt.seats := Vector.replicate 4 { detached := true } }, 0, 0x01FFFF, by decide +kernel⟩,
   ⟨up, 2, 0x00FFFF, by decide +kernel⟩,
   ⟨up, 2, by decide +kernel⟩,
   ⟨up, 2, 10, by decide +kernel⟩,
   ⟨{ up with mgt.seats := Vector.replicate 4 { attached := true, hbTimeoutMs := 10 } }, 0, by decide +kernel⟩,
   ⟨{ attached up with mgt.channel := [ask ⟨0, 4, 0⟩ []] }, by decide +kernel⟩,
   ⟨attached up, 1, 1, by decide +kernel⟩⟩

/-- The hypotheses of `Obligations.DoorbellIgnored` can be met. -/
theorem test_witness_DoorbellIgnored :
    ∃ (s : State) (i : SeatId), (s.clk.mgmtStopped = false) ∧ ((s.seat i).quarantined = false) ∧ ((s.seat i).attached = false) :=
  ⟨up, 3, by decide +kernel⟩

/-- The hypotheses of `Obligations.RingServing` can be met. -/
theorem test_witness_RingServing :
    (∃ (s : State) (i : SeatId) (off : Fin 8192) (bs : List Byte), (s.clk.mgmtStopped = false) ∧ ((s.seat i).quarantined = false) ∧ (∀ (w : Nat), s.mem.flipsOf 1 w = 0) ∧ (off.val + bs.length ≤ 8192) ∧ (s.memoryWf = true) ∧ (ringAccess (isPcieSeat s.mapB i) off.val bs.length = true)) ∧
    (∃ (s : State) (i : SeatId) (bytes : List Byte) (h : Header) (c : CmdClass), (s.clk.mgmtStopped = false) ∧ ((s.seat i).quarantined = false) ∧ ((s.seat i).attached = true) ∧ ((s.seat i).doorbells = []) ∧ ((s.seat i).reqTail = (s.seat i).reqHead) ∧ ((s.seat i).rspFull = false) ∧ ((s.seat i).rspWait = []) ∧ (∀ (w : Nat), s.mem.flipsOf 1 w = 0) ∧ (readBytes (s.seat i).reqRing (ringOffset (s.seat i).reqHead) (128) = bytes) ∧ (Header.ofNat (leNat (List.take (16) bytes)) = h) ∧ (h.length ≤ 108) ∧ (h.entries = 0) ∧ (firstRsvBit (leNat (List.take (16) bytes)) = none) ∧ (classOfCode h.cls = some c) ∧ c ≠ CmdClass.urgent ∧ (crc32c (List.take (16 + h.length) bytes) = leNat (List.take (4) (List.drop (16 + h.length) bytes))) ∧ (h.seq = (s.seat i).seqExpect.toNat)) ∧
    (∃ (s : State) (i : SeatId) (tail : BitVec 7), (s.clk.mgmtStopped = false) ∧ ((s.seat i).quarantined = false) ∧ ((s.seat i).attached = true) ∧ (64 < ((s.seat i).reqTail - (s.seat i).reqHead).toNat + (tail - (s.seat i).reqTail).toNat) ∧ tail ≠ (s.seat i).reqTail) ∧
    (∃ (s : State) (i : SeatId) (head : BitVec 7), (s.clk.mgmtStopped = false) ∧ ((s.seat i).quarantined = false) ∧ ((s.seat i).rspWait = []) ∧ ((s.seat i).doorbells = []) ∧ (((s.seat i).rspTail - head).toNat < 64)) ∧
    (∃ (s : State) (i : SeatId) (x : Nat), (s.clk.mgmtStopped = false) ∧ ((s.seat i).quarantined = false) ∧ ((s.seat i).rspFullSince = some x) ∧ ((s.seat i).rspStalled = false)) ∧
    (∃ (s : State) (i : SeatId), (s.clk.mgmtStopped = false) ∧ ((s.seat i).quarantined = false)) ∧
    (∃ (s : State) (i : SeatId) (bs : List Byte) (a : Nat), (s.clk.mgmtStopped = false) ∧ ((s.seat i).quarantined = false) ∧ (s.bootWindow i = true) ∧ (a + bs.length ≤ 4194304)) :=
  ⟨⟨up, 0, 8188, [1, 2, 3, 4], by decide +kernel, by decide +kernel, fun _ => rfl, by decide +kernel⟩,
   ⟨rung, 0, nopEntry, ⟨0, 1, false, 0, 0, 9, 0, ⟨0, 5, 0⟩⟩, .normal, by decide +kernel, by decide +kernel, by decide +kernel, by decide +kernel, by decide +kernel, by decide +kernel, by decide +kernel, fun _ => rfl, by decide +kernel⟩,
   ⟨attached up, 0, 65, by decide +kernel⟩,
   ⟨{ up with mgt.seats := up.mgt.seats.set 0 { rspTail := 64, rspFullSince := some 3 } }, 0, 1, by decide +kernel⟩,
   ⟨{ up with mgt.seats := up.mgt.seats.set 0 { rspTail := 64, rspFullSince := some 3 } }, 0, 3, by decide +kernel⟩,
   ⟨up, 0, by decide +kernel⟩,
   ⟨{ up with clk.mgmtStopped := false, mgt.seq := { step := 6, straps := 0x10 } }, 0, [1, 2], 4194302, by decide +kernel⟩⟩

/-- The hypotheses of `Obligations.UnitResets` can be met. -/
theorem test_witness_UnitResets :
    (∃ (s : State) (r : Request), Served s r ∧ (r.target.isTarget = true) ∧ (resetRefused r.target = false) ∧ (s.owns r.seat r.target = true) ∧ (r.payload = [])) ∧
    (∃ (s : State) (r : Request), Served s r ∧ (r.target.isTarget = true) ∧ (resetRefused r.target = true)) ∧
    (∃ (s : State) (r : Request), Served s r ∧ (r.target.unit = 0) ∧ (r.target.inst = 0) ∧ (r.target.sec < 16) ∧ r.target.sec ≠ 0 ∧ r.target.sec ≠ 1 ∧ r.target.sec ≠ 2 ∧ r.target.sec ≠ 4 ∧ (∀ (p : Path), p ∈ sectionTargets r.target.sec → s.owns r.seat p = true) ∧ (r.payload = [])) ∧
    (∃ (s : State) (p : Path) (ps : List Path), List.find? (fun qs => qs.contains p) s.mgt.resetting = some ps) ∧
    (∃ (s : State) (p : Path) (ps : List Path), (List.find? (fun qs => qs.contains p) s.mgt.resetting = some ps) ∧ (¬{ sec := 7, unit := 1 } ∈ ps)) :=
  ⟨⟨setP Param.capSource 3 up, ask ⟨12, 3, 0⟩ [], by decide +kernel⟩,
   ⟨up, ask ⟨2, 0, 0⟩ [], by decide +kernel⟩,
   ⟨setP Param.capSource 3 up, ask ⟨12, 0, 0⟩ [], by decide +kernel⟩,
   ⟨{ ln up with mgt.resetting := [[⟨7, 1, 0⟩]], mgt.waiting := [.reset (ask ⟨7, 1, 0⟩ []) [⟨7, 1, 0⟩]] }, ⟨7, 1, 0⟩, [⟨7, 1, 0⟩], by decide +kernel⟩,
   ⟨{ up with mgt.resetting := [[⟨12, 3, 0⟩]], mgt.waiting := [.reset (ask ⟨12, 3, 0⟩ []) [⟨12, 3, 0⟩]] }, ⟨12, 3, 0⟩, [⟨12, 3, 0⟩], by decide +kernel⟩⟩

/-- The hypotheses of `Obligations.ControlRestarts` can be met. -/
theorem test_witness_ControlRestarts :
    (∃ (s : State) (r : Request), (s.clk.mgmtStopped = false) ∧ Served s r ∧ (r.seat = 0) ∧ (r.target = { sec := 0, unit := 5 }) ∧ (r.payload = [])) ∧
    (∃ (s : State), (s.clk.mgmtStopped = false) ∧ (s.mgt.fwReady = true)) ∧
    (∃ (s : State), (s.clk.mgmtStopped = false) ∧ (s.mgt.restarting = false)) ∧
    (∃ (s : State), (s.clk.mgmtStopped = false) ∧ (s.mgt.restarting = true)) :=
  ⟨⟨{ attached up with mgt.channel := [ask ⟨0, 4, 0⟩ []] }, ask ⟨0, 5, 0⟩ [], by decide +kernel⟩,
   ⟨{ attached up with mgt.channel := [ask ⟨0, 4, 0⟩ []] }, by decide +kernel⟩,
   ⟨attached up, by decide +kernel⟩,
   ⟨{ attached up with mgt.restarting := true, mgt.seq.step := 8 }, by decide +kernel⟩⟩

/-- The hypotheses of `Obligations.DomainDiscovery` can be met. -/
theorem test_witness_DomainDiscovery :
    (∃ (s : State), (s.isMember = true) ∧ (s.tvlOn 0 = true) ∧ (s.tvlOn 1 = true)) ∧
    (∃ (s : State) (p : TvlId) (bs : List Byte) (f : TvlFrame), (tvlOf bs = f) ∧ Takes s p f ∧ (f.type = 1)) ∧
    (∃ (s : State) (p : TvlId) (bs : List Byte) (f : TvlFrame), (tvlOf bs = f) ∧ Takes s p f ∧ (f.type = 3)) ∧
    (∃ (s : State) (p : TvlId) (id : Nat) (x : Nat), nmGet (s.tvl p).neighbours id = some x) ∧
    (∃ (s : State) (id : Nat) (m : Member), (nmGet s.dom.members id = some m) ∧ (m.reachable = true) ∧ (s.dom.isolated = false)) ∧
    (∃ (s : State) (p : TvlId) (up : Bool), ((s.tvl p).link = !up) ∧ (s.tvlOn p = true)) :=
  ⟨⟨member, by decide +kernel⟩,
   ⟨member, 1, wire helloFrame, tvlOf (wire helloFrame), by decide +kernel⟩,
   ⟨member, 1, wire (frameOf 3 nakBytes), tvlOf (wire (frameOf 3 nakBytes)), by decide +kernel⟩,
   ⟨{ member with dom.ports := Vector.replicate 2 { neighbours := [(7, 0)] } }, 1, 7, 0, by decide +kernel⟩,
   ⟨{ member with dom.members := [(7, {})], dom.roster := [5, 7] }, 7, {}, by decide +kernel⟩,
   ⟨member, 1, true, by decide +kernel⟩⟩

/-- The hypotheses of `Obligations.RosterAndPolicy` can be met. -/
theorem test_witness_RosterAndPolicy :
    (∃ (s : State) (p : TvlId) (b : List Byte) (f : TvlFrame), (tvlOf b = f) ∧ Takes s p f ∧ (f.type = 2) ∧ (s.hasAuthority f.source = true) ∧ (s.dom.isolated = false)) ∧
    (∃ (s : State) (p : TvlId) (b : List Byte) (f : TvlFrame), (tvlOf b = f) ∧ Takes s p f ∧ (f.type = 16) ∧ (s.dom.holdover = true)) ∧
    (∃ (s : State) (p : TvlId) (b : List Byte) (f : TvlFrame), (tvlOf b = f) ∧ Takes s p f ∧ (f.type = 16)) ∧
    (∃ (s : State) (p : TvlId) (b : List Byte) (f : TvlFrame) (r : Request) (n : Nat) (since : Nat), (tvlOf b = f) ∧ Takes s p f ∧ (f.type = 17) ∧ (List.find? (Waiting.isPolicy (beAt f.payload (0) (2))) s.mgt.waiting = some (Waiting.policySend r n [f.source] [] since))) ∧
    (∃ (s : State) (p : TvlId) (b : List Byte) (f : TvlFrame), (tvlOf b = f) ∧ Takes s p f ∧ (f.type = 48) ∧ (s.mem.queues[9].dropping = false) ∧ ((bytesToWords f.payload).length + 1 + s.mem.queues[9].count ≤ s.queueCapacity 9)) ∧
    (∃ (s : State) (id : Nat) (x : Nat), (nmGet s.dom.outSince id = some x) ∧ (s.dom.authority = true) ∧ (s.isKeeper = true) ∧ (s.mgt.fwReady = true) ∧ (¬id ∈ s.reachSet)) ∧
    (∃ (s : State) (n : Nat) (dest : Nat) (bs : List Byte), (s.isMember = true) ∧ (s.dom.isolated = false) ∧ (s.mgt.fwReady = true) ∧ (s.mem.queues[8].packetLength = some n) ∧ (hostPacket (List.map SpqWord.data (List.take n s.mem.queues[8].words)) = some (dest, bs))) ∧
    (∃ (s : State) (r : Request), Admitted s r ∧ (r.target = { sec := 15, unit := 1 }) ∧ (r.payload = []) ∧ (s.bedrockQuorum = []) ∧ (s.dom.holdover = true)) ∧
    (∃ (s : State) (r : Request) (n : Nat) (dest : Nat), Admitted s r ∧ (r.target = { sec := 15, unit := 1 }) ∧ (r.payload.length = 8 + 12 * n) ∧ (u16At r.payload (6) = n) ∧ (u16At r.payload (0) = dest) ∧ (1 ≤ n) ∧ (n ≤ 80) ∧ (dest < 1024) ∧ (s.dom.authority = true)) ∧
    (∃ (s : State) (r : Request) (n : Nat) (dest : Nat), Admitted s r ∧ (r.target = { sec := 15, unit := 1 }) ∧ (r.payload.length = 8 + 12 * n) ∧ (u16At r.payload (6) = n) ∧ (u16At r.payload (0) = dest) ∧ (1 ≤ n) ∧ (n ≤ 80) ∧ (dest < 1024) ∧ (s.dom.authority = false)) ∧
    (∃ (s : State) (r : Request) (n : Nat) (k : Nat) (since : Nat) (dests : List Nat) (answers : List (Nat × Nat × Nat)), List.find? (Waiting.isPolicy n) s.mgt.waiting = some (Waiting.policySend r k dests answers since)) ∧
    (∃ (s : State) (r : Request) (id : Nat) (m : Member), Asked s r ∧ (r.target = { sec := 15, unit := 1 }) ∧ (r.payload = leBytes (2) id) ∧ (id < 1024) ∧ id ≠ s.domainId ∧ (nmGet s.dom.members id = some m)) :=
  ⟨⟨{ member with dom.members := [(7, { flags := 1 })] }, 1, wire rosterFrame, { tvlOf (wire rosterFrame) with macOk := true }, with_macOk _ (tvl_macOk (tvlBody 1 rosterFrame) (by decide +kernel) (by decide +kernel) (by decide +kernel)), by decide +kernel, by decide +kernel, by decide +kernel, by decide +kernel⟩,
   ⟨{ member with dom.holdover := true }, 1, wire (frameOf 0x10 (List.replicate 22 1)), tvlOf (wire (frameOf 0x10 (List.replicate 22 1))), by decide +kernel⟩,
   ⟨member, 1, wire (frameOf 0x10 (List.replicate 22 1)), tvlOf (wire (frameOf 0x10 (List.replicate 22 1))), by decide +kernel⟩,
   ⟨{ member with mgt.waiting := [.policySend (ask ⟨15, 1, 0⟩ []) 258 [7] [] 0] }, 1, wire (frameOf 0x11 [1, 2, 0, 0]), tvlOf (wire (frameOf 0x11 [1, 2, 0, 0])), ask ⟨15, 1, 0⟩ [], 258, 0, by decide +kernel⟩,
   ⟨member, 1, wire (frameOf 0x30 [1, 2, 3]), tvlOf (wire (frameOf 0x30 [1, 2, 3])), by decide +kernel⟩,
   ⟨{ member with dom.outSince := [(7, 0)], dom.authority := true, dom.roster := [5, 7] }, 7, 0, by decide +kernel⟩,
   ⟨{ member with mem.queues := Vector.replicate 24 { head := [⟨0x70001, false⟩, ⟨9, true⟩] } }, 2, 7, [9], by decide +kernel⟩,
   ⟨{ member with dom.holdover := true, dom.roster := [5, 7] }, ask ⟨15, 1, 0⟩ [], by decide +kernel⟩,
   ⟨{ member with dom.authority := true, dom.policy := 65535 }, ask ⟨15, 1, 0⟩ (leBytes 2 1023 ++ [0, 0, 0, 0] ++ leBytes 2 80 ++ List.replicate 960 1), 80, 1023, by decide +kernel⟩,
   ⟨member, ask ⟨15, 1, 0⟩ (leBytes 2 7 ++ [0, 0, 0, 0] ++ leBytes 2 1 ++ List.replicate 12 1), 1, 7, by decide +kernel⟩,
   ⟨{ member with mgt.waiting := [.policySend (ask ⟨15, 1, 0⟩ []) 258 [7] [(9, 1, 2)] 0] }, ask ⟨15, 1, 0⟩ [], 258, 258, 0, [7], [(9, 1, 2)], by decide +kernel⟩,
   ⟨{ member with dom.members := [(1023, { flags := 3, deviceId := 77 })], dom.roster := [5, 1023] }, ask ⟨15, 1, 0⟩ [0xFF, 3], 1023, { flags := 3, deviceId := 77 }, by decide +kernel⟩⟩

/-- The hypotheses of `Obligations.FlintPair` can be met. -/
theorem test_witness_FlintPair :
    (∃ (p : FlintWord) (q : FlintWord) (sd : Bool) (rev : Bool) (ex : Bool) (cur : Bool), (flintDecision p q sd rev ex cur).fst = true) ∧
    (∃ (p : FlintWord) (q : FlintWord), p.request = 3 ∨ q.request = 3) ∧
    (∃ (p : FlintWord) (q : FlintWord), (p.request = 0) ∧ (q.request = 0) ∧ (p.healthy = false) ∧ (q.healthy = true) ∧ (q.ready = true)) ∧
    (∃ (s : State), (s.clk.timeStopped = false) ∧ (5 ≤ s.mgt.seq.step)) ∧
    (∃ (s : State) (w : BitVec 16) (c : Byte), (s.pairOn = true) ∧ (s.clk.timeStopped = false) ∧ (flintCheck w.toNat = BitVec.toNat c) ∧ (bits w.toNat (8) (4) = s.cfgN Param.fltPairId) ∧ (w.getLsbD (4) = !s.isSecondary)) ∧
    (∃ (s : State) (w : BitVec 16) (c : Byte), (s.pairOn = true) ∧ (s.clk.timeStopped = false) ∧ flintCheck w.toNat ≠ BitVec.toNat c) ∧
    (∃ (s : State), s.dom.flint.link = true) ∧
    (∃ (s : State) (x : Nat), (s.dom.flint.wtrAt = some x) ∧ (s.pairOn = true) ∧ (s.isSecondary = false) ∧ (s.dom.flint.link = true) ∧ (s.dom.flint.own.active = false) ∧ (s.dom.flint.own.healthy = true) ∧ (s.dom.flint.own.degraded = false) ∧ (s.dom.flint.own.request = 0) ∧ (s.dom.flint.partner.request = 0) ∧ (s.cfgB Param.fltRevertive = true)) ∧
    (∃ (s : State) (r : Request) (v : Fin 3), Admitted s r ∧ (r.target = { sec := 15, unit := 2 }) ∧ (r.payload = [BitVec.ofNat (8) v.val])) :=
  ⟨⟨{}, { healthy := true, ready := true }, true, true, true, false, by decide +kernel⟩,
   ⟨{ request := 3 }, { healthy := true, ready := true }, by decide +kernel⟩,
   ⟨{}, { healthy := true, ready := true }, by decide +kernel⟩,
   ⟨{ up with mgt.seq.step := 9 }, by decide +kernel⟩,
   ⟨setP Param.fltPairEnable 1 up, 0x0012, BitVec.ofNat 8 (flintCheck 0x0012), by decide +kernel⟩,
   ⟨setP Param.fltPairEnable 1 up, 0x0012, BitVec.ofNat 8 (flintCheck 0x0012) + 1, by decide +kernel⟩,
   ⟨{ up with dom.flint := { link := true, partner := { healthy := true } } }, by decide +kernel⟩,
   ⟨setP Param.fltRevertive 1 (setP Param.fltPairEnable 1 { ln up with rxd.rxState := .locked, dom.flint := { link := true, own := { healthy := true, ready := true }, partner := { healthy := true, ready := true, active := true }, wtrAt := some 0 } }), 0, by decide +kernel⟩,
   ⟨{ setP Param.fltPairEnable 1 up with dom.flint := { lockout := true } }, ask ⟨15, 2, 0⟩ [2], 2, by decide +kernel⟩⟩

/-- The hypotheses of `Obligations.ProtectionGroups` can be met. -/
theorem test_witness_ProtectionGroups :
    (∃ (s : State), (s.isMember = true) ∧ (s.dom.isolated = false) ∧ (s.tvlOn 1 = true) ∧ (s.boundaryHeld = false) ∧ (s.npOn = true)) ∧
    (∃ (s : State), (s.isMember = true) ∧ (s.dom.isolated = false) ∧ (s.tvlOn 1 = true) ∧ (s.boundaryHeld = false) ∧ (s.isArbiter = true)) ∧
    (∃ (s : State) (p : TvlId) (b : List Byte) (f : TvlFrame), (tvlOf b = f) ∧ Takes s p f ∧ (s.npOn = true) ∧ (beAt f.payload (0) (1) = s.cfgN Param.fltNpGroup) ∧ (f.type = 32)) ∧
    (∃ (s : State) (p : TvlId) (b : List Byte) (f : TvlFrame), (tvlOf b = f) ∧ Takes s p f ∧ (s.npOn = true) ∧ (beAt f.payload (0) (1) = s.cfgN Param.fltNpGroup) ∧ (f.type = 33) ∧ (s.isArbiter = false)) ∧
    (∃ (s : State), (s.npOn = true) ∧ (s.isArbiter = false) ∧ (s.dom.np.frozen = false)) ∧
    (∃ (s : State) (x : Nat), (s.dom.np.quietSince = some x) ∧ (s.isArbiter = true) ∧ (s.dom.holdover = false) ∧ (s.cfgB Param.fltNpRevertive = true)) ∧
    (∃ (s : State) (r : Request) (v : Fin 3), Admitted s r ∧ (r.target = { sec := 15, unit := 2 }) ∧ (r.payload = [BitVec.ofNat (8) v.val]) ∧ (s.npOn = true) ∧ (v.val = 1 → s.cfg Param.fltNpMember ≠ 0)) :=
  ⟨⟨np, by decide +kernel⟩,
   ⟨np, by decide +kernel⟩,
   ⟨np, 1, wire (frameOf 0x20 [9, 3, 1, 1, 0, 0, 0, 5]), tvlOf (wire (frameOf 0x20 [9, 3, 1, 1, 0, 0, 0, 5])), by decide +kernel⟩,
   ⟨setP Param.fltNpMember 2 np, 1, wire (frameOf 0x21 [9, 3, 0, 0]), tvlOf (wire (frameOf 0x21 [9, 3, 0, 0])), by decide +kernel⟩,
   ⟨setP Param.fltNpMember 2 np, by decide +kernel⟩,
   ⟨setP Param.fltNpRevertive 1 { np with dom.np := { quietSince := some 0, selected := 3 } }, 0, by decide +kernel⟩,
   ⟨setP Param.fltNpMember 2 np, ask ⟨15, 2, 0⟩ [1], 1, by decide +kernel⟩⟩

/-- The hypotheses of `Obligations.AuthorityIsUnique` can be met. -/
theorem test_witness_AuthorityIsUnique :
    ∃ (bq : List Nat) (roster : List Nat) (h1 : List Nat) (h2 : List Nat), bq.Nodup ∧ roster ≠ [] ∧ (∀ (x : Nat), x ∈ h1 → ¬x ∈ h2) :=
  ⟨[3, 40, 41, 200, 512, 700], [3, 40, 41, 200, 512, 700, 9], [3, 40, 41, 9], [200, 512, 700], by decide +kernel⟩

/-- The hypotheses of `Obligations.ColdResets` can be met. -/
theorem test_witness_ColdResets :
    (∃ (s : State) (r : Request), Asked s r ∧ (r.seat = 0) ∧ (r.payload = [81, 75])) ∧
    (∃ (s : State), s.pwr.offLatched = false) ∧
    (∃ (s : State) (r : Vector Int 8), (s.pwr.hotSince.isSome = true) ∧ (1000 ≤ junction r)) :=
  ⟨⟨slated 5, ask ⟨0, 5, 0⟩ [0x51, 0x4B], by decide +kernel⟩,
   ⟨{ slated 5 with now := 7, fuses.floor := 3 }, by decide +kernel⟩,
   ⟨{ up with pwr.hotSince := some 3 }, Vector.replicate 8 1000, by decide +kernel⟩⟩

/-- The hypotheses of `Obligations.StartUp` can be met. -/
theorem test_witness_StartUp :
    (∃ (s : State), (s.pwr.vinPresent = true) ∧ (s.mgt.seq.step = 0) ∧ (s.pwr.offLatched = false)) ∧
    (∃ (s : State), s.pwr.powered = true) ∧
    (∃ (s : State), (s.mgt.seq.step = 5) ∧ (s.mgt.seq.fault = false)) ∧
    (∃ (s : State) (i : SeatId) (v : Word), (s.clk.mgmtStopped = false) ∧ ((s.seat i).quarantined = false) ∧ (s.bootWindow i = true) ∧ (BitVec.getLsbD v (0) = true) ∧ (s.mgt.seq.step = 6)) ∧
    (∃ (s : State) (version : Nat) (floor : Nat), (s.mgt.seq.step = 6) ∧ (s.mgt.seq.fault = false) ∧ (s.mgt.seq.straps.getLsbD (4) = false) ∧ (s.fuses.floor ≤ version) ∧ (floor ≤ version) ∧ (s.fuses.floorRises < 64)) ∧
    (∃ (s : State) (slot : Fin 2) (version : Nat), (s.mgt.seq.step = 6) ∧ (s.mgt.seq.fault = false) ∧ (s.mgt.seq.straps.getLsbD (4) = false) ∧ (version < s.fuses.floor) ∧ (slot.val = 1)) ∧
    (∃ (s : State), (s.mgt.seq.step = 7) ∧ (s.mgt.seq.fault = false)) ∧
    (∃ (s : State), s.cnv.initCal = true) ∧
    (∃ (s : State) (c : Fin 7), (causeFits s.mgt.seq.step c.val = true) ∧ (s.mgt.seq.fault = false)) :=
  ⟨⟨State.reset, by decide +kernel⟩,
   ⟨{ State.reset with mgt.seq.step := 1 }, by decide +kernel⟩,
   ⟨{ State.reset with mgt.seq.step := 5 }, by decide +kernel⟩,
   ⟨{ State.reset with mgt.seq := { step := 6, straps := 0x10, fault := true, cause := 4 } }, 0, 1, by decide +kernel⟩,
   ⟨{ State.reset with mgt.seq := { step := 6 }, fuses.floor := 3 }, 3, 3, by decide +kernel⟩,
   ⟨{ State.reset with mgt.seq := { step := 6 }, fuses.floor := 3 }, 1, 2, by decide +kernel⟩,
   ⟨{ State.reset with mgt.seq := { step := 7 } }, by decide +kernel⟩,
   ⟨{ up with mgt.seq := { step := 8 }, cnv.initCal := true }, by decide +kernel⟩,
   ⟨{ up with mgt.seq := { step := 8 } }, 1, by decide +kernel⟩⟩

/-- The hypotheses of `Obligations.PowerAndHeat` can be met. -/
theorem test_witness_PowerAndHeat :
    (∃ (s : State), s.pwr.vinLow = false) ∧
    (∃ (s : State) (n : Nat), (s.cfgB Param.regAvsEnable = true) ∧ (n = Config.avsSteps s.fuses.speedCode s.pwr.tj)) ∧
    (∃ (v : Nat) (i : Nat), (v < 65536) ∧ (i < 65536)) ∧
    (∃ (s : State), Reads s { sec := 1, unit := 0 }) ∧
    (∃ (s : State), Reads s { sec := 1, unit := 2 }) ∧
    (∃ (r : Vector Int 8), junction r < 1000) ∧
    (∃ (s : State) (r : Request) (a : Fin 4294967295) (b : Fin 4294967295) (c : Fin 4294967295) (d : Fin 4294967295), Asked s r ∧ (r.target = { sec := 1, unit := 1 }) ∧ (r.payload = leBytes (4) a.val ++ leBytes (4) b.val ++ leBytes (4) c.val ++ leBytes (4) d.val)) ∧
    (∃ (s : State) (g : Fin 4) (x : Nat), (s.pwr.groups[g].holdSince = some x) ∧ (s.pwr.groups[g].move = none) ∧ (s.pwr.groups[g].state < s.pwr.groups[g].target)) ∧
    (∃ (s : State) (g : Fin 4) (m : PowerMove), (s.pwr.groups[g].move = some m) ∧ (m.deeper = true)) ∧
    (∃ (s : State) (g : Fin 4) (m : PowerMove), (s.pwr.groups[g].move = some m) ∧ (m.deeper = false)) ∧
    (∃ (s : State) (r : Request), Admitted s r ∧ (r.target = { sec := 2, unit := 3 }) ∧ (r.payload = []) ∧ (s.clk.safeState = true) ∧ (s.forcingReady = true)) ∧
    (∃ (s : State) (r : Request), Admitted s r ∧ (r.target = { sec := 2, unit := 3 }) ∧ (r.payload = []) ∧ (s.clk.safeState = true) ∧ (s.forcingReady = false)) :=
  ⟨⟨up, by decide +kernel⟩,
   ⟨setP Param.regAvsEnable 1 up, Config.avsSteps (setP Param.regAvsEnable 1 up).fuses.speedCode (setP Param.regAvsEnable 1 up).pwr.tj, by decide +kernel, rfl⟩,
   ⟨65535, 65535, by decide +kernel⟩,
   ⟨{ up with pwr.iinPeak := 7, pwr.tjMax := -8 }, by decide +kernel⟩,
   ⟨{ up with pwr.iinPeak := 7, pwr.tjMax := -8 }, by decide +kernel⟩,
   ⟨#v[999, 990, 0, -2000, 0, 0, 0, 0], by decide +kernel⟩,
   ⟨up, ask ⟨1, 1, 0⟩ (leBytes 4 0 ++ leBytes 4 4294967294 ++ leBytes 4 8 ++ leBytes 4 2000000), 0, 4294967294, 8, 2000000, by decide +kernel⟩,
   ⟨{ up with pwr.groups := Vector.replicate 4 { state := 1, target := 3, holdSince := some 0 } }, 3, 0, by decide +kernel⟩,
   ⟨{ up with pwr.groups := Vector.replicate 4 { state := 1, target := 3, move := some ⟨1, 3, true, 0⟩ } }, 3, ⟨1, 3, true, 0⟩, by decide +kernel⟩,
   ⟨{ up with pwr.groups := Vector.replicate 4 { state := 3, target := 0, move := some ⟨3, 0, false, 0⟩ } }, 3, ⟨3, 0, false, 0⟩, by decide +kernel⟩,
   ⟨{ up with clk.safeState := true, clk.ready := 0x3FF, clk.failed := 4, clk.coreStopped := true }, ask ⟨2, 3, 0⟩ [], by decide +kernel⟩,
   ⟨{ up with clk.safeState := true, clk.ready := 0x3FB }, ask ⟨2, 3, 0⟩ [], by decide +kernel⟩⟩

/-- The hypotheses of `Obligations.ResetValues` can be met. -/
theorem test_witness_ResetValues :
    ∃ (p : Path), p.sec = 0 → 4 ≤ p.unit :=
  ⟨⟨15, 2, 0⟩, by decide +kernel⟩

/-- The hypotheses of `Obligations.SafeIsKept` can be met. -/
theorem test_witness_SafeIsKept :
    (∃ (s : State), Safe s) :=
  ⟨up, by decide +kernel⟩

/-- The hypotheses of `Obligations.FusesAreKept` can be met. -/
theorem test_witness_FusesAreKept :
    ∃ (s : State) (t : State), step s = Host.Outcome.next t :=
  ⟨{ up with pending := [.avsUpdate] }, (nextOf (step { up with pending := [.avsUpdate] })), rfl⟩

/-- The hypotheses of `Obligations.EncodingsReadBack` can be met. -/
theorem test_witness_EncodingsReadBack :
    (∃ (h : Header), (h.opcode < 2 ^ 16) ∧ (h.cls < 4) ∧ (h.entries < 8) ∧ (h.length < 2 ^ 16) ∧ (h.tag < 2 ^ 16) ∧ (h.seq < 2 ^ 32) ∧ (h.target.sec < 16) ∧ (h.target.unit < 32) ∧ (h.target.inst < 1024)) ∧
    (∃ (m : Marker), (m.lane < 16) ∧ (m.size < 16) ∧ (m.first < 16) ∧ (m.pad < 2 ^ 12) ∧ (m.period < 2 ^ 16)) ∧
    (∃ (p : Path), p.fits = true) ∧
    (∃ (bs : List Byte), (1 ≤ bs.length) ∧ (bs.length ≤ 1536)) ∧
    (∃ (a : WordA), (a.sf < 2 ^ 32) ∧ (a.entropy < 2 ^ 9) ∧ (a.pilots < 4) ∧ (a.capacity < 2 ^ 8) ∧ (a.version < 16)) ∧
    (∃ (b : WordB), (b.countdown < 2 ^ 16) ∧ (b.nextEntropy < 2 ^ 9) ∧ (b.nextPilots < 4) ∧ (b.nextCapacity < 2 ^ 8) ∧ (b.changeId < 2 ^ 16)) :=
  ⟨⟨⟨65535, 3, true, 7, 65535, 65535, 4294967295, ⟨15, 31, 1023⟩⟩, by decide +kernel⟩,
   ⟨{ lane := 15, size := 15, first := 15, pad := 4095, period := 65535 }, by decide +kernel⟩,
   ⟨⟨15, 31, 1023⟩, by decide +kernel⟩,
   ⟨List.replicate 1536 0x7E, by decide +kernel⟩,
   ⟨⟨4294967295, 511, 3, 255, true, 15⟩, by decide +kernel⟩,
   ⟨⟨65535, 511, 3, 255, 65535⟩, by decide +kernel⟩⟩

/-- The hypotheses of `Obligations.HoldoverLimitIsFirst` can be met. -/
theorem test_witness_HoldoverLimitIsFirst :
    (∃ (init : Nat) (drift : Nat) (freqLimit : Nat) (phaseLimit : Nat) (maxS : Nat) (t : Nat), (0 < drift) ∧ (t < limitAfter init drift freqLimit phaseLimit maxS)) ∧
    (∃ (init : Nat) (drift : Nat) (freqLimit : Nat) (phaseLimit : Nat) (maxS : Nat) (t : Nat), (0 < drift) ∧ (t < limitAfter init drift freqLimit phaseLimit maxS) ∧ maxS ≠ 0) :=
  ⟨⟨1, 10, 50, 1000, 0, 50, by decide +kernel⟩,
   ⟨1, 10, 50, 1000, 1, 50, by decide +kernel⟩⟩

/-- The hypotheses of `Obligations.RateLimits` can be met. -/
theorem test_witness_RateLimits :
    (∃ (s : State) (n : Nat) (e : LimitEntry) (row : EventRow), (findEvent n = some row) ∧ (row.limit = RateLimit.whole) ∧ (List.find? (fun x => x.event == n && x.member == 0) s.mgt.limits = some e) ∧ (s.now < e.passedAt + 1000000) ∧ (e.reopened = false)) :=
  ⟨{ up with mgt.limits := [{ event := 7, member := 0, passedAt := 0 }] }, 7, { event := 7, member := 0, passedAt := 0 }, ⟨7, 0, 4, .whole⟩, by decide +kernel⟩

end Sys2Proof.Tests
end

/-!
PROOFS. What is fused (R2, R534). Only `FIRMWARE_VERIFIED` writes the fuses, and it raises the version floor; a cold reset copies them.
Everything else that a step calls keeps them, which is said once for each operation, in the order and under the names of the model's files:
`f_fuses` reads the fuses after `f`. For a command, whose meaning is a `Result`, they are read in the state that it leaves (`stateOf`).
-/
namespace Sys2Proof.Machine

/-! ### Vocabulary, branches and folds -/

/-- An update of the state keeps what is fused. -/
def KeepsFuses (f : State → State) : Prop := ∀ s, (f s).fuses = s.fuses

/-- In parentheses, so that it is no `rfl` lemma: `simp` then meets a `KeepsFuses` hypothesis by a rewrite, also where all the rest is `rfl`. -/
@[simp] theorem keepsFuses_iff (f : State → State) : KeepsFuses f ↔ ∀ s, (f s).fuses = s.fuses := (Iff.rfl)

@[simp] theorem stateOf_next (t s : State) : stateOf (.next t) s = t := rfl

@[simp] theorem stateOf_ite (c : Prop) [Decidable c] (a b : Result) (s : State) :
    stateOf (if c then a else b) s = if c then stateOf a s else stateOf b s := apply_ite (stateOf · s) _ _ _

@[simp] theorem ite_fuses (c : Prop) [Decidable c] (s t : State) :
    (if c then s else t).fuses = if c then s.fuses else t.fuses := apply_ite _ _ _ _

@[simp] theorem dite_fuses (c : Prop) [Decidable c] (f : c → State) (g : ¬c → State) :
    (dite c f g).fuses = if h : c then (f h).fuses else (g h).fuses := apply_dite _ _ _ _

@[simp] theorem ite_snd_fuses {α : Type} (c : Prop) [Decidable c] (a b : α × State) :
    (if c then a else b).2.fuses = if c then a.2.fuses else b.2.fuses := apply_ite (fun r : α × State => r.2.fuses) _ _ _

@[simp] theorem overAll_fuses {ι : Type} (is : List ι) (f : ι → State → State) (h : ∀ i, KeepsFuses (f i)) (s : State) :
    (overAll is f s).fuses = s.fuses := overAll_keeps State.fuses is f h s

@[simp] theorem foldl_fuses {ι : Type} (is : List ι) (f : State → ι → State) (h : ∀ i, KeepsFuses (f · i)) (s : State) :
    (is.foldl f s).fuses = s.fuses := foldl_keeps State.fuses is f (fun s i => h i s) s

/-! ### `Machine/Ops.lean` -/

@[simp] theorem fireCapture_fuses (src : Nat) (s : State) : (fireCapture src s).fuses = s.fuses := by simp [fireCapture]

@[simp] theorem offerMsix_fuses (i : SeatId) (v : Nat) (s : State) : (offerMsix i v s).fuses = s.fuses := by
  unfold offerMsix
  split <;> simp

@[simp] theorem setOwner_fuses (p : Path) (o : Option SeatId) (s : State) : (setOwner p o s).fuses = s.fuses := by simp [setOwner]

@[simp] theorem unitWrite_fuses (i : SeatId) (p : Path) (s : State) (act : State → State) (h : KeepsFuses act) :
    (unitWrite i p s act).fuses = s.fuses := by
  rw [keepsFuses_iff] at h
  simp [unitWrite, h]

@[simp] theorem whenOpen_fuses (seat : SeatId) (p : Path) (write : Bool) (command : Instr) (s : State) (act : Result)
    (h : (stateOf act s).fuses = s.fuses) :
    (stateOf (whenOpen seat p write command s act) s).fuses = s.fuses := by simp [whenOpen, h]

@[simp] theorem postInto_fuses (i : SeatId) (p : Posting) (s : State) : (postInto i p s).fuses = s.fuses := by simp [postInto]

@[simp] theorem flushWaiting_fuses (i : SeatId) (s : State) : (flushWaiting i s).fuses = s.fuses :=
  calm_lift State.fuses (fun _ => rfl) (calm_flushWaiting i s)

@[simp] theorem flushPosts_fuses (i : SeatId) (s : State) : (flushPosts i s).fuses = s.fuses := by simp [flushPosts]
@[simp] theorem takeRequest_fuses (r : Request) (s : State) : (takeRequest r s).fuses = s.fuses := rfl

@[simp] theorem serve_fuses (r : Request) (s : State) (act : State → State) (h : KeepsFuses act) : (serve r s act).fuses = s.fuses := by
  rw [keepsFuses_iff] at h
  simp [serve, h]

@[simp] theorem serveTarget_fuses (r : Request) (s : State) (units : List (Nat × Nat)) (needOwner : Bool) (act : State → State)
    (h : KeepsFuses act) : (serveTarget r s units needOwner act).fuses = s.fuses := by
  refine serve_fuses _ _ _ fun s => ?_
  split
  · simp
  · split
    · simp
    · exact h s

/-! ### `Machine/PowerOps.lean` -/

@[simp] theorem judgeGroups_fuses (s : State) : (judgeGroups s).fuses = s.fuses := rfl
@[simp] theorem closeGate_fuses (p : Path) (s : State) : (closeGate p s).fuses = s.fuses := by simp [closeGate]
@[simp] theorem openGate_fuses (p : Path) (s : State) : (openGate p s).fuses = s.fuses := rfl
@[simp] theorem judgeGates_fuses (s : State) : (judgeGates s).fuses = s.fuses := by simp [judgeGates]
@[simp] theorem failStartup_fuses (cause : Nat) (s : State) : (failStartup cause s).fuses = s.fuses := by simp [failStartup]
@[simp] theorem reportSelftest_fuses (s : State) : (reportSelftest s).fuses = s.fuses := by simp [reportSelftest]

/-! ### `Machine/FrameOps.lean` -/

@[simp] theorem State.onClient_fuses (s : State) (c : Nat) (f : Client → Client) : (State.onClient s c f).fuses = s.fuses := by
  unfold State.onClient
  split <;> simp

@[simp] theorem resyncChannels_fuses (s : State) : (resyncChannels s).fuses = s.fuses := rfl
@[simp] theorem settleReplaced_fuses (s : State) : (settleReplaced s).fuses = s.fuses := rfl
@[simp] theorem judgeClient_fuses (c : Nat) (s : State) : (judgeClient c s).fuses = s.fuses := by simp [judgeClient]
@[simp] theorem resignal_fuses (old : State) (s : State) : (resignal old s).fuses = s.fuses := by simp [resignal]
@[simp] theorem refreshClients_fuses (s : State) : (refreshClients s).fuses = s.fuses := by simp [refreshClients]
@[simp] theorem noteDefects_fuses (old s : State) : (noteDefects old s).fuses = s.fuses := rfl

/-! ### `Machine/CodingOps.lean` -/

@[simp] theorem setFail_fuses (s : State) : (setFail s).fuses = s.fuses := by simp [setFail]
@[simp] theorem decoderLoses_fuses (s : State) : (decoderLoses s).fuses = s.fuses := by simp [decoderLoses]
@[simp] theorem judgeCap_fuses (s : State) : (judgeCap s).fuses = s.fuses := by simp [judgeCap]
@[simp] theorem degradeCluster_fuses (i : Fin 16) (s : State) : (degradeCluster i s).fuses = s.fuses := by simp [degradeCluster]
@[simp] theorem settleInjectionAs_fuses (running : Bool) (s : State) : (settleInjectionAs running s).fuses = s.fuses := rfl
@[simp] theorem settleInjection_fuses (s : State) : (settleInjection s).fuses = s.fuses := rfl
@[simp] theorem judgeLodMode_fuses (s : State) : (judgeLodMode s).fuses = s.fuses := by simp [judgeLodMode]
@[simp] theorem releaseTxd_fuses (s : State) : (releaseTxd s).fuses = s.fuses := by simp [releaseTxd]

/-! ### `Machine/Converters.lean` -/

@[simp] theorem State.onAdc_fuses (s : State) (ch : Fin 4) (f : Adc → Adc) : (State.onAdc s ch f).fuses = s.fuses := rfl
@[simp] theorem State.onDac_fuses (s : State) (ch : Fin 4) (f : Dac → Dac) : (State.onDac s ch f).fuses = s.fuses := rfl

@[simp] theorem State.onGroup_fuses (s : State) (ch : Fin 4) (g : Fin 12) (f : SliceGroup → SliceGroup) :
    (State.onGroup s ch g f).fuses = s.fuses := rfl

@[simp] theorem judgeNoSpare_fuses (ch : Fin 4) (s : State) : (judgeNoSpare ch s).fuses = s.fuses := by simp [judgeNoSpare]

@[simp] theorem sliceFailed_fuses (ch : Fin 4) (grp : Fin 12) (i : Nat) (s : State) :
    (sliceFailed ch grp i s).fuses = s.fuses := by simp [sliceFailed]

@[simp] theorem stepEnded_fuses (ch : Fin 4) (grp : Fin 12) (s : State) : (stepEnded ch grp s).fuses = s.fuses := by simp [stepEnded]
@[simp] theorem setGains_fuses (want : Vector Nat 4) (s : State) : (setGains want s).fuses = s.fuses := rfl

@[simp] theorem execRotationStep_fuses (ch : Fin 4) (grp : Fin 12) (s : State) :
    (stateOf (execRotationStep ch grp s) s).fuses = s.fuses := by simp [execRotationStep]

@[simp] theorem forcedNext_fuses (ch : Fin 4) (grp : Fin 12) (s : State) : (forcedNext ch grp s).fuses = s.fuses := by
  unfold forcedNext
  split <;> simp

@[simp] theorem attemptFailed_fuses (ch : Fin 4) (grp : Fin 12) (i : Nat) (s : State) :
    (attemptFailed ch grp i s).fuses = s.fuses := by simp [attemptFailed]

@[simp] theorem execSliceCalDone_fuses (ch : Fin 4) (grp : Fin 12) (r : CalResult) (meanDiff rmsDiff : Nat) (s : State) :
    (stateOf (execSliceCalDone ch grp r meanDiff rmsDiff s) s).fuses = s.fuses := by
  unfold execSliceCalDone
  split <;> simp

@[simp] theorem execSliceCalTimeout_fuses (ch : Fin 4) (grp : Fin 12) (s : State) :
    (stateOf (execSliceCalTimeout ch grp s) s).fuses = s.fuses := by
  unfold execSliceCalTimeout
  split <;> simp

@[simp] theorem execSliceSwap_fuses (ch : Fin 4) (grp : Fin 12) (meanDiff rmsDiff : Nat) (s : State) :
    (stateOf (execSliceSwap ch grp meanDiff rmsDiff s) s).fuses = s.fuses := by
  simp only [execSliceSwap]
  split <;> simp

@[simp] theorem countDacPass_fuses (s : State) : (countDacPass s).fuses = s.fuses := rfl
@[simp] theorem endDacPass_fuses (s : State) : (endDacPass s).fuses = s.fuses := rfl

@[simp] theorem observe_fuses (n : Nat) (forced first refOk : Bool) (s : State) :
    (observe n forced first refOk s).fuses = s.fuses := by simp [observe]

@[simp] theorem startPass_fuses (s : State) : (startPass s).fuses = s.fuses := by simp [startPass]
@[simp] theorem requestPass_fuses (s : State) : (requestPass s).fuses = s.fuses := by simp [requestPass]
@[simp] theorem startHeldPass_fuses (s : State) : (startHeldPass s).fuses = s.fuses := by simp [startHeldPass]
@[simp] theorem execTempRead_fuses (s : State) : (stateOf (execTempRead s) s).fuses = s.fuses := by simp [execTempRead]

@[simp] theorem execForcePass_fuses (seat : SeatId) (s : State) :
    (stateOf (execForcePass seat s) s).fuses = s.fuses := by simp [execForcePass]

@[simp] theorem skipExhausted_fuses (s : State) : (skipExhausted s).fuses = s.fuses := by simp [skipExhausted]

@[simp] theorem execForcedStepStart_fuses (s : State) : (stateOf (execForcedStepStart s) s).fuses = s.fuses := by
  unfold execForcedStepStart
  repeat' split
  all_goals simp

@[simp] theorem endPass_fuses (s : State) : (endPass s).fuses = s.fuses := by simp [endPass]
@[simp] theorem execForcedPassEnd_fuses (s : State) : (stateOf (execForcedPassEnd s) s).fuses = s.fuses := by simp [execForcedPassEnd]
@[simp] theorem stopCalibration_fuses (s : State) : (stopCalibration s).fuses = s.fuses := rfl
@[simp] theorem cancelPasses_fuses (s : State) : (cancelPasses s).fuses = s.fuses := rfl
@[simp] theorem holdPasses_fuses (s : State) : (holdPasses s).fuses = s.fuses := by simp [holdPasses]
@[simp] theorem startInitCal_fuses (s : State) : (startInitCal s).fuses = s.fuses := by simp [startInitCal]
@[simp] theorem initCalSlice_fuses (x : InitCalItem) (s : State) : (initCalSlice x s).fuses = s.fuses := by simp [initCalSlice]
@[simp] theorem initCalDac_fuses (x : InitCalItem) (s : State) : (initCalDac x s).fuses = s.fuses := by simp [initCalDac]

@[simp] theorem endInitCal_fuses (adcs dacs : List InitCalItem) (s : State) :
    (endInitCal adcs dacs s).fuses = s.fuses := by simp [endInitCal]

@[simp] theorem execDacCalStep_fuses (refOk : Bool) (s : State) : (stateOf (execDacCalStep refOk s) s).fuses = s.fuses := by
  simp only [execDacCalStep]
  repeat' split
  all_goals simp

@[simp] theorem execDacCalDone_fuses (r : CalResult) (s : State) :
    (stateOf (execDacCalDone r s) s).fuses = s.fuses := by simp [execDacCalDone]

@[simp] theorem muteDac_fuses (ch : Fin 4) (on : Bool) (s : State) : (muteDac ch on s).fuses = s.fuses := rfl

@[simp] theorem execAdcClipCheck_fuses (ch : Fin 4) (clipped total : Nat) (s : State) :
    (stateOf (execAdcClipCheck ch clipped total s) s).fuses = s.fuses := by simp [execAdcClipCheck]

@[simp] theorem execAdcClipCountRead_fuses (seat : SeatId) (ch : Fin 4) (s : State) :
    (stateOf (execAdcClipCountRead seat ch s) s).fuses = s.fuses := by simp [execAdcClipCountRead]

@[simp] theorem resetObs_fuses (checkOk : Bool) (s : State) : (resetObs checkOk s).fuses = s.fuses := by simp [resetObs]

@[simp] theorem resetCnvUnit_fuses (unit : Nat) (checkOk : Bool) (s : State) : (resetCnvUnit unit checkOk s).fuses = s.fuses := by
  unfold resetCnvUnit
  split <;> simp

@[simp] theorem resetCnv_fuses (checkOk : Bool) (s : State) : (resetCnv checkOk s).fuses = s.fuses := by simp [resetCnv]
@[simp] theorem cnvEnter_fuses (device : Nat) (s : State) : (cnvEnter device s).fuses = s.fuses := by simp [cnvEnter]
@[simp] theorem cnvExit_fuses (left : Nat) (s : State) : (cnvExit left s).fuses = s.fuses := by simp [cnvExit]
@[simp] theorem cnvCommitted_fuses (oldKBd : Nat) (s : State) : (cnvCommitted oldKBd s).fuses = s.fuses := by simp [cnvCommitted]

/-! ### `Machine/TimingOps.lean` -/

@[simp] theorem State.onTslot_fuses (s : State) (n : SlotId) (f : Slot → Slot) : (State.onTslot s n f).fuses = s.fuses := rfl
@[simp] theorem ppsLow_fuses (s : State) : (ppsLow s).fuses = s.fuses := by simp [ppsLow]
@[simp] theorem squelch_fuses (s : State) : (squelch s).fuses = s.fuses := by simp [squelch]
@[simp] theorem reachLimit_fuses (s : State) : (reachLimit s).fuses = s.fuses := by simp [reachLimit]
@[simp] theorem judgeBase_fuses (s : State) : (judgeBase s).fuses = s.fuses := by simp [judgeBase]

@[simp] theorem judgePeers_fuses (s : State) : (judgePeers s).fuses = s.fuses := by
  simp only [judgePeers]
  repeat' split
  all_goals simp

@[simp] theorem syncFreeRun_fuses (s : State) : (syncFreeRun s).fuses = s.fuses := by simp [syncFreeRun]
@[simp] theorem enterHoldover_fuses (s : State) : (enterHoldover s).fuses = s.fuses := by simp [enterHoldover]
@[simp] theorem syncWithout_fuses (s : State) : (syncWithout s).fuses = s.fuses := by simp [syncWithout]
@[simp] theorem syncWith_fuses (s : State) : (syncWith s).fuses = s.fuses := by simp [syncWith]
@[simp] theorem lineFollows_fuses (moved : Bool) (s : State) : (lineFollows moved s).fuses = s.fuses := by simp [lineFollows]
@[simp] theorem judgePhaseHold_fuses (s : State) : (judgePhaseHold s).fuses = s.fuses := by simp [judgePhaseHold]
@[simp] theorem selectorRun_fuses (s : State) : (selectorRun s).fuses = s.fuses := by simp [selectorRun]
@[simp] theorem discardHistory_fuses (soft : Bool) (s : State) : (discardHistory soft s).fuses = s.fuses := by simp [discardHistory]
@[simp] theorem judgeSoak_fuses (n : SlotId) (s : State) : (judgeSoak n s).fuses = s.fuses := by simp [judgeSoak]
@[simp] theorem disqualify_fuses (n : SlotId) (soft : Bool) (s : State) : (disqualify n soft s).fuses = s.fuses := by simp [disqualify]
@[simp] theorem qualify_fuses (n : SlotId) (s : State) : (qualify n s).fuses = s.fuses := by simp [qualify]
@[simp] theorem reselect_fuses (old s : State) : (reselect old s).fuses = s.fuses := by simp [reselect]

@[simp] theorem loseActivity_fuses (n : SlotId) (k : Kind) (now : Bool) (s : State) :
    (loseActivity n k now s).fuses = s.fuses := by simp [loseActivity]

@[simp] theorem gainActivity_fuses (n : SlotId) (k : Kind) (s : State) : (gainActivity n k s).fuses = s.fuses := by simp [gainActivity]

@[simp] theorem followInput_fuses (n : SlotId) (on now : Bool) (s : State) :
    (followInput n on now s).fuses = s.fuses := by simp [followInput]

@[simp] theorem followInputs_fuses (s : State) : (followInputs s).fuses = s.fuses := by simp [followInputs]
@[simp] theorem setDeviceNs_fuses (t : Nat) (s : State) : (setDeviceNs t s).fuses = s.fuses := rfl
@[simp] theorem timeStepped_fuses (s : State) : (timeStepped s).fuses = s.fuses := by simp [timeStepped]
@[simp] theorem steerTime_fuses (diffPs : Int) (s : State) : (steerTime diffPs s).fuses = s.fuses := by simp [steerTime]

/-! ### `Machine/Receive.lean` -/

@[simp] theorem setStage_fuses (st : PmxStage) (s : State) : (setStage st s).fuses = s.fuses := by simp [setStage]
@[simp] theorem adaptTaps_fuses (s : State) : (adaptTaps s).fuses = s.fuses := rfl
@[simp] theorem resizeTaps_fuses (n : Nat) (s : State) : (resizeTaps n s).fuses = s.fuses := by simp [resizeTaps]
@[simp] theorem reseedY_fuses (s : State) : (reseedY s).fuses = s.fuses := rfl
@[simp] theorem loseTiming_fuses (s : State) : (loseTiming s).fuses = s.fuses := by simp [loseTiming]
@[simp] theorem lineLoss_fuses (s : State) : (lineLoss s).fuses = s.fuses := by simp [lineLoss]
@[simp] theorem startAcquisition_fuses (mode : Nat) (s : State) : (startAcquisition mode s).fuses = s.fuses := by simp [startAcquisition]
@[simp] theorem awaitReference_fuses (s : State) : (awaitReference s).fuses = s.fuses := by simp [awaitReference]

@[simp] theorem execIqCorrectUpdate_fuses (angleX gainX angleY gainY : Int) (s : State) :
    (stateOf (execIqCorrectUpdate angleX gainX angleY gainY s) s).fuses = s.fuses := by simp [execIqCorrectUpdate]

@[simp] theorem execAcquisitionStart_fuses (s : State) :
    (stateOf (execAcquisitionStart s) s).fuses = s.fuses := by simp [execAcquisitionStart]

@[simp] theorem loadDispersion_fuses (v : Int) (s : State) : (loadDispersion v s).fuses = s.fuses := rfl

@[simp] theorem execCoarseShiftSet_fuses (blindMHz : Int) (s : State) : (stateOf (execCoarseShiftSet blindMHz s) s).fuses = s.fuses := by
  simp only [execCoarseShiftSet]
  repeat' split
  all_goals simp

@[simp] theorem execCdScanDone_fuses (metrics : List Nat) (s : State) :
    (stateOf (execCdScanDone metrics s) s).fuses = s.fuses := by simp [execCdScanDone]

@[simp] theorem execCdSeedRefineDone_fuses (metrics : List Nat) (s : State) :
    (stateOf (execCdSeedRefineDone metrics s) s).fuses = s.fuses := by simp [execCdSeedRefineDone]

@[simp] theorem execSeedWaitTimeout_fuses (s : State) : (stateOf (execSeedWaitTimeout s) s).fuses = s.fuses := by
  unfold execSeedWaitTimeout
  split <;> simp

@[simp] theorem takeSeed_fuses (cd fo : Int) (s : State) : (takeSeed cd fo s).fuses = s.fuses := by simp [takeSeed]
@[simp] theorem execAcqStepTimeout_fuses (s : State) : (stateOf (execAcqStepTimeout s) s).fuses = s.fuses := by simp [execAcqStepTimeout]

@[simp] theorem execTimingLock_fuses (offset : Int) (s : State) :
    (stateOf (execTimingLock offset s) s).fuses = s.fuses := by simp [execTimingLock]

@[simp] theorem execPolBlindConverged_fuses (s : State) :
    (stateOf (execPolBlindConverged s) s).fuses = s.fuses := by simp [execPolBlindConverged]

@[simp] theorem execPmxSingularityCheck_fuses (xcorr : Nat) (s : State) :
    (stateOf (execPmxSingularityCheck xcorr s) s).fuses = s.fuses := by simp [execPmxSingularityCheck]

@[simp] theorem execSuperframeLock_fuses (s : State) : (stateOf (execSuperframeLock s) s).fuses = s.fuses := by simp [execSuperframeLock]
@[simp] theorem execPolRdConverged_fuses (s : State) : (stateOf (execPolRdConverged s) s).fuses = s.fuses := by simp [execPolRdConverged]
@[simp] theorem reachLocked_fuses (s : State) : (reachLocked s).fuses = s.fuses := by simp [reachLocked]
@[simp] theorem daFallback_fuses (s : State) : (daFallback s).fuses = s.fuses := by simp [daFallback]

@[simp] theorem updateTaps_fuses (stage : Nat) (mu : ParamRow) (es : List (Complex × Complex × List Complex)) (s : State) :
    (updateTaps stage mu es s).fuses = s.fuses := rfl

@[simp] theorem keepLeaving_fuses (out : List PmxSymbol) (s : State) : (keepLeaving out s).fuses = s.fuses := rfl

@[simp] theorem execCodewordGroup_fuses (group : CodewordGroup) (first last unsat checks : Nat) (s : State) :
    (stateOf (execCodewordGroup group first last unsat checks s) s).fuses = s.fuses := by simp [execCodewordGroup]

@[simp] theorem execCdTrack_fuses (residual : Int) (s : State) :
    (stateOf (execCdTrack residual s) s).fuses = s.fuses := by simp [execCdTrack]

@[simp] theorem execNleRampDone_fuses (s : State) : (stateOf (execNleRampDone s) s).fuses = s.fuses := by simp [execNleRampDone]

@[simp] theorem execTimingUnlock_fuses (offset : Int) (s : State) :
    (stateOf (execTimingUnlock offset s) s).fuses = s.fuses := by simp [execTimingUnlock]

@[simp] theorem carrierLost_fuses (s : State) : (carrierLost s).fuses = s.fuses := by simp [carrierLost]
@[simp] theorem execCarrierUnlock_fuses (s : State) : (stateOf (execCarrierUnlock s) s).fuses = s.fuses := by simp [execCarrierUnlock]

@[simp] theorem execFoNearLimit_fuses (fineKHz : Int) (s : State) :
    (stateOf (execFoNearLimit fineKHz s) s).fuses = s.fuses := by simp [execFoNearLimit]

@[simp] theorem takeDgd_fuses (dgdPsX10 : Nat) (s : State) : (takeDgd dgdPsX10 s).fuses = s.fuses := by simp [takeDgd]

@[simp] theorem execDgdLimit_fuses (dgdPsX10 : Nat) (s : State) :
    (stateOf (execDgdLimit dgdPsX10 s) s).fuses = s.fuses := by simp [execDgdLimit]

@[simp] theorem execLosWindow_fuses (power : Int) (s : State) :
    (stateOf (execLosWindow power s) s).fuses = s.fuses := by simp [execLosWindow]

@[simp] theorem execLosHoldExpire_fuses (s : State) : (stateOf (execLosHoldExpire s) s).fuses = s.fuses := by simp [execLosHoldExpire]
@[simp] theorem startWarm_fuses (s : State) : (startWarm s).fuses = s.fuses := by simp [startWarm]
@[simp] theorem execWarmReacquire_fuses (s : State) : (stateOf (execWarmReacquire s) s).fuses = s.fuses := by simp [execWarmReacquire]
@[simp] theorem execWarmTimeout_fuses (s : State) : (stateOf (execWarmTimeout s) s).fuses = s.fuses := by simp [execWarmTimeout]

@[simp] theorem execRxReacquire_fuses (req : Request) (s : State) :
    (stateOf (execRxReacquire req s) s).fuses = s.fuses := by simp [execRxReacquire]

@[simp] theorem execNleCoefLoad_fuses (req : Request) (s : State) :
    (stateOf (execNleCoefLoad req s) s).fuses = s.fuses := by simp [execNleCoefLoad]

@[simp] theorem execNleCoefRead_fuses (req : Request) (s : State) :
    (stateOf (execNleCoefRead req s) s).fuses = s.fuses := by simp [execNleCoefRead]

@[simp] theorem rxdRestart_fuses (s : State) : (rxdRestart s).fuses = s.fuses := by simp [rxdRestart]
@[simp] theorem judgeDemapper_fuses (s : State) : (judgeDemapper s).fuses = s.fuses := rfl

@[simp] theorem rxdCommitted_fuses (unit : Nat) (ks : List Nat) (nle : List NleTriplet) (s : State) :
    (rxdCommitted unit ks nle s).fuses = s.fuses := by
  unfold rxdCommitted
  split <;> simp

@[simp] theorem loseStored_fuses (s : State) : (loseStored s).fuses = s.fuses := rfl

@[simp] theorem resetRxdUnit_fuses (unit : Nat) (s : State) : (resetRxdUnit unit s).fuses = s.fuses := by
  unfold resetRxdUnit
  split <;> simp

@[simp] theorem resetRxd_fuses (s : State) : (resetRxd s).fuses = s.fuses := by simp [resetRxd]
@[simp] theorem rxdEnter_fuses (device : Nat) (s : State) : (rxdEnter device s).fuses = s.fuses := by simp [rxdEnter]

/-! ### `Machine/Coding.lean` -/

@[simp] theorem decoderGains_fuses (unit : Nat) (s : State) : (decoderGains unit s).fuses = s.fuses := by simp [decoderGains]
@[simp] theorem noteUncorrected_fuses (unit : Nat) (s : State) : (noteUncorrected unit s).fuses = s.fuses := by simp [noteUncorrected]

@[simp] theorem deliverBlock_fuses (uncorrected : Bool) (s : State) : (deliverBlock uncorrected s).fuses = s.fuses := by
  cases uncorrected <;> simp [deliverBlock]

@[simp] theorem execBlockDecoded_fuses (b : BlockResult) (s : State) :
    (stateOf (execBlockDecoded b s) s).fuses = s.fuses := by simp [execBlockDecoded]

@[simp] theorem execParityError_fuses (cluster : Fin 16) (s : State) :
    (stateOf (execParityError cluster s) s).fuses = s.fuses := by simp [execParityError]

@[simp] theorem execFastBerWindow_fuses (berPpb : Nat) (s : State) :
    (stateOf (execFastBerWindow berPpb s) s).fuses = s.fuses := by simp [execFastBerWindow]

@[simp] theorem execIfdFrame_fuses (aligned : Bool) (codedBits corrected uncorrected : Nat) (s : State) :
    (stateOf (execIfdFrame aligned codedBits corrected uncorrected s) s).fuses = s.fuses := by simp [execIfdFrame]

@[simp] theorem execFecResync_fuses (req : Request) (s : State) :
    (stateOf (execFecResync req s) s).fuses = s.fuses := by simp [execFecResync]

@[simp] theorem endInjection_fuses (ife : Bool) (s : State) : (endInjection ife s).fuses = s.fuses := by simp [endInjection]

@[simp] theorem execFecInject_fuses (req : Request) (s : State) :
    (stateOf (execFecInject req s) s).fuses = s.fuses := by simp [execFecInject]

@[simp] theorem execInjectEnd_fuses (ife : Bool) (s : State) : (stateOf (execInjectEnd ife s) s).fuses = s.fuses := by
  unfold execInjectEnd
  split <;> simp

@[simp] theorem testClusters_fuses (failed : BitVec 16) (s : State) : (testClusters failed s).fuses = s.fuses := by simp [testClusters]

@[simp] theorem execCodSelftest_fuses (failedClusters : BitVec 16) (failed : Option CodPart) (s : State) :
    (stateOf (execCodSelftest failedClusters failed s) s).fuses = s.fuses := by
  unfold execCodSelftest
  repeat' split
  all_goals simp

@[simp] theorem codInterval_fuses (s : State) : (codInterval s).fuses = s.fuses := by simp [codInterval]
@[simp] theorem codCommitted_fuses (s : State) : (codCommitted s).fuses = s.fuses := by simp [codCommitted]

@[simp] theorem resetCodUnit_fuses (unit : Nat) (s : State) : (resetCodUnit unit s).fuses = s.fuses := by
  unfold resetCodUnit
  split <;> simp

@[simp] theorem resetCod_fuses (s : State) : (resetCod s).fuses = s.fuses := by simp [resetCod]

/-! ### `Machine/Cipher.lean` -/

@[simp] theorem State.onChannel_fuses (s : State) (c : ChannelId) (f : Channel → Channel) : (State.onChannel s c f).fuses = s.fuses := rfl
@[simp] theorem State.onSlot_fuses (s : State) (i : Fin 128) (f : KeySlot → KeySlot) : (State.onSlot s i f).fuses = s.fuses := rfl
@[simp] theorem judgeDummy_fuses (s : State) : (judgeDummy s).fuses = s.fuses := by simp [judgeDummy]

@[simp] theorem answerActivation_fuses (c : ChannelId) (rep : Reply) (s : State) : (answerActivation c rep s).fuses = s.fuses := by
  unfold answerActivation
  split <;> simp

@[simp] theorem cancelActivation_fuses (c : ChannelId) (s : State) : (cancelActivation c s).fuses = s.fuses := by
  unfold cancelActivation
  split <;> simp

@[simp] theorem cancelLoading_fuses (i : Fin 128) (s : State) : (cancelLoading i s).fuses = s.fuses := by
  unfold cancelLoading
  split <;> simp

@[simp] theorem zeroise_fuses (i : Fin 128) (s : State) : (zeroise i s).fuses = s.fuses := by simp [zeroise]

@[simp] theorem execKeyZeroise_fuses (req : Request) (s : State) :
    (stateOf (execKeyZeroise req s) s).fuses = s.fuses := by simp [execKeyZeroise]

@[simp] theorem writeKeyData_fuses (i : SeatId) (n : Fin 8) (v : Word) (s : State) :
    (writeKeyData i n v s).fuses = s.fuses := by simp [writeKeyData]

@[simp] theorem keyLoadRefused_fuses (i : SeatId) (slot result : Nat) (s : State) :
    (keyLoadRefused i slot result s).fuses = s.fuses := by simp [keyLoadRefused]

@[simp] theorem execKeyLoad_fuses (seat : SeatId) (value : Word) (s : State) :
    (stateOf (execKeyLoad seat value s) s).fuses = s.fuses := by simp [execKeyLoad]

@[simp] theorem execKeyLoadDone_fuses (slot : Fin 128) (storeOk : Bool) (s : State) :
    (stateOf (execKeyLoadDone slot storeOk s) s).fuses = s.fuses := by
  unfold execKeyLoadDone
  split <;> simp

@[simp] theorem suspend_fuses (c : ChannelId) (tx : Bool) (slot : Fin 128) (epoch counter : Nat) (line : List OduFrame) (at_ : List Nat)
    (s : State) :
    (suspend c tx slot epoch counter line at_ s).fuses = s.fuses := by simp [suspend]

@[simp] theorem execTxSegment_fuses (channel : Fin 64) (frames : List OduFrame) (suspensions : List Nat) (s : State) :
    (stateOf (execTxSegment channel frames suspensions s) s).fuses = s.fuses := by simp [execTxSegment]

@[simp] theorem followEpoch_fuses (c : ChannelId) (epoch : Nat) (s : State) :
    (followEpoch c epoch s).fuses = s.fuses := by simp [followEpoch]

@[simp] theorem judgePartner_fuses (c : ChannelId) (mode : Bool) (control : Byte) (s : State) :
    (judgePartner c mode control s).fuses = s.fuses := by simp [judgePartner]

@[simp] theorem endSegment_fuses (c : ChannelId) (r : ReadSegment) (s : State) : (endSegment c r s).fuses = s.fuses := rfl

@[simp] theorem readCounter_fuses (c : ChannelId) (read : Bool) (control : Byte) (epoch counter : Nat) (s : State) :
    (readCounter c read control epoch counter s).fuses = s.fuses := by simp [readCounter]

@[simp] theorem decryptSegment_fuses (c : ChannelId) (counter from_ : Nat) (frames : List OduFrame) (suspensions : List Nat) (s : State) :
    (decryptSegment c counter from_ frames suspensions s).fuses = s.fuses := by simp [decryptSegment]

@[simp] theorem execRxSegmentStart_fuses (channel : Fin 64) (frames : List OduFrame) (suspensions : List Nat) (s : State) :
    (stateOf (execRxSegmentStart channel frames suspensions s) s).fuses = s.fuses := by
  simp only [execRxSegmentStart]
  repeat' split
  all_goals simp

@[simp] theorem verdictFails_fuses (c : ChannelId) (counter : Nat) (s : State) :
    (verdictFails c counter s).fuses = s.fuses := by simp [verdictFails]

@[simp] theorem execTagVerdict_fuses (channel : Fin 64) (s : State) : (stateOf (execTagVerdict channel s) s).fuses = s.fuses := by
  unfold execTagVerdict
  split <;> simp

@[simp] theorem execSecSelftest_fuses (failed : BitVec 32) (expandOk : Bool) (s : State) :
    (stateOf (execSecSelftest failed expandOk s) s).fuses = s.fuses := by simp [execSecSelftest]

@[simp] theorem execSecChannelQuery_fuses (req : Request) (s : State) :
    (stateOf (execSecChannelQuery req s) s).fuses = s.fuses := by simp [execSecChannelQuery]

@[simp] theorem keyStoreError_fuses (i : Fin 128) (s : State) : (keyStoreError i s).fuses = s.fuses := by simp [keyStoreError]
@[simp] theorem contextError_fuses (c : ChannelId) (s : State) : (contextError c s).fuses = s.fuses := by simp [contextError]
@[simp] theorem secInterval_fuses (s : State) : (secInterval s).fuses = s.fuses := rfl
@[simp] theorem secCommitted_fuses (s : State) : (secCommitted s).fuses = s.fuses := by simp [secCommitted]
@[simp] theorem secExit_fuses (g : Fin 4) (s : State) : (secExit g s).fuses = s.fuses := by simp [secExit]
@[simp] theorem resetChannel_fuses (c : ChannelId) (s : State) : (resetChannel c s).fuses = s.fuses := rfl
@[simp] theorem resetSecTarget_fuses (p : Path) (s : State) : (resetSecTarget p s).fuses = s.fuses := by simp [resetSecTarget]
@[simp] theorem resetSec_fuses (s : State) : (resetSec s).fuses = s.fuses := by simp [resetSec]

/-! ### `Machine/FehOps.lean` -/

@[simp] theorem dacTo_fuses (n : HkDacId) (target : Nat) (s : State) : (dacTo n target s).fuses = s.fuses := rfl
@[simp] theorem holdDacs_fuses (s : State) : (holdDacs s).fuses = s.fuses := rfl
@[simp] theorem resumeDacs_fuses (s : State) : (resumeDacs s).fuses = s.fuses := by simp [resumeDacs]

/-! ### `Machine/HostLanes.lean` -/

@[simp] theorem State.onLane_fuses (s : State) (l : LaneId) (f : Lane → Lane) : (State.onLane s l f).fuses = s.fuses := rfl
@[simp] theorem State.onPort_fuses (s : State) (p : PortId) (f : Port → Port) : (State.onPort s p f).fuses = s.fuses := rfl
@[simp] theorem judgeHostClients_fuses (s : State) : (judgeHostClients s).fuses = s.fuses := by simp [judgeHostClients]
@[simp] theorem followClients_fuses (s : State) : (followClients s).fuses = s.fuses := by simp [followClients]
@[simp] theorem judgeSteps_fuses (s : State) : (judgeSteps s).fuses = s.fuses := by simp [judgeSteps]
@[simp] theorem portDown_fuses (p : PortId) (s : State) : (portDown p s).fuses = s.fuses := by simp [portDown]
@[simp] theorem judgeOrder_fuses (s : State) : (judgeOrder s).fuses = s.fuses := by simp [judgeOrder]

@[simp] theorem laneDown_fuses (l : LaneId) (step : Nat) (s : State) : (laneDown l step s).fuses = s.fuses := by
  unfold laneDown
  split <;> simp

@[simp] theorem countDown_fuses (l : LaneId) (s : State) : (countDown l s).fuses = s.fuses := rfl
@[simp] theorem laneFault_fuses (l : LaneId) (b : Nat) (s : State) : (laneFault l b s).fuses = s.fuses := rfl
@[simp] theorem restartLane_fuses (l : LaneId) (s : State) : (restartLane l s).fuses = s.fuses := by simp [restartLane]

@[simp] theorem execLaneSignalDetect_fuses (lane : Fin 16) (s : State) :
    (stateOf (execLaneSignalDetect lane s) s).fuses = s.fuses := by simp [execLaneSignalDetect]

@[simp] theorem execCdrLock_fuses (lane : Fin 16) (s : State) : (stateOf (execCdrLock lane s) s).fuses = s.fuses := by simp [execCdrLock]
@[simp] theorem trainingFailed_fuses (l : LaneId) (s : State) : (trainingFailed l s).fuses = s.fuses := by simp [trainingFailed]

@[simp] theorem execTrainingDone_fuses (lane : Fin 16) (ok : Bool) (taps : Vector Int 6) (s : State) :
    (stateOf (execTrainingDone lane ok taps s) s).fuses = s.fuses := by simp [execTrainingDone]

@[simp] theorem execPolarityDetermined_fuses (lane : Fin 16) (inverted : Bool) (s : State) :
    (stateOf (execPolarityDetermined lane inverted s) s).fuses = s.fuses := by simp [execPolarityDetermined]

@[simp] theorem execLaneOrderTry_fuses (s : State) : (stateOf (execLaneOrderTry s) s).fuses = s.fuses := by simp [execLaneOrderTry]
@[simp] theorem holdOrder_fuses (s : State) : (holdOrder s).fuses = s.fuses := by simp [holdOrder]
@[simp] theorem measureHost_fuses (p : PortId) (s : State) : (measureHost p s).fuses = s.fuses := by simp [measureHost]
@[simp] theorem finishPort_fuses (p : PortId) (skewNs : Nat) (s : State) : (finishPort p skewNs s).fuses = s.fuses := by simp [finishPort]

@[simp] theorem execPortUp_fuses (port : Fin 16) (skewNs : Nat) (s : State) :
    (stateOf (execPortUp port skewNs s) s).fuses = s.fuses := by simp [execPortUp]

@[simp] theorem execDeskewRetry_fuses (port : Fin 16) (skewNs : Nat) (s : State) :
    (stateOf (execDeskewRetry port skewNs s) s).fuses = s.fuses := by simp [execDeskewRetry]

@[simp] theorem execBringupTimeout_fuses (lane : Fin 16) (s : State) :
    (stateOf (execBringupTimeout lane s) s).fuses = s.fuses := by simp [execBringupTimeout]

@[simp] theorem execFreqOffset_fuses (lane : Fin 16) (ppm : Int) (s : State) : (stateOf (execFreqOffset lane ppm s) s).fuses = s.fuses := by
  simp only [execFreqOffset]
  repeat' split
  all_goals simp

@[simp] theorem execLaneDown_fuses (lane : Fin 16) (signalLost : Bool) (s : State) :
    (stateOf (execLaneDown lane signalLost s) s).fuses = s.fuses := by simp [execLaneDown]

@[simp] theorem execPartnerAbsent_fuses (lane : Fin 16) (s : State) :
    (stateOf (execPartnerAbsent lane s) s).fuses = s.fuses := by simp [execPartnerAbsent]

@[simp] theorem hostErrors_fuses (p : PortId) (s : State) : (hostErrors p s).fuses = s.fuses := by simp [hostErrors]

@[simp] theorem execAuiFecCodeword_fuses (port : Fin 16) (corrected : Bool) (uncorrectable : Bool) (lf : Bool) (rf : Bool) (s : State) :
    (stateOf (execAuiFecCodeword port corrected uncorrectable lf rf s) s).fuses = s.fuses := by simp [execAuiFecCodeword]

@[simp] theorem execAlignmentMarkerLoss_fuses (port : Fin 16) (s : State) :
    (stateOf (execAlignmentMarkerLoss port s) s).fuses = s.fuses := by simp [execAlignmentMarkerLoss]

@[simp] theorem execPcsBlockError_fuses (port : Fin 16) (s : State) :
    (stateOf (execPcsBlockError port s) s).fuses = s.fuses := by simp [execPcsBlockError]

/-- The step of `hstInterval` at one port. Stated through `KeepsFuses`, so that the kernel compares the two states as they are written:
it would compare their fuses by computing the 64-bit difference that `bad` stands for. -/
theorem keepsFuses_onPort_raiseAt (n u : Nat) (p : PortId) (bad : State → Bool) (f : State → Port → Port) :
    KeepsFuses fun s => if bad s then raiseAt n u p.val (s.onPort p (f s)) else s.onPort p (f s) := fun s => by
  dsimp only
  split
  · rw [raiseAt_fuses, State.onPort_fuses]
  · rw [State.onPort_fuses]

@[simp] theorem hstInterval_fuses (s : State) : (hstInterval s).fuses = s.fuses :=
  overAll_fuses _ _ (fun p => keepsFuses_onPort_raiseAt 218 16 p _ _) s

@[simp] theorem markerDefect_fuses (l : LaneId) (p : PortId) (s : State) : (markerDefect l p s).fuses = s.fuses := by simp [markerDefect]
@[simp] theorem badMarker_fuses (l : LaneId) (p : PortId) (s : State) : (badMarker l p s).fuses = s.fuses := by simp [badMarker]

@[simp] theorem execTlmMarker_fuses (lane : Fin 16) (marker : Option (BitVec 256)) (received : List (Fin 4)) (s : State) :
    (stateOf (execTlmMarker lane marker received s) s).fuses = s.fuses := by
  unfold execTlmMarker
  extract_lets k u stuffs violations t m hst t1 good
  split
  · rfl
  · have ht1 : t1.fuses = s.fuses := by
      unfold t1 t
      split <;> simp
    split
    · exact ht1
    · split
      · exact ht1
      · extract_lets t2 index bs t3 t4
        have ht3 : t3.fuses = s.fuses := by simp [t3, t2, ht1]
        cases m <;> simp [t4, ht3]

@[simp] theorem execTlmPeriod_fuses (port : Fin 16) (pad : Fin 4096) (dropped : Nat) (words : List (BitVec 256)) (s : State) :
    (stateOf (execTlmPeriod port pad dropped words s) s).fuses = s.fuses := by simp [execTlmPeriod]

@[simp] theorem State.onFlexe_fuses (s : State) (g : Fin 4) (f : FlexeGroup → FlexeGroup) : (State.onFlexe s g f).fuses = s.fuses := rfl

@[simp] theorem execFlexeOh_fuses (port : Fin 16) (crcOk : Bool) (gidOk : Bool) (phyOk : Bool) (locked : Bool) (rpf : Bool) (s : State) :
    (stateOf (execFlexeOh port crcOk gidOk phyOk locked rpf s) s).fuses = s.fuses := by
  unfold execFlexeOh
  split <;> simp

@[simp] theorem execHostCalRequest_fuses (group : Fin 4) (calendar : List Nat) (s : State) :
    (stateOf (execHostCalRequest group calendar s) s).fuses = s.fuses := by simp [execHostCalRequest]

@[simp] theorem execFlexeCalQuery_fuses (req : Request) (s : State) :
    (stateOf (execFlexeCalQuery req s) s).fuses = s.fuses := by simp [execFlexeCalQuery]

@[simp] theorem execHstLaneRetrain_fuses (req : Request) (s : State) :
    (stateOf (execHstLaneRetrain req s) s).fuses = s.fuses := by simp [execHstLaneRetrain]

@[simp] theorem execHstLaneEye_fuses (req : Request) (snr : Nat) (upper : Nat) (middle : Nat) (lower : Nat) (width : Nat) (ctle : Nat)
    (dfe : Int) (s : State) :
    (stateOf (execHstLaneEye req snr upper middle lower width ctle dfe s) s).fuses = s.fuses := by simp [execHstLaneEye]

@[simp] theorem muteLane_fuses (l : LaneId) (on : Bool) (s : State) : (muteLane l on s).fuses = s.fuses := rfl
@[simp] theorem hstPower_fuses (s : State) : (hstPower s).fuses = s.fuses := by simp [hstPower]

@[simp] theorem resetHstUnit_fuses (unit : Nat) (s : State) : (resetHstUnit unit s).fuses = s.fuses := by
  unfold resetHstUnit
  split <;> simp

/-! ### `Machine/Timing.lean` -/

@[simp] theorem whileTime_fuses (s : State) (act : State → State) (h : KeepsFuses act) : (stateOf (whileTime s act) s).fuses = s.fuses := by
  rw [keepsFuses_iff] at h
  simp [whileTime, h]

@[simp] theorem measureSlot_fuses (n : SlotId) (hard soft : Int) (s : State) :
    (measureSlot n hard soft s).fuses = s.fuses := by simp [measureSlot]

@[simp] theorem execSlotMeasure_fuses (slot : Fin 8) (hard : Int) (soft : Int) (xtalB : Int) (s : State) :
    (stateOf (execSlotMeasure slot hard soft xtalB s) s).fuses = s.fuses := by simp [execSlotMeasure]

@[simp] theorem execSoakDone_fuses (slot : Fin 8) (s : State) : (stateOf (execSoakDone slot s) s).fuses = s.fuses := by
  unfold execSoakDone
  apply whileTime_fuses
  intro s
  dsimp only
  split <;> simp

@[simp] theorem execWtrDone_fuses (slot : Fin 8) (s : State) : (stateOf (execWtrDone slot s) s).fuses = s.fuses := by
  unfold execWtrDone
  apply whileTime_fuses
  intro s
  dsimp only
  split <;> simp

@[simp] theorem execActivityLoss_fuses (slot : Fin 8) (s : State) : (stateOf (execActivityLoss slot s) s).fuses = s.fuses := by
  unfold execActivityLoss
  split <;> simp

@[simp] theorem execActivityReturn_fuses (slot : Fin 8) (s : State) : (stateOf (execActivityReturn slot s) s).fuses = s.fuses := by
  unfold execActivityReturn
  split <;> simp

@[simp] theorem execHoldoffExpire_fuses (slot : Fin 8) (s : State) : (stateOf (execHoldoffExpire slot s) s).fuses = s.fuses := by
  unfold execHoldoffExpire
  apply whileTime_fuses
  intro s
  dsimp only
  split <;> simp

@[simp] theorem execSelectorRun_fuses (s : State) : (stateOf (execSelectorRun s) s).fuses = s.fuses := by simp [execSelectorRun]

@[simp] theorem execXtalBWarmup_fuses (offset : Int) (s : State) : (stateOf (execXtalBWarmup offset s) s).fuses = s.fuses := by
  unfold execXtalBWarmup
  apply whileTime_fuses
  intro s
  dsimp only
  split <;> simp

@[simp] theorem execHistoryEntry_fuses (ppt : Int) (linePpt : Int) (lineLocked : Bool) (syncLocked : Bool) (s : State) :
    (stateOf (execHistoryEntry ppt linePpt lineLocked syncLocked s) s).fuses = s.fuses := by
  unfold execHistoryEntry
  apply whileTime_fuses
  intro s
  dsimp only
  split <;> simp

@[simp] theorem execHoldoverLimit_fuses (s : State) : (stateOf (execHoldoverLimit s) s).fuses = s.fuses := by simp [execHoldoverLimit]
@[simp] theorem measurePulse_fuses (intervalPs : Nat) (s : State) : (measurePulse intervalPs s).fuses = s.fuses := by simp [measurePulse]

@[simp] theorem execPpsInEdge_fuses (edge : PpsEdge) (s : State) :
    (stateOf (execPpsInEdge edge s) s).fuses = s.fuses := by simp [execPpsInEdge]

@[simp] theorem execPpsOut_fuses (s : State) : (stateOf (execPpsOut s) s).fuses = s.fuses := by simp [execPpsOut]

@[simp] theorem execPpsPulseEnd_fuses (s : State) : (stateOf (execPpsPulseEnd s) s).fuses = s.fuses := by
  unfold execPpsPulseEnd
  apply whileTime_fuses
  intro s
  dsimp only
  split <;> simp

@[simp] theorem State.onPtp_fuses (s : State) (p : Fin 2) (f : PtpPort → PtpPort) : (State.onPtp s p f).fuses = s.fuses := rfl
@[simp] theorem setPtpState_fuses (p : Fin 2) (st : Nat) (s : State) : (setPtpState p st s).fuses = s.fuses := by simp [setPtpState]
@[simp] theorem judgePtp_fuses (s : State) : (judgePtp s).fuses = s.fuses := by simp [judgePtp]
@[simp] theorem expireMasters_fuses (s : State) : (expireMasters s).fuses = s.fuses := rfl

@[simp] theorem sendPtp_fuses (port : Fin 2) (kind : Nat) (announced : Option ClockData) (s : State) :
    (sendPtp port kind announced s).fuses = s.fuses := rfl

@[simp] theorem hearAnnounce_fuses (port : Fin 2) (d : ClockData) (s : State) :
    (hearAnnounce port d s).fuses = s.fuses := by simp [hearAnnounce]

@[simp] theorem hearSync_fuses (port : Fin 2) (off : Int) (s : State) : (hearSync port off s).fuses = s.fuses := by simp [hearSync]

@[simp] theorem execPtpMessageRx_fuses (port : Fin 2) (message : PtpRx) (s : State) :
    (stateOf (execPtpMessageRx port message s) s).fuses = s.fuses := by
  unfold execPtpMessageRx
  split <;> simp

@[simp] theorem execPtpMessageTx_fuses (port : Fin 2) (kind : Fin 4) (s : State) :
    (stateOf (execPtpMessageTx port kind s) s).fuses = s.fuses := by simp [execPtpMessageTx]

@[simp] theorem execPtpSyncTimeout_fuses (port : Fin 2) (s : State) : (stateOf (execPtpSyncTimeout port s) s).fuses = s.fuses := by
  unfold execPtpSyncTimeout
  apply whileTime_fuses
  intro s
  dsimp only
  split <;> simp

@[simp] theorem execTimSetTime_fuses (req : Request) (s : State) :
    (stateOf (execTimSetTime req s) s).fuses = s.fuses := by simp [execTimSetTime]

@[simp] theorem execTimSetTimeApply_fuses (s : State) : (stateOf (execTimSetTimeApply s) s).fuses = s.fuses := by
  unfold execTimSetTimeApply
  apply whileTime_fuses
  intro s
  dsimp only
  split <;> simp

@[simp] theorem execTimQuery_fuses (req : Request) (s : State) : (stateOf (execTimQuery req s) s).fuses = s.fuses := by simp [execTimQuery]

@[simp] theorem execTimClearWtr_fuses (req : Request) (s : State) : (stateOf (execTimClearWtr req s) s).fuses = s.fuses := by
  unfold execTimClearWtr
  split <;> simp

@[simp] theorem renewSlot_fuses (n : SlotId) (s : State) : (renewSlot n s).fuses = s.fuses := by simp [renewSlot]
@[simp] theorem timCommitted_fuses (ks : List Nat) (s : State) : (timCommitted ks s).fuses = s.fuses := by simp [timCommitted]
@[simp] theorem timPower_fuses (s : State) : (timPower s).fuses = s.fuses := by simp [timPower]

@[simp] theorem resetTimUnit_fuses (unit : Nat) (s : State) : (resetTimUnit unit s).fuses = s.fuses := by
  unfold resetTimUnit
  split <;> simp

@[simp] theorem resetTim_fuses (s : State) : (resetTim s).fuses = s.fuses := by simp [resetTim]

/-! ### `Machine/Clocks.lean` -/

@[simp] theorem clearSource_fuses (n : SourceId) (s : State) : (clearSource n s).fuses = s.fuses := by simp [clearSource]
@[simp] theorem mgmtLost_fuses (s : State) : (mgmtLost s).fuses = s.fuses := by simp [mgmtLost]
@[simp] theorem failAccess_fuses (i : SeatId) (write : Bool) (s : State) : (failAccess i write s).fuses = s.fuses := by simp [failAccess]
@[simp] theorem gateTimesOut_fuses (path : Path) (s : State) : (gateTimesOut path s).fuses = s.fuses := by simp [gateTimesOut]
@[simp] theorem endWaits_fuses (stopped : Path → Bool) (s : State) : (endWaits stopped s).fuses = s.fuses := by simp [endWaits]

@[simp] theorem domainStops_fuses (n : SourceId) (s : State) : (domainStops n s).fuses = s.fuses := by
  unfold domainStops
  split <;> simp

@[simp] theorem enterSafe_fuses (n : SourceId) (cause : Nat) (s : State) : (enterSafe n cause s).fuses = s.fuses := by simp [enterSafe]

@[simp] theorem declareFailed_fuses (n : SourceId) (cause : Nat) (s : State) :
    (declareFailed n cause s).fuses = s.fuses := by simp [declareFailed]

@[simp] theorem losePll_fuses (pll : Fin 4) (s : State) : (losePll pll s).fuses = s.fuses := by simp [losePll]
@[simp] theorem losePlls_fuses (n : SourceId) (s : State) : (losePlls n s).fuses = s.fuses := by simp [losePlls]
@[simp] theorem sourceGone_fuses (n : SourceId) (s : State) : (sourceGone n s).fuses = s.fuses := by simp [sourceGone]

@[simp] theorem sourceFailed_fuses (n : SourceId) (cause : Nat) (s : State) :
    (sourceFailed n cause s).fuses = s.fuses := by simp [sourceFailed]

@[simp] theorem startupStep_fuses (s : State) : (startupStep s).fuses = s.fuses := by simp [startupStep]
@[simp] theorem startupClocks_fuses (s : State) : (startupClocks s).fuses = s.fuses := by simp [startupClocks]

@[simp] theorem execSourceAmplitude_fuses (source : Fin 10) (valid : Bool) (s : State) :
    (stateOf (execSourceAmplitude source valid s) s).fuses = s.fuses := by simp [execSourceAmplitude]

@[simp] theorem execSourceReady_fuses (source : Fin 10) (s : State) :
    (stateOf (execSourceReady source s) s).fuses = s.fuses := by simp [execSourceReady]

@[simp] theorem execPllLock_fuses (pll : Fin 4) (s : State) : (stateOf (execPllLock pll s) s).fuses = s.fuses := by simp [execPllLock]
@[simp] theorem execPllUnlock_fuses (pll : Fin 4) (s : State) : (stateOf (execPllUnlock pll s) s).fuses = s.fuses := by simp [execPllUnlock]

@[simp] theorem execClockMonitorWindow_fuses (source : Fin 10) (ok : Bool) (s : State) :
    (stateOf (execClockMonitorWindow source ok s) s).fuses = s.fuses := by simp [execClockMonitorWindow]

@[simp] theorem State.onMux_fuses (s : State) (m : Fin 3) (f : ClockMux → ClockMux) : (State.onMux s m f).fuses = s.fuses := rfl

@[simp] theorem execClkSwitch_fuses (req : Request) (s : State) : (stateOf (execClkSwitch req s) s).fuses = s.fuses := by
  unfold execClkSwitch
  split <;> simp

@[simp] theorem answerSwitch_fuses (m : Fin 3) (rep : Reply) (s : State) : (answerSwitch m rep s).fuses = s.fuses := by
  unfold answerSwitch
  split <;> simp

@[simp] theorem finishSwitch_fuses (m : Fin 3) (s : State) : (finishSwitch m s).fuses = s.fuses := by
  unfold finishSwitch
  split <;> simp

@[simp] theorem execClkSwitchDone_fuses (mux : Fin 3) (s : State) :
    (stateOf (execClkSwitchDone mux s) s).fuses = s.fuses := by simp [execClkSwitchDone]

@[simp] theorem execOldClockStopped_fuses (mux : Fin 3) (s : State) : (stateOf (execOldClockStopped mux s) s).fuses = s.fuses := by
  unfold execOldClockStopped
  split <;> simp

@[simp] theorem clearMark_fuses (sec unit : Nat) (s : State) : (clearMark sec unit s).fuses = s.fuses := rfl
@[simp] theorem execIdleAck_fuses (path : Path) (s : State) : (stateOf (execIdleAck path s) s).fuses = s.fuses := by simp [execIdleAck]

@[simp] theorem execGateTimeout_fuses (path : Path) (accesses : List PendingAccess) (s : State) :
    (stateOf (execGateTimeout path accesses s) s).fuses = s.fuses := by
  unfold execGateTimeout
  split
  · rw [stateOf_next, gateTimesOut_fuses]
    refine overAll_fuses _ _ (fun a s => ?_) s
    cases a <;> simp
  · rfl

@[simp] theorem clkCommitted_fuses (s : State) : (clkCommitted s).fuses = s.fuses := by simp [clkCommitted]
@[simp] theorem resetClkUnit_fuses (unit : Nat) (s : State) : (resetClkUnit unit s).fuses = s.fuses := by simp [resetClkUnit]

/-! ### `Machine/MemOps.lean` -/

@[simp] theorem setFlips_fuses (g : MemGroup) (word mask : Nat) (s : State) : (setFlips g word mask s).fuses = s.fuses := rfl
@[simp] theorem upset_fuses (g : MemGroup) (word mask : Nat) (s : State) : (upset g word mask s).fuses = s.fuses := rfl

@[simp] theorem noteError_fuses (g : MemGroup) (word kind source : Nat) (s : State) : (noteError g word kind source s).fuses = s.fuses := by
  unfold noteError
  repeat' split
  all_goals simp

@[simp] theorem readWord_fuses (g : MemGroup) (word source : Nat) (keep : Bool) (s : State) :
    (readWord g word source keep s).2.fuses = s.fuses := by
  simp only [readWord]
  split <;> simp

@[simp] theorem partialWrite_fuses (g : MemGroup) (word source : Nat) (s : State) : (partialWrite g word source s).2.fuses = s.fuses := by
  simp only [partialWrite]
  split <;> simp

@[simp] theorem writeBulkWord_fuses (word lo : Nat) (bs : List Byte) (source : Nat) (s : State) :
    (writeBulkWord word lo bs source s).fuses = s.fuses := by simp [writeBulkWord]

@[simp] theorem writeBulk_fuses (fuel a : Nat) (bs : List Byte) (source : Nat) (s : State) :
    (writeBulk fuel a bs source s).fuses = s.fuses := by
  induction fuel generalizing a bs s with
  | zero => rfl
  | succ fuel ih => simp [writeBulk, ih]

@[simp] theorem bulkStore_fuses (a : Nat) (bs : List Byte) (source : Nat) (s : State) :
    (bulkStore a bs source s).fuses = s.fuses := by simp [bulkStore]

@[simp] theorem State.onQueue_fuses (s : State) (q : QueueId) (f : Spq → Spq) : (State.onQueue s q f).fuses = s.fuses := rfl
@[simp] theorem judgeHigh_fuses (q : QueueId) (s : State) : (judgeHigh q s).fuses = s.fuses := by simp [judgeHigh]
@[simp] theorem storeWord_fuses (q : QueueId) (w : SpqWord) (s : State) : (storeWord q w s).fuses = s.fuses := by simp [storeWord]

@[simp] theorem fetchWords_fuses (q : QueueId) (place : Nat) (ws : List SpqWord) (s : State) :
    (fetchWords q place ws s).2.fuses = s.fuses := by
  induction ws generalizing place s with
  | nil => rfl
  | cons w ws ih => simp [fetchWords, ih]

@[simp] theorem relay_fuses (q : QueueId) (ws : List SpqWord) (s : State) : (relay q ws s).fuses = s.fuses := by simp [relay]
@[simp] theorem passRegion_fuses (q : QueueId) (n : Nat) (s : State) : (passRegion q n s).fuses = s.fuses := by simp [passRegion]
@[simp] theorem burst_fuses (q : QueueId) (s : State) : (burst q s).fuses = s.fuses := by simp [burst]
@[simp] theorem enterWord_fuses (q : QueueId) (w : SpqWord) (s : State) : (enterWord q w s).fuses = s.fuses := by simp [enterWord]
@[simp] theorem removeWords_fuses (q : QueueId) (n : Nat) (s : State) : (removeWords q n s).fuses = s.fuses := by simp [removeWords]
@[simp] theorem hwPush_fuses (q : QueueId) (ds : List Word64) (s : State) : (hwPush q ds s).2.fuses = s.fuses := by simp [hwPush]

@[simp] theorem hwPop_fuses (q : QueueId) (s : State) : (hwPop q s).2.fuses = s.fuses := by
  unfold hwPop
  split <;> simp

/-! ### `Machine/Memory.lean` -/

@[simp] theorem scrubNext_fuses (g : MemGroup) (s : State) : (scrubNext g s).fuses = s.fuses := by simp [scrubNext]

@[simp] theorem execMemRetire_fuses (req : Request) (s : State) :
    (stateOf (execMemRetire req s) s).fuses = s.fuses := by simp [execMemRetire]

@[simp] theorem copyOut_fuses (pages : List Nat) (q : QueueId) (s : State) : (copyOut pages q s).fuses = s.fuses := by simp [copyOut]
@[simp] theorem copyBack_fuses (q : QueueId) (s : State) : (copyBack q s).fuses = s.fuses := by simp [copyBack]

@[simp] theorem answerRetire_fuses (r : Retiring) (s : State) : (answerRetire r s).fuses = s.fuses := by
  unfold answerRetire
  split <;> simp

@[simp] theorem execRetireDone_fuses (s : State) : (stateOf (execRetireDone s) s).fuses = s.fuses := by
  unfold execRetireDone
  split <;> simp

@[simp] theorem windowRead_fuses (word lo n : Nat) (s : State) : (windowRead word lo n s).2.fuses = s.fuses := by
  unfold windowRead
  split <;> simp

@[simp] theorem execMemInject_fuses (req : Request) (s : State) :
    (stateOf (execMemInject req s) s).fuses = s.fuses := by simp [execMemInject]

@[simp] theorem execLogClear_fuses (seat : SeatId) (groups : BitVec 6) (s : State) :
    (stateOf (execLogClear seat groups s) s).fuses = s.fuses := by simp [execLogClear]

@[simp] theorem seatPush_fuses (seat : SeatId) (q : QueueId) (w : SpqWord) (s : State) :
    (seatPush seat q w s).fuses = s.fuses := by simp [seatPush]

@[simp] theorem execSpqPush_fuses (seat : SeatId) (queue : Fin 24) (hi : Word) (lo : Option Word) (s : State) :
    (stateOf (execSpqPush seat queue hi lo s) s).fuses = s.fuses := by simp [execSpqPush]

@[simp] theorem execSpqPushLast_fuses (seat : SeatId) (queue : Fin 24) (hi : Word) (s : State) :
    (stateOf (execSpqPushLast seat queue hi s) s).fuses = s.fuses := by simp [execSpqPushLast]

@[simp] theorem execSpqPop_fuses (seat : SeatId) (queue : Fin 24) (wide : Bool) (s : State) :
    (stateOf (execSpqPop seat queue wide s) s).fuses = s.fuses := by
  unfold execSpqPop
  apply whenOpen_fuses
  dsimp only
  repeat' split
  all_goals simp

@[simp] theorem execSpqDrop_fuses (seat : SeatId) (queue : Fin 24) (s : State) :
    (stateOf (execSpqDrop seat queue s) s).fuses = s.fuses := by
  unfold execSpqDrop
  apply whenOpen_fuses
  rw [stateOf_next]
  apply unitWrite_fuses
  intro s
  dsimp only
  repeat' split
  all_goals simp

@[simp] theorem execSpqHwPush_fuses (queue : Fin 24) (words : List Word64) (s : State) :
    (stateOf (execSpqHwPush queue words s) s).fuses = s.fuses := by simp [execSpqHwPush]

theorem hwPop_eq_fuses {q : QueueId} {s t : State} {r : Option (List Word64)} (h : hwPop q s = (r, t)) : t.fuses = s.fuses := by
  simpa [h] using hwPop_fuses q s

@[simp] theorem execSpqHwPop_fuses (queue : Fin 24) (s : State) : (stateOf (execSpqHwPop queue s) s).fuses = s.fuses := by
  unfold execSpqHwPop
  split
  · rfl
  · split <;> rename_i h <;> simp [hwPop_eq_fuses h]

@[simp] theorem execSpqSpill_fuses (queue : Fin 24) (upsets : List (Nat × Nat)) (s : State) :
    (stateOf (execSpqSpill queue upsets s) s).fuses = s.fuses := by simp [execSpqSpill]

@[simp] theorem seatResetQueues_fuses (i : SeatId) (s : State) : (seatResetQueues i s).fuses = s.fuses := by simp [seatResetQueues]
@[simp] theorem regionChanged_fuses (q : QueueId) (s : State) : (regionChanged q s).fuses = s.fuses := by simp [regionChanged]
@[simp] theorem memCommitted_fuses (ks : List Nat) (s : State) : (memCommitted ks s).fuses = s.fuses := by simp [memCommitted]
@[simp] theorem resetMemUnit_fuses (unit inst : Nat) (s : State) : (resetMemUnit unit inst s).fuses = s.fuses := by simp [resetMemUnit]

/-! ### `Machine/Housekeeping.lean` -/

@[simp] theorem State.onHk_fuses (s : State) (c : ConvId) (f : HkConv → HkConv) : (State.onHk s c f).fuses = s.fuses := rfl

@[simp] theorem whileHk_fuses (s : State) (act : State → State) (h : KeepsFuses act) : (whileHk s act).fuses = s.fuses := by
  rw [keepsFuses_iff] at h
  simp [whileHk, h]

@[simp] theorem missTrigger_fuses (c : ConvId) (report : Bool) (s : State) :
    (missTrigger c report s).fuses = s.fuses := by simp [missTrigger]

@[simp] theorem beginBurst_fuses (c : ConvId) (passes : Nat) (s : State) : (beginBurst c passes s).fuses = s.fuses := rfl
@[simp] theorem seqTrigger_fuses (c : ConvId) (s : State) : (seqTrigger c s).fuses = s.fuses := by simp [seqTrigger]
@[simp] theorem urgTrigger_fuses (c : ConvId) (s : State) : (urgTrigger c s).fuses = s.fuses := by simp [urgTrigger]
@[simp] theorem settle_fuses (c : ConvId) (s : State) : (settle c s).fuses = s.fuses := rfl

@[simp] theorem execSeqApply_fuses (seat : SeatId) (mask : BitVec 2) (s : State) :
    (stateOf (execSeqApply seat mask s) s).fuses = s.fuses := by
  unfold execSeqApply
  apply whenOpen_fuses
  simp

@[simp] theorem execSeqTrigger_fuses (seat : SeatId) (mask : BitVec 2) (s : State) :
    (stateOf (execSeqTrigger seat mask s) s).fuses = s.fuses := by
  unfold execSeqTrigger
  apply whenOpen_fuses
  apply unitWrite_fuses
  intro s
  simp

@[simp] theorem execUrgentTrigger_fuses (seat : SeatId) (mask : BitVec 2) (s : State) :
    (stateOf (execUrgentTrigger seat mask s) s).fuses = s.fuses := by
  unfold execUrgentTrigger
  apply whenOpen_fuses
  apply unitWrite_fuses
  intro s
  simp

@[simp] theorem endBurst_fuses (c : ConvId) (complete : Bool) (s : State) : (endBurst c complete s).fuses = s.fuses := by simp [endBurst]
@[simp] theorem stopBurst_fuses (c : ConvId) (s : State) : (stopBurst c s).fuses = s.fuses := by simp [stopBurst]

@[simp] theorem execBurstStop_fuses (seat : SeatId) (mask : BitVec 2) (s t : State) :
    (stateOf (execBurstStop seat mask s) t).fuses = s.fuses := by
  unfold execBurstStop whenOpen
  split
  · rfl
  · rw [stateOf_next]
    apply unitWrite_fuses
    simp

@[simp] theorem execSeqTimer_fuses (conv : Fin 2) (s : State) : (stateOf (execSeqTimer conv s) s).fuses = s.fuses := by simp [execSeqTimer]
@[simp] theorem flintReachesHk_fuses (s : State) : (flintReachesHk s).fuses = s.fuses := by simp [flintReachesHk]
@[simp] theorem execFlintHkTrigger_fuses (s : State) : (stateOf (execFlintHkTrigger s) s).fuses = s.fuses := by simp [execFlintHkTrigger]

@[simp] theorem execCompCrossing_fuses (comp : Fin 8) (uv : Nat) (s : State) :
    (stateOf (execCompCrossing comp uv s) s).fuses = s.fuses := by simp [execCompCrossing]

@[simp] theorem dmaWrite_fuses (c : ConvId) (v : Nat) (s : State) : (dmaWrite c v s).fuses = s.fuses := by
  have lose : KeepsFuses fun s => raiseFor 227 c.val (s.onHk c fun k => { k with lost := satInc 16 k.lost }) :=
    fun s => raiseFor_fuses _ _ _
  refine (ite_fuses _ _ _).trans ?_
  rw [State.onHk_fuses, bulkStore_fuses, ite_fuses, lose, ite_self, ite_self, State.onHk_fuses]

@[simp] theorem execDmaRdOffset_fuses (seat : SeatId) (conv : Fin 2) (value : BitVec 20) (s : State) :
    (stateOf (execDmaRdOffset seat conv value s) s).fuses = s.fuses := by simp [execDmaRdOffset]

@[simp] theorem endHkPass_fuses (c : ConvId) (s : State) : (endHkPass c s).fuses = s.fuses := by simp [endHkPass]

@[simp] theorem seqConversion_fuses (c : ConvId) (uv : Int) (vref : Nat) (s : State) : (seqConversion c uv vref s).fuses = s.fuses := by
  unfold seqConversion
  split <;> simp

@[simp] theorem urgConversion_fuses (c : ConvId) (uv : Int) (vref : Nat) (s : State) : (urgConversion c uv vref s).fuses = s.fuses := by
  unfold urgConversion
  split <;> simp

@[simp] theorem abcConversion_fuses (c : ConvId) (n : Nat) (uv : Int) (vref : Nat) (s : State) :
    (abcConversion c n uv vref s).fuses = s.fuses := rfl

@[simp] theorem beginAbc_fuses (c : ConvId) (s : State) : (beginAbc c s).fuses = s.fuses := rfl

@[simp] theorem sequenceStep_fuses (conv : ConvId) (uv other : Int) (vref : Nat) (s : State) :
    (sequenceStep conv uv other vref s).fuses = s.fuses := by simp [sequenceStep]

@[simp] theorem execHkConversion_fuses (conv : Fin 2) (uv other : Int) (vref : Nat) (s : State) :
    (stateOf (execHkConversion conv uv other vref s) s).fuses = s.fuses := by
  rw [execHkConversion, stateOf_next]
  apply whileHk_fuses
  intro s
  dsimp only
  repeat' split
  all_goals simp

@[simp] theorem execRefSettled_fuses (conv : Fin 2) (s : State) : (stateOf (execRefSettled conv s) s).fuses = s.fuses := by
  rw [execRefSettled, stateOf_next]
  apply whileHk_fuses
  intro s
  dsimp only
  repeat' split
  all_goals simp

@[simp] theorem execVrefCheck_fuses (uv : Nat) (s : State) : (stateOf (execVrefCheck uv s) s).fuses = s.fuses := by simp [execVrefCheck]

@[simp] theorem execHkdRampDone_fuses (dac : Fin 12) (s : State) : (stateOf (execHkdRampDone dac s) s).fuses = s.fuses := by
  simp only [execHkdRampDone]
  split <;> simp

@[simp] theorem startDwell_fuses (b : Option (Fin 6)) (s : State) : (startDwell b s).fuses = s.fuses := rfl
@[simp] theorem State.onBias_fuses (s : State) (b : Fin 6) (f : Bias → Bias) : (State.onBias s b f).fuses = s.fuses := rfl
@[simp] theorem stepBias_fuses (b : Fin 6) (step : Int) (s : State) : (stepBias b step s).fuses = s.fuses := by simp [stepBias]

@[simp] theorem judgeLock_fuses (b : Fin 6) (sum : Int) (count : Nat) (s : State) :
    (judgeLock b sum count s).fuses = s.fuses := by simp [judgeLock]

@[simp] theorem execAbcDwell_fuses (samples : List (Nat × Int)) (vref : Nat) (s : State) :
    (stateOf (execAbcDwell samples vref s) s).fuses = s.fuses := by
  rw [execAbcDwell, stateOf_next]
  apply whileHk_fuses
  intro s
  dsimp only
  split <;> simp

@[simp] theorem execAbcRelock_fuses (req : Request) (s : State) :
    (stateOf (execAbcRelock req s) s).fuses = s.fuses := by simp [execAbcRelock]

@[simp] theorem State.onItl_fuses (s : State) (f : Itl → Itl) : (State.onItl s f).fuses = s.fuses := rfl

@[simp] theorem execItlTxPacket_fuses (s : State) : (stateOf (execItlTxPacket s) s).fuses = s.fuses := by
  unfold execItlTxPacket
  split
  · rfl
  · split
    · dsimp only
      split <;> simp
    · split <;> rename_i h <;> simp [hwPop_eq_fuses h]

@[simp] theorem execItlResponse_fuses (bytes : Vector Byte 4) (s : State) : (stateOf (execItlResponse bytes s) s).fuses = s.fuses := by
  unfold execItlResponse
  repeat' split
  all_goals simp

@[simp] theorem execItlRspTimeout_fuses (s : State) : (stateOf (execItlRspTimeout s) s).fuses = s.fuses := by
  unfold execItlRspTimeout
  split <;> simp

@[simp] theorem execFtfLoopPeriod_fuses (s : State) : (stateOf (execFtfLoopPeriod s) s).fuses = s.fuses := by
  simp only [execFtfLoopPeriod]
  repeat' split
  all_goals simp

@[simp] theorem execItlLoopQuery_fuses (req : Request) (s : State) :
    (stateOf (execItlLoopQuery req s) s).fuses = s.fuses := by simp [execItlLoopQuery]

@[simp] theorem hkaCommitted_fuses (ks : List Nat) (s : State) : (hkaCommitted ks s).fuses = s.fuses := by simp [hkaCommitted]

@[simp] theorem channelCommitted_fuses (ks : List Nat) (n : HkDacId) (s : State) :
    (channelCommitted ks n s).fuses = s.fuses := by simp [channelCommitted]

@[simp] theorem biasCommitted_fuses (ks : List Nat) (s : State) : (biasCommitted ks s).fuses = s.fuses := by simp [biasCommitted]
@[simp] theorem itlCommitted_fuses (s : State) : (itlCommitted s).fuses = s.fuses := by simp [itlCommitted]
@[simp] theorem fehPower_fuses (s : State) : (fehPower s).fuses = s.fuses := by simp [fehPower]
@[simp] theorem fehRelease_fuses (s : State) : (fehRelease s).fuses = s.fuses := by simp [fehRelease]

@[simp] theorem resetFehUnit_fuses (unit : Nat) (s : State) : (resetFehUnit unit s).fuses = s.fuses := by
  unfold resetFehUnit
  split <;> simp

/-! ### `Machine/Frame.lean` -/

@[simp] theorem judgeMsi_fuses (s : State) : (judgeMsi s).fuses = s.fuses := by simp [judgeMsi]
@[simp] theorem judgeTrace_fuses (s : State) : (judgeTrace s).fuses = s.fuses := by simp [judgeTrace]
@[simp] theorem alignFrame_fuses (f : OtucFrame) (s : State) : (alignFrame f s).fuses = s.fuses := by simp [alignFrame]
@[simp] theorem judgeJc_fuses (f : OtucFrame) (c : Nat) (s : State) : (judgeJc f c s).fuses = s.fuses := by simp [judgeJc]

@[simp] theorem checkOverhead_fuses (f : OtucFrame) (s : State) : (checkOverhead f s).fuses = s.fuses := by
  simp only [checkOverhead]
  split <;> simp

@[simp] theorem execRxOtucFrame_fuses (f : OtucFrame) (s : State) :
    (stateOf (execRxOtucFrame f s) s).fuses = s.fuses := by simp [execRxOtucFrame]

@[simp] theorem execLofDeclare_fuses (s : State) : (stateOf (execLofDeclare s) s).fuses = s.fuses := by simp [execLofDeclare]
@[simp] theorem execLofClear_fuses (s : State) : (stateOf (execLofClear s) s).fuses = s.fuses := by simp [execLofClear]

@[simp] theorem execRestoreHoldExpire_fuses (c : Fin 64) (s : State) : (stateOf (execRestoreHoldExpire c s) s).fuses = s.fuses := by
  unfold execRestoreHoldExpire
  split <;> simp

@[simp] theorem execGccRxFrame_fuses (ch : Fin 3) (received : List Byte) (s : State) :
    (stateOf (execGccRxFrame ch received s) s).fuses = s.fuses := by
  unfold execGccRxFrame
  repeat' split
  all_goals simp

@[simp] theorem execGccTxPacket_fuses (channel : Fin 3) (s : State) : (stateOf (execGccTxPacket channel s) s).fuses = s.fuses := by
  unfold execGccTxPacket
  split
  · rfl
  · split <;> rename_i h
    · simp [hwPop_eq_fuses h]
    · split <;> simp [hwPop_eq_fuses h]

@[simp] theorem execFrmTtiRead_fuses (req : Request) (s : State) :
    (stateOf (execFrmTtiRead req s) s).fuses = s.fuses := by simp [execFrmTtiRead]

@[simp] theorem execFrmClientQuery_fuses (req : Request) (s : State) :
    (stateOf (execFrmClientQuery req s) s).fuses = s.fuses := by simp [execFrmClientQuery]

@[simp] theorem frmInterval_fuses (s : State) : (frmInterval s).fuses = s.fuses := by simp [frmInterval]
@[simp] theorem class0Step_fuses (s : State) : (class0Step s).fuses = s.fuses := by simp [class0Step]
@[simp] theorem frmCommitted_fuses (s : State) : (frmCommitted s).fuses = s.fuses := by simp [frmCommitted]
@[simp] theorem dropOverhead_fuses (s : State) : (dropOverhead s).fuses = s.fuses := rfl
@[simp] theorem frmEnter_fuses (device : Nat) (s : State) : (frmEnter device s).fuses = s.fuses := by simp [frmEnter]

@[simp] theorem resetFrmUnit_fuses (unit : Nat) (s : State) : (resetFrmUnit unit s).fuses = s.fuses := by
  unfold resetFrmUnit
  split <;> simp

/-! ### `Machine/Lodestone.lean` -/

@[simp] theorem sendFrame_fuses (sf type : Nat) (payload : List Byte) (s : State) :
    (sendFrame sf type payload s).fuses = s.fuses := by simp [sendFrame]

@[simp] theorem sendIdentity_fuses (sf : Nat) (s : State) : (sendIdentity sf s).fuses = s.fuses := by simp [sendIdentity]

@[simp] theorem slotAt_fuses (sf : Nat) (s : State) : (slotAt sf s).fuses = s.fuses := by
  simp only [slotAt]
  repeat' split
  all_goals simp

@[simp] theorem execIdentityDue_fuses (s : State) : (stateOf (execIdentityDue s) s).fuses = s.fuses := by simp [execIdentityDue]
@[simp] theorem foreignPreamble_fuses (group : Nat) (s : State) : (foreignPreamble group s).fuses = s.fuses := by simp [foreignPreamble]
@[simp] theorem adoptPreamble_fuses (p : Preamble) (s : State) : (adoptPreamble p s).fuses = s.fuses := rfl

@[simp] theorem execPreambleDetect_fuses (metric : Nat) (gain : Fin 121) (group : Byte) (s : State) :
    (stateOf (execPreambleDetect metric gain group s) s).fuses = s.fuses := by
  unfold execPreambleDetect
  repeat' split
  all_goals simp

@[simp] theorem endReception_fuses (headerFailed : Bool) (s : State) : (endReception headerFailed s).fuses = s.fuses := by
  unfold endReception
  split <;> simp

@[simp] theorem execLodHeader_fuses (bytes : Vector Byte 4) (s : State) : (stateOf (execLodHeader bytes s) s).fuses = s.fuses := by
  unfold execLodHeader
  split <;> simp

@[simp] theorem judgeRate_fuses (s : State) : (judgeRate s).fuses = s.fuses := by simp [judgeRate]
@[simp] theorem takeEstimates_fuses (cd fo ppm : Int) (s : State) : (takeEstimates cd fo ppm s).fuses = s.fuses := by simp [takeEstimates]
@[simp] theorem judgeCancel_fuses (s : State) : (judgeCancel s).fuses = s.fuses := by simp [judgeCancel]
@[simp] theorem lodProtocolError_fuses (s : State) : (lodProtocolError s).fuses = s.fuses := by simp [lodProtocolError]
@[simp] theorem passToLms_fuses (m : LodMessage) (s : State) : (passToLms m s).fuses = s.fuses := by simp [passToLms]
@[simp] theorem noteBeacon_fuses (beacon : Bool) (s : State) : (noteBeacon beacon s).fuses = s.fuses := by simp [noteBeacon]

@[simp] theorem execLodFrame_fuses (rest : List Byte) (cd fo ppm : Int) (beacon : Bool) (s : State) :
    (stateOf (execLodFrame rest cd fo ppm beacon s) s).fuses = s.fuses := by
  unfold execLodFrame
  split <;> simp

@[simp] theorem execRxBeaconClear_fuses (s : State) : (stateOf (execRxBeaconClear s) s).fuses = s.fuses := by simp [execRxBeaconClear]

@[simp] theorem execLdtGainUpdate_fuses (gain : Fin 121) (s : State) :
    (stateOf (execLdtGainUpdate gain s) s).fuses = s.fuses := by simp [execLdtGainUpdate]

theorem takeMessage_fuses {p : Nat → Bool} {s t : State} {m : LodMessage} (h : takeMessage p s = some (m, t)) : t.fuses = s.fuses := by
  unfold takeMessage at h
  split at h <;> cases h
  rfl

@[simp] theorem execIdentityRx_fuses (s : State) : (stateOf (execIdentityRx s) s).fuses = s.fuses := by
  unfold execIdentityRx
  split
  · rfl
  · split
    · rfl
    · rename_i h
      simp [takeMessage_fuses h]

@[simp] theorem execHostOpaqueRx_fuses (s : State) : (stateOf (execHostOpaqueRx s) s).fuses = s.fuses := by
  unfold execHostOpaqueRx
  split
  · rfl
  · split
    · rfl
    · rename_i h
      simp [takeMessage_fuses h]

@[simp] theorem execLodTxPacket_fuses (s : State) : (stateOf (execLodTxPacket s) s).fuses = s.fuses := by
  unfold execLodTxPacket
  split
  · rfl
  · split <;> rename_i h
    · simp [hwPop_eq_fuses h]
    · split <;> simp [hwPop_eq_fuses h]

@[simp] theorem losePartner_fuses (s : State) : (losePartner s).fuses = s.fuses := by simp [losePartner]
@[simp] theorem execPartnerTimeout_fuses (s : State) : (stateOf (execPartnerTimeout s) s).fuses = s.fuses := by simp [execPartnerTimeout]

@[simp] theorem execLodPartnerQuery_fuses (req : Request) (s : State) :
    (stateOf (execLodPartnerQuery req s) s).fuses = s.fuses := by simp [execLodPartnerQuery]

@[simp] theorem execLodIdentityNow_fuses (req : Request) (s : State) :
    (stateOf (execLodIdentityNow req s) s).fuses = s.fuses := by simp [execLodIdentityNow]

@[simp] theorem lodCommitted_fuses (s : State) : (lodCommitted s).fuses = s.fuses := by simp [lodCommitted]
@[simp] theorem lodEnter_fuses (device : Nat) (s : State) : (lodEnter device s).fuses = s.fuses := by simp [lodEnter]

@[simp] theorem resetLodUnit_fuses (unit : Nat) (s : State) : (resetLodUnit unit s).fuses = s.fuses := by
  unfold resetLodUnit
  split <;> simp

/-! ### `Machine/Monitor.lean` -/

@[simp] theorem State.onChain_fuses (s : State) (c : ChainId) (f : Chain → Chain) : (State.onChain s c f).fuses = s.fuses := rfl
@[simp] theorem abortCapture_fuses (cause : Nat) (s : State) : (abortCapture cause s).fuses = s.fuses := by simp [abortCapture]
@[simp] theorem unsettle_fuses (c : ChainId) (s : State) : (unsettle c s).fuses = s.fuses := by simp [unsettle]
@[simp] theorem judgeChain_fuses (c : ChainId) (s : State) : (judgeChain c s).fuses = s.fuses := by simp [judgeChain]
@[simp] theorem judgeChains_fuses (s : State) : (judgeChains s).fuses = s.fuses := by simp [judgeChains]

@[simp] theorem execChainSettled_fuses (chain : Fin 8) (s : State) :
    (stateOf (execChainSettled chain s) s).fuses = s.fuses := by simp [execChainSettled]

@[simp] theorem judgeCrossing_fuses (c : ChainId) (level : Int) (s : State) :
    (judgeCrossing c level s).fuses = s.fuses := by simp [judgeCrossing]

@[simp] theorem detect_fuses (c : ChainId) (y : Int) (s : State) : (detect c y s).fuses = s.fuses := by
  simp only [detect]
  split <;> simp

@[simp] theorem captureBytesAt_fuses (bs : List Byte) (s : State) : (captureBytesAt bs s).fuses = s.fuses := by simp [captureBytesAt]

@[simp] theorem deliverOutput_fuses (chain : ChainId) (y : BitVec 32) (s : State) :
    (deliverOutput chain y s).fuses = s.fuses := by simp [deliverOutput]

@[simp] theorem chainCycle_fuses (c : ChainId) (s : State) (cycle : TapCycle) : (chainCycle c s cycle).fuses = s.fuses := by
  simp only [chainCycle]
  split <;> simp

@[simp] theorem execChainOutput_fuses (chain : Fin 8) (cycles : List TapCycle) (s : State) :
    (stateOf (execChainOutput chain cycles s) s).fuses = s.fuses := by simp [execChainOutput]

@[simp] theorem execDetApply_fuses (seat : SeatId) (chain : Fin 8) (value : Word) (s : State) :
    (stateOf (execDetApply seat chain value s) s).fuses = s.fuses := by simp [execDetApply]

@[simp] theorem judgeCapture_fuses (s : State) : (judgeCapture s).fuses = s.fuses := by
  unfold judgeCapture
  repeat' split
  all_goals simp

@[simp] theorem execCapArm_fuses (req : Request) (s : State) : (stateOf (execCapArm req s) s).fuses = s.fuses := by simp [execCapArm]
@[simp] theorem execCapStop_fuses (req : Request) (s : State) : (stateOf (execCapStop req s) s).fuses = s.fuses := by simp [execCapStop]

@[simp] theorem execCapTrigger_fuses (req : Request) (s : State) :
    (stateOf (execCapTrigger req s) s).fuses = s.fuses := by simp [execCapTrigger]

@[simp] theorem finishCapture_fuses (s : State) : (finishCapture s).fuses = s.fuses := by simp [finishCapture]

@[simp] theorem captureCycles_fuses (cycles : List CaptureCycle) (s : State) :
    (captureCycles cycles s).fuses = s.fuses := by simp [captureCycles]

@[simp] theorem execCaptureDone_fuses (before : Nat) (cycles : List CaptureCycle) (s : State) :
    (stateOf (execCaptureDone before cycles s) s).fuses = s.fuses := by simp [execCaptureDone]

@[simp] theorem decideGain_fuses (chs : List (Fin 4)) (s : State) : (decideGain chs s).fuses = s.fuses := by simp [decideGain]

@[simp] theorem execAgcDecision_fuses (set : Fin 4) (s : State) :
    (stateOf (execAgcDecision set s) s).fuses = s.fuses := by simp [execAgcDecision]

@[simp] theorem monCommitted_fuses (s : State) : (monCommitted s).fuses = s.fuses := by simp [monCommitted]
@[simp] theorem monPower_fuses (s : State) : (monPower s).fuses = s.fuses := by simp [monPower]

@[simp] theorem resetMonTarget_fuses (p : Path) (s : State) : (resetMonTarget p s).fuses = s.fuses := by
  unfold resetMonTarget
  split <;> simp

/-! ### `Machine/CommitRules.lean` -/

@[simp] theorem State.withRecs_fuses (s : State) (recs : NMap Int) : (State.withRecs s recs).fuses = s.fuses := rfl
@[simp] theorem State.withStored_fuses (s : State) : (State.withStored s).fuses = s.fuses := rfl

/-! ### `Machine/DomOps.lean` -/

@[simp] theorem State.onTvl_fuses (s : State) (p : TvlId) (f : TvlPort → TvlPort) : (State.onTvl s p f).fuses = s.fuses := rfl
@[simp] theorem sendOut_fuses (p : TvlId) (f : TvlFrame) (s : State) : (sendOut p f s).fuses = s.fuses := by simp [sendOut]

@[simp] theorem floodFrame_fuses (type dest : Nat) (payload : List Byte) (s : State) :
    (floodFrame type dest payload s).fuses = s.fuses := by simp [floodFrame]

@[simp] theorem judgeAuthority_fuses (s : State) : (judgeAuthority s).fuses = s.fuses := by simp [judgeAuthority]
@[simp] theorem setRoster_fuses (r : List Nat) (epoch : Nat) (s : State) : (setRoster r epoch s).fuses = s.fuses := by simp [setRoster]

@[simp] theorem keeperRoster_fuses (r : List Nat) (epoch : Nat) (s : State) :
    (keeperRoster r epoch s).fuses = s.fuses := by simp [keeperRoster]

@[simp] theorem domainChanged_fuses (s : State) : (domainChanged s).fuses = s.fuses := by simp [domainChanged]
@[simp] theorem memberLeaves_fuses (id : Nat) (s : State) : (memberLeaves id s).fuses = s.fuses := by simp [memberLeaves]
@[simp] theorem State.onFlint_fuses (s : State) (f : Flint → Flint) : (State.onFlint s f).fuses = s.fuses := rfl
@[simp] theorem standbyLanes_fuses (s : State) : (standbyLanes s).fuses = s.fuses := rfl
@[simp] theorem followActive_fuses (active : Option Bool) (s : State) : (followActive active s).fuses = s.fuses := by simp [followActive]
@[simp] theorem driveGpio_fuses (high : Bool) (s : State) : (driveGpio high s).fuses = s.fuses := by simp [driveGpio]
@[simp] theorem noteForHk_fuses (changed : Bool) (s : State) : (noteForHk changed s).fuses = s.fuses := by simp [noteForHk]
@[simp] theorem setActive_fuses (a : Bool) (cause : Nat) (s : State) : (setActive a cause s).fuses = s.fuses := by simp [setActive]
@[simp] theorem judgeWtr_fuses (s : State) : (judgeWtr s).fuses = s.fuses := rfl

@[simp] theorem judgeFlint_fuses (expired : Bool) (why : Option Nat) (s : State) :
    (judgeFlint expired why s).fuses = s.fuses := by simp [judgeFlint]

@[simp] theorem refreshHealth_fuses (s : State) : (refreshHealth s).2.fuses = s.fuses := by simp [refreshHealth]
@[simp] theorem State.onNp_fuses (s : State) (f : NpGroup → NpGroup) : (State.onNp s f).fuses = s.fuses := rfl
@[simp] theorem npApply_fuses (m : Nat) (s : State) : (npApply m s).fuses = s.fuses := by simp [npApply]
@[simp] theorem npSelect_fuses (m : Nat) (s : State) : (npSelect m s).fuses = s.fuses := by simp [npSelect]

@[simp] theorem judgeNp_fuses (s : State) : (judgeNp s).fuses = s.fuses := by
  simp only [judgeNp]
  repeat' split
  all_goals simp

@[simp] theorem judgeDomain_fuses (s : State) : (judgeDomain s).fuses = s.fuses := by simp [judgeDomain]
@[simp] theorem domCommitted_fuses (idChanged : Bool) (s : State) : (domCommitted idChanged s).fuses = s.fuses := by simp [domCommitted]
@[simp] theorem fltCommitted_fuses (pairChanged : Bool) (s : State) : (fltCommitted pairChanged s).fuses = s.fuses := by simp [fltCommitted]
@[simp] theorem restartPort_fuses (p : TvlId) (s : State) : (restartPort p s).fuses = s.fuses := by simp [restartPort]

@[simp] theorem resetDomTarget_fuses (p : Path) (s : State) : (resetDomTarget p s).fuses = s.fuses := by
  unfold resetDomTarget
  split <;> simp

/-! ### `Machine/DeviceOps.lean` -/

@[simp] theorem reserveTx_fuses (h : Holder) (earliest : Nat) (s : State) : (reserveTx h earliest s).2.fuses = s.fuses := rfl
@[simp] theorem reserveRx_fuses (h : Holder) (earliest : Nat) (s : State) : (reserveRx h earliest s).2.fuses = s.fuses := rfl
@[simp] theorem noteDeferral_fuses (n : Nat) (s : State) : (noteDeferral n s).fuses = s.fuses := by simp [noteDeferral]
@[simp] theorem restartChain_fuses (s : State) : (restartChain s).fuses = s.fuses := by simp [restartChain]
@[simp] theorem takeFormat_fuses (s : State) : (takeFormat s).fuses = s.fuses := by simp [takeFormat]
@[simp] theorem dropCommit_fuses (id : Nat) (s : State) : (dropCommit id s).fuses = s.fuses := rfl
@[simp] theorem answerCommit_fuses (c : Commit) (rep : Reply) (s : State) : (answerCommit c rep s).fuses = s.fuses := by simp [answerCommit]
@[simp] theorem withdrawRate_fuses (id : Nat) (s : State) : (withdrawRate id s).fuses = s.fuses := rfl

@[simp] theorem cancelRate_fuses (answer : Option Reply) (s : State) : (cancelRate answer s).fuses = s.fuses := by
  simp only [cancelRate]
  repeat' split
  all_goals simp

@[simp] theorem judgeThermal_fuses (s : State) : (judgeThermal s).fuses = s.fuses := by simp [judgeThermal]
@[simp] theorem followDevice_fuses (old : Nat) (s : State) : (followDevice old s).fuses = s.fuses := by simp [followDevice]
@[simp] theorem followPower_fuses (old : Nat) (s : State) : (followPower old s).fuses = s.fuses := by simp [followPower]

/-! ### `Machine/CommitOps.lean` -/

@[simp] theorem followTransmit_fuses (old : State) (ks : List Nat) (dpd : List DpdCoef) (s : State) :
    (followTransmit old ks dpd s).fuses = s.fuses := by simp [followTransmit]

@[simp] theorem followReceive_fuses (old : State) (ks : List Nat) (nle : List NleTriplet) (s : State) :
    (followReceive old ks nle s).fuses = s.fuses := by simp [followReceive]

@[simp] theorem followFrame_fuses (old : State) (ks all : List Nat) (s : State) :
    (followFrame old ks all s).fuses = s.fuses := by simp [followFrame]

@[simp] theorem followHost_fuses (old : State) (ks : List Nat) (s : State) : (followHost old ks s).fuses = s.fuses := by simp [followHost]
@[simp] theorem followOthers_fuses (ks : List Nat) (s : State) : (followOthers ks s).fuses = s.fuses := by simp [followOthers]

@[simp] theorem followGroups_fuses (old : State) (ks : List Nat) (s : State) :
    (followGroups old ks s).fuses = s.fuses := by simp [followGroups]

@[simp] theorem followKeys_fuses (old : State) (ks all : List Nat) (nle : List NleTriplet) (dpd : List DpdCoef) (s : State) :
    (followKeys old ks all nle dpd s).fuses = s.fuses := by simp [followKeys]

@[simp] theorem State.onCommit_fuses (s : State) (id : Nat) (f : Commit → Commit) : (State.onCommit s id f).fuses = s.fuses := rfl
@[simp] theorem runValues_fuses (recs : NMap Int) (s : State) : (runValues recs s).fuses = s.fuses := by simp [runValues]

@[simp] theorem landParts_fuses (c : Commit) (ps : List CommitPart) (s : State) : (landParts c ps s).fuses = s.fuses := by
  unfold landParts
  dsimp only
  rw [followKeys_fuses, foldl_fuses]
  · simp
  · intro p s
    refine foldl_fuses _ _ (fun e s => ?_) s
    dsimp only
    split
    · rfl
    · split <;> rfl

@[simp] theorem finishCommit_fuses (c : Commit) (s : State) : (finishCommit c s).fuses = s.fuses := by simp [finishCommit]

@[simp] theorem placeRate_fuses (id : Nat) (s : State) : (placeRate id s).fuses = s.fuses := by
  unfold placeRate
  split <;> simp

@[simp] theorem placeDir_fuses (c : Commit) (d : Dir) (s : State) : (placeDir c d s).fuses = s.fuses := by simp [placeDir]
@[simp] theorem replaceLost_fuses (s : State) : (replaceLost s).fuses = s.fuses := by simp [replaceLost]
@[simp] theorem storeCommit_fuses (c : Commit) (s : State) : (storeCommit c s).fuses = s.fuses := rfl
@[simp] theorem takeStored_fuses (s : State) : (takeStored s).fuses = s.fuses := by simp [takeStored]
@[simp] theorem placeCommit_fuses (c : Commit) (s : State) : (placeCommit c s).fuses = s.fuses := by simp [placeCommit]

@[simp] theorem startResizes_fuses (id : Nat) (items : List (Nat × Nat × Nat)) (s : State) : (startResizes id items s).fuses = s.fuses := by
  simp only [startResizes]
  split <;> simp

@[simp] theorem takeCalendar_fuses (recs : NMap Int) (s : State) : (takeCalendar recs s).fuses = s.fuses := by simp [takeCalendar]
@[simp] theorem startCalendar_fuses (c : Commit) (s : State) : (startCalendar c s).2.fuses = s.fuses := by simp [startCalendar]

@[simp] theorem advanceCommit_fuses (n id : Nat) (s : State) : (advanceCommit n id s).fuses = s.fuses := by
  induction n generalizing s with
  | zero => rfl
  | succ n ih =>
    unfold advanceCommit
    split
    · rfl
    · split <;> simp [ih]

@[simp] theorem continueCommit_fuses (id : Nat) (s : State) : (continueCommit id s).fuses = s.fuses := by simp [continueCommit]
@[simp] theorem stageDone_fuses (id : Nat) (s : State) : (stageDone id s).fuses = s.fuses := by simp [stageDone]

@[simp] theorem undoCommit_fuses (id : Nat) (answer : Option Reply) (s : State) : (undoCommit id answer s).fuses = s.fuses := by
  unfold undoCommit
  repeat' split
  all_goals simp

@[simp] theorem failCommit_fuses (id : Nat) (s : State) : (failCommit id s).fuses = s.fuses := by simp [failCommit]

@[simp] theorem showResize_fuses (s : State) : (showResize s).fuses = s.fuses := by
  unfold showResize
  split <;> simp

@[simp] theorem resizeFails_fuses (s : State) : (resizeFails s).fuses = s.fuses := by
  unfold resizeFails
  split <;> simp

@[simp] theorem landCommit_fuses (onTx : Bool) (sf id : Nat) (s : State) : (landCommit onTx sf id s).fuses = s.fuses := by
  unfold landCommit
  split <;> simp

@[simp] theorem announceRate_fuses (s : State) : (announceRate s).fuses = s.fuses := by
  unfold announceRate
  split <;> simp

@[simp] theorem landRate_fuses (s : State) : (landRate s).fuses = s.fuses := by
  unfold landRate
  split <;> simp

@[simp] theorem landKey_fuses (c : ChannelId) (s : State) : (landKey c s).fuses = s.fuses := by
  unfold landKey
  split <;> simp

@[simp] theorem landTx_fuses (s : State) : (landTx s).fuses = s.fuses := by simp [landTx]
@[simp] theorem sendHeader_fuses (s : State) : (sendHeader s).fuses = s.fuses := by simp [sendHeader]
@[simp] theorem enterTx_fuses (n : Nat) (s : State) : (enterTx n s).fuses = s.fuses := by simp [enterTx]

@[simp] theorem advanceTo_fuses (fuel target : Nat) (s : State) : (advanceTo fuel target s).fuses = s.fuses := by
  induction fuel generalizing s with
  | zero => simp [advanceTo]
  | succ fuel ih =>
    unfold advanceTo
    split <;> simp [ih]

@[simp] theorem advanceTx_fuses (target : Nat) (s : State) : (advanceTx target s).fuses = s.fuses := by simp [advanceTx]

@[simp] theorem cancelCommit_fuses (c : Commit) (answer : Option Reply) (s : State) :
    (cancelCommit c answer s).fuses = s.fuses := by simp [cancelCommit]

@[simp] theorem abandonCommit_fuses (c : Commit) (s : State) : (abandonCommit c s).fuses = s.fuses := by simp [abandonCommit]

@[simp] theorem interruptCommit_fuses (ps : List Path) (c : Commit) (s : State) :
    (interruptCommit ps c s).fuses = s.fuses := by simp [interruptCommit]

@[simp] theorem forgetWaiting_fuses (mine : Waiting → Bool) (s : State) : (forgetWaiting mine s).fuses = s.fuses := rfl

@[simp] theorem refuseWaiting_fuses (mine : Waiting → Bool) (answer : Reply) (s : State) :
    (refuseWaiting mine answer s).fuses = s.fuses := by
  refine overAll_fuses _ _ (fun w s => ?_) s
  cases w <;> simp

/-! ### `Machine/Seats.lean` -/

@[simp] theorem seatWrite_fuses (i : SeatId) (s : State) (act : State → State) (h : KeepsFuses act) :
    (stateOf (seatWrite i s act) s).fuses = s.fuses := by
  rw [keepsFuses_iff] at h
  simp [seatWrite, h]

@[simp] theorem readRingWords_fuses (i : SeatId) (n k : Nat) (s : State) : (readRingWords i n k s).2.2.fuses = s.fuses := by
  induction n generalizing k s with
  | zero => rfl
  | succ n ih => simp [readRingWords, ih]

@[simp] theorem answerHeader_fuses (i : SeatId) (h : Header) (rep : Reply) (s : State) :
    (answerHeader i h rep s).fuses = s.fuses := by simp [answerHeader]

@[simp] theorem failDoorbell_fuses (i : SeatId) (s : State) : (failDoorbell i s).fuses = s.fuses := rfl

@[simp] theorem examine_fuses (i : SeatId) (d : Doorbell) (s : State) : (examine i d s).fuses = s.fuses := by
  unfold examine
  dsimp only
  repeat' split
  all_goals simp

@[simp] theorem dispatch_fuses (n : Nat) (i : SeatId) (s : State) : (dispatch n i s).fuses = s.fuses := by
  induction n generalizing s with
  | zero => rfl
  | succ n ih =>
    simp only [dispatch]
    split <;> simp [ih]

@[simp] theorem runDispatcher_fuses (i : SeatId) (s : State) : (runDispatcher i s).fuses = s.fuses := by simp [runDispatcher]

@[simp] theorem execDoorbell_fuses (seat : SeatId) (tail : BitVec 7) (upsets : List (Nat × Nat)) (s : State) :
    (stateOf (execDoorbell seat tail upsets s) s).fuses = s.fuses := by simp [execDoorbell]

@[simp] theorem execRspHeadWrite_fuses (seat : SeatId) (head : BitVec 7) (s : State) :
    (stateOf (execRspHeadWrite seat head s) s).fuses = s.fuses := by simp [execRspHeadWrite]

@[simp] theorem execRspRingStalled_fuses (seat : SeatId) (s : State) : (stateOf (execRspRingStalled seat s) s).fuses = s.fuses := by
  unfold execRspRingStalled
  split <;> simp

@[simp] theorem writeRingWord_fuses (i : SeatId) (k lo : Nat) (bs : List Byte) (s : State) :
    (writeRingWord i k lo bs s).fuses = s.fuses := by simp [writeRingWord]

@[simp] theorem writeRingBytes_fuses (fuel : Nat) (i : SeatId) (a : Nat) (bs : List Byte) (s : State) :
    (writeRingBytes fuel i a bs s).fuses = s.fuses := by
  induction fuel generalizing a bs s with
  | zero => rfl
  | succ fuel ih => simp [writeRingBytes, ih]

@[simp] theorem execRingEntryWrite_fuses (seat : SeatId) (offset : Fin 8192) (bytes : List Byte) (flips : Nat) (s : State) :
    (stateOf (execRingEntryWrite seat offset bytes flips s) s).fuses = s.fuses := by simp [execRingEntryWrite]

@[simp] theorem seatReset_fuses (i : SeatId) (s : State) : (seatReset i s).fuses = s.fuses := by simp [seatReset]
@[simp] theorem detachSeat_fuses (i : SeatId) (s : State) : (detachSeat i s).fuses = s.fuses := by simp [detachSeat]
@[simp] theorem resetMsix_fuses (i : SeatId) (s : State) : (resetMsix i s).fuses = s.fuses := rfl

@[simp] theorem execFunctionLevelReset_fuses (pf : Fin 2) (s : State) :
    (stateOf (execFunctionLevelReset pf s) s).fuses = s.fuses := by simp [execFunctionLevelReset]

@[simp] theorem execPciePerst_fuses (s : State) : (stateOf (execPciePerst s) s).fuses = s.fuses := by simp [execPciePerst]
@[simp] theorem execPciePerstRelease_fuses (s : State) : (stateOf (execPciePerstRelease s) s).fuses = s.fuses := rfl

@[simp] theorem execAttach_fuses (seat : SeatId) (value : Word) (s : State) :
    (stateOf (execAttach seat value s) s).fuses = s.fuses := by simp [execAttach]

@[simp] theorem execSeatReset_fuses (seat : SeatId) (s : State) :
    (stateOf (execSeatReset seat s) s).fuses = s.fuses := by simp [execSeatReset]

@[simp] theorem execDetach_fuses (seat : SeatId) (s : State) : (stateOf (execDetach seat s) s).fuses = s.fuses := by simp [execDetach]

@[simp] theorem execHeartbeat_fuses (seat : SeatId) (beat : Word) (s : State) :
    (stateOf (execHeartbeat seat beat s) s).fuses = s.fuses := by simp [execHeartbeat]

@[simp] theorem execSeatHbTimeoutWrite_fuses (seat : SeatId) (value : Word) (s : State) :
    (stateOf (execSeatHbTimeoutWrite seat value s) s).fuses = s.fuses := by simp [execSeatHbTimeoutWrite]

@[simp] theorem execSeatAbsent_fuses (seat : SeatId) (s : State) :
    (stateOf (execSeatAbsent seat s) s).fuses = s.fuses := by simp [execSeatAbsent]

@[simp] theorem execUnmappedWrite_fuses (seat : SeatId) (capture : Option Nat) (bytes : List Byte) (s : State) :
    (stateOf (execUnmappedWrite seat capture bytes s) s).fuses = s.fuses := by simp [execUnmappedWrite]

/-! ### `Machine/Ownership.lean` -/

@[simp] theorem eachPath_fuses (f : Path → State → List Byte × State) (h : ∀ p, KeepsFuses fun s => (f p s).2) (ps : List Path)
    (s : State) : (eachPath f ps s).2.fuses = s.fuses := by
  induction ps generalizing s with
  | nil => rfl
  | cons p ps ih => exact (ih _).trans (h p s)

@[simp] theorem serveList_fuses (req : Request) (skip : Nat) (s : State) (act : List Path → State → State)
    (h : ∀ ps, KeepsFuses (act ps)) : (stateOf (serveList req skip s act) s).fuses = s.fuses := by
  rw [serveList, stateOf_next]
  refine serve_fuses _ _ _ fun s => ?_
  split
  · simp
  · split
    · simp
    · exact h _ s

@[simp] theorem answerEach_fuses (req : Request) (f : Path → State → List Byte × State) (h : ∀ p, KeepsFuses fun s => (f p s).2)
    (ps : List Path) (s : State) : (answerEach req f ps s).fuses = s.fuses :=
  (respond_fuses _ _ _).trans (eachPath_fuses f h ps s)

@[simp] theorem claimOne_fuses (i : SeatId) (p : Path) (s : State) : (claimOne i p s).2.fuses = s.fuses := by
  unfold claimOne
  repeat' split
  all_goals simp

@[simp] theorem execClaim_fuses (req : Request) (s : State) : (stateOf (execClaim req s) s).fuses = s.fuses := by simp [execClaim]

@[simp] theorem handOver_fuses (i : SeatId) (o : Option SeatId) (p : Path) (s : State) :
    (handOver i o p s).2.fuses = s.fuses := by simp [handOver]

@[simp] theorem execRelease_fuses (req : Request) (s : State) : (stateOf (execRelease req s) s).fuses = s.fuses := by simp [execRelease]

@[simp] theorem execDelegate_fuses (req : Request) (s : State) : (stateOf (execDelegate req s) s).fuses = s.fuses := by
  simp only [execDelegate]
  repeat' split
  all_goals simp

@[simp] theorem queryOne_fuses (p : Path) (s : State) : (queryOne p s).2.fuses = s.fuses := by
  unfold queryOne
  repeat' split
  all_goals simp

@[simp] theorem execOwnerQuery_fuses (req : Request) (s : State) :
    (stateOf (execOwnerQuery req s) s).fuses = s.fuses := by simp [execOwnerQuery]

@[simp] theorem reclaimOne_fuses (i : SeatId) (p : Path) (s : State) : (reclaimOne i p s).2.fuses = s.fuses := by simp [reclaimOne]

@[simp] theorem execReclaim_fuses (req : Request) (s : State) : (stateOf (execReclaim req s) s).fuses = s.fuses := by
  unfold execReclaim
  repeat' split
  all_goals simp

@[simp] theorem execNop_fuses (req : Request) (s : State) : (stateOf (execNop req s) s).fuses = s.fuses := by
  rw [execNop, stateOf_next]
  apply serve_fuses
  intro s
  dsimp only
  split <;> simp

@[simp] theorem serveOwn_fuses (req : Request) (needOwner : Bool) (s : State) (act : State → State) (h : KeepsFuses act) :
    (stateOf (serveOwn req needOwner s act) s).fuses = s.fuses := by
  rw [serveOwn, stateOf_next]
  refine serve_fuses _ _ _ fun s => ?_
  split
  · simp
  · exact h s

@[simp] theorem execSlateWrite_fuses (req : Request) (s : State) : (stateOf (execSlateWrite req s) s).fuses = s.fuses := by
  simp only [execSlateWrite]
  repeat' split
  all_goals simp

@[simp] theorem execSlateRead_fuses (req : Request) (s : State) :
    (stateOf (execSlateRead req s) s).fuses = s.fuses := by simp [execSlateRead]

@[simp] theorem execSlateClear_fuses (req : Request) (s : State) :
    (stateOf (execSlateClear req s) s).fuses = s.fuses := by simp [execSlateClear]

@[simp] theorem execParamRead_fuses (req : Request) (s : State) : (stateOf (execParamRead req s) s).fuses = s.fuses := by
  unfold execParamRead
  apply serveOwn_fuses
  intro s
  dsimp only
  repeat' split
  all_goals simp

@[simp] theorem execMute_fuses (req : Request) (s : State) : (stateOf (execMute req s) s).fuses = s.fuses := by
  simp only [execMute]
  split <;> simp

@[simp] theorem execEventAck_fuses (req : Request) (s : State) : (stateOf (execEventAck req s) s).fuses = s.fuses := by simp [execEventAck]

/-! ### `Machine/Commit.lean` -/

@[simp] theorem negotiate_fuses (req : Request) (apply : Bool) (recs : NMap Int) (s : State) :
    (negotiate req apply recs s).fuses = s.fuses := by
  unfold negotiate
  split <;> simp

@[simp] theorem launch_fuses (req : Request) (targets : List Path) (all ch : SlateSet) (e : Evaluation) (s : State) :
    (launch req targets all ch e s).fuses = s.fuses := by simp [launch]

@[simp] theorem judgeSlates_fuses (apply refused : Bool) (quoted : Nat) (listed : List Path) (req : Request) (s : State) :
    (judgeSlates apply refused quoted listed req s).fuses = s.fuses := by
  simp only [judgeSlates]
  repeat' split
  all_goals simp

@[simp] theorem judgeCommit_fuses (apply refused : Bool) (req : Request) (s : State) :
    (judgeCommit apply refused req s).fuses = s.fuses := by
  simp only [judgeCommit]
  repeat' split
  all_goals simp

@[simp] theorem execCommitCheck_fuses (req : Request) (s : State) :
    (stateOf (execCommitCheck req s) s).fuses = s.fuses := by simp [execCommitCheck]

@[simp] theorem execCommitApply_fuses (req : Request) (s : State) :
    (stateOf (execCommitApply req s) s).fuses = s.fuses := by simp [execCommitApply]

@[simp] theorem endNegotiation_fuses (refused : Bool) (s : State) : (endNegotiation refused s).fuses = s.fuses := by
  refine overAll_fuses _ _ (fun w s => ?_) _
  cases w <;> simp

@[simp] theorem rejectNegotiation_fuses (result : Nat) (s : State) :
    (rejectNegotiation result s).fuses = s.fuses := by simp [rejectNegotiation]

/-! ### `Machine/Transmit.lean` -/

@[simp] theorem execTxSuperframe_fuses (s : State) : (stateOf (execTxSuperframe s) s).fuses = s.fuses := by simp [execTxSuperframe]
@[simp] theorem startCounting_fuses (s : State) : (startCounting s).fuses = s.fuses := by simp [startCounting]
@[simp] theorem restartCount_fuses (s : State) : (restartCount s).fuses = s.fuses := rfl
@[simp] theorem takeReceived_fuses (v : RateValues) (s : State) : (takeReceived v s).fuses = s.fuses := by simp [takeReceived]

@[simp] theorem landReceived_fuses (s : State) : (landReceived s).fuses = s.fuses := by
  unfold landReceived
  split <;> simp

@[simp] theorem enterRx_fuses (n : Nat) (s : State) : (enterRx n s).fuses = s.fuses := by simp [enterRx]

@[simp] theorem advanceRxTo_fuses (fuel target : Nat) (s : State) : (advanceRxTo fuel target s).fuses = s.fuses := by
  induction fuel generalizing s with
  | zero => simp [advanceRxTo]
  | succ fuel ih =>
    unfold advanceRxTo
    split <;> simp [ih]

@[simp] theorem advanceRx_fuses (target : Nat) (s : State) : (advanceRx target s).fuses = s.fuses := by simp [advanceRx]
@[simp] theorem missingHeader_fuses (s : State) : (missingHeader s).fuses = s.fuses := by simp [missingHeader]
@[simp] theorem validHeader_fuses (a : WordA) (b : WordB) (s : State) : (validHeader a b s).fuses = s.fuses := by simp [validHeader]

@[simp] theorem execSuperframeHeader_fuses (found : Bool) (wordA wordB : Option Nat) (s : State) :
    (stateOf (execSuperframeHeader found wordA wordB s) s).fuses = s.fuses := by
  unfold execSuperframeHeader
  repeat' split
  all_goals simp

@[simp] theorem execRxFormatChange_fuses (s : State) : (stateOf (execRxFormatChange s) s).fuses = s.fuses := by
  unfold execRxFormatChange
  split <;> simp

@[simp] theorem execCommitBoundary_fuses (path : Path) (dir : Dir) (s : State) :
    (stateOf (execCommitBoundary path dir s) s).fuses = s.fuses := by
  simp only [execCommitBoundary]
  split <;> simp

@[simp] theorem execRateAnnounce_fuses (s : State) : (stateOf (execRateAnnounce s) s).fuses = s.fuses := by
  unfold execRateAnnounce
  split <;> simp

@[simp] theorem execRateChange_fuses (s : State) : (stateOf (execRateChange s) s).fuses = s.fuses := by
  unfold execRateChange
  split <;> simp

@[simp] theorem execKeyChangeover_fuses (channel : Fin 64) (s : State) : (stateOf (execKeyChangeover channel s) s).fuses = s.fuses := by
  unfold execKeyChangeover
  split <;> simp

@[simp] theorem execLodSlot_fuses (s : State) : (stateOf (execLodSlot s) s).fuses = s.fuses := by simp [execLodSlot]

@[simp] theorem execRateAnswerRx_fuses (s : State) : (stateOf (execRateAnswerRx s) s).fuses = s.fuses := by
  unfold execRateAnswerRx
  split
  · rfl
  · split
    · rfl
    · rename_i h
      rw [stateOf_ite]
      split
      · simp [takeMessage_fuses h]
      · split <;> simp [takeMessage_fuses h]

@[simp] theorem execNegotiateTimeout_fuses (s : State) : (stateOf (execNegotiateTimeout s) s).fuses = s.fuses := by
  unfold execNegotiateTimeout
  split <;> simp

@[simp] theorem execRateHoldExpire_fuses (s : State) : (stateOf (execRateHoldExpire s) s).fuses = s.fuses := by
  unfold execRateHoldExpire
  split <;> simp

@[simp] theorem execRateProposeRx_fuses (s : State) : (stateOf (execRateProposeRx s) s).fuses = s.fuses := by
  unfold execRateProposeRx
  split
  · rfl
  · split
    · rfl
    · rename_i h
      simp [takeMessage_fuses h]

@[simp] theorem execRateAbort_fuses (req : Request) (s : State) :
    (stateOf (execRateAbort req s) s).fuses = s.fuses := by simp [execRateAbort]

@[simp] theorem execDpdCoefLoad_fuses (req : Request) (s : State) : (stateOf (execDpdCoefLoad req s) s).fuses = s.fuses := by
  simp only [execDpdCoefLoad]
  repeat' split
  all_goals simp

@[simp] theorem execDpdCoefRead_fuses (req : Request) (s : State) :
    (stateOf (execDpdCoefRead req s) s).fuses = s.fuses := by simp [execDpdCoefRead]

@[simp] theorem execDpdRampDone_fuses (s : State) : (stateOf (execDpdRampDone s) s).fuses = s.fuses := rfl

@[simp] theorem execDpdClipCountRead_fuses (seat : SeatId) (s : State) :
    (stateOf (execDpdClipCountRead seat s) s).fuses = s.fuses := by simp [execDpdClipCountRead]

@[simp] theorem execOutputClipCheck_fuses (clipped total : Nat) (s : State) :
    (stateOf (execOutputClipCheck clipped total s) s).fuses = s.fuses := by simp [execOutputClipCheck]

@[simp] theorem followResize_fuses (c : Fin 64) (units : Nat) (valid : Bool) (s : State) :
    (followResize c units valid s).fuses = s.fuses := by simp [followResize]

@[simp] theorem execOduflexResizeStep_fuses (step : ResizeStep) (s : State) :
    (stateOf (execOduflexResizeStep step s) s).fuses = s.fuses := by
  unfold execOduflexResizeStep
  split <;> simp

@[simp] theorem execResizeTimeout_fuses (s : State) : (stateOf (execResizeTimeout s) s).fuses = s.fuses := by
  unfold execResizeTimeout
  split <;> simp

@[simp] theorem execFlexeCalAck_fuses (group : Fin 4) (s : State) : (stateOf (execFlexeCalAck group s) s).fuses = s.fuses := by
  unfold execFlexeCalAck
  split <;> simp

@[simp] theorem execFlexeCalTimeout_fuses (s : State) : (stateOf (execFlexeCalTimeout s) s).fuses = s.fuses := by
  unfold execFlexeCalTimeout
  split <;> simp

@[simp] theorem execKeyActivate_fuses (req : Request) (s : State) :
    (stateOf (execKeyActivate req s) s).fuses = s.fuses := by simp [execKeyActivate]

/-! ### `Machine/Resets.lean` -/

@[simp] theorem resetTxdUnit_fuses (unit : Nat) (s : State) : (resetTxdUnit unit s).fuses = s.fuses := by
  unfold resetTxdUnit
  split <;> simp

@[simp] theorem resetTarget_fuses (p : Path) (checkOk : Bool) (s : State) : (resetTarget p checkOk s).fuses = s.fuses := by
  unfold resetTarget
  split <;> simp

@[simp] theorem resetSectionOf_fuses (sec : Nat) (checkOk : Bool) (s : State) : (resetSectionOf sec checkOk s).fuses = s.fuses := by
  unfold resetSectionOf
  split <;> simp

@[simp] theorem resetCancelsRate_fuses (ps : List Path) (s : State) : (resetCancelsRate ps s).fuses = s.fuses := by simp [resetCancelsRate]
@[simp] theorem resetMeets_fuses (ps : List Path) (s : State) : (resetMeets ps s).fuses = s.fuses := by simp [resetMeets]
@[simp] theorem muteFormer_fuses (ps : List Path) (s : State) : (muteFormer ps s).fuses = s.fuses := by simp [muteFormer]
@[simp] theorem fillMemories_fuses (ps : List Path) (s : State) : (fillMemories ps s).fuses = s.fuses := rfl

@[simp] theorem resetTargets_fuses (ps : List Path) (keep : Nat → Bool) (hook : State → State) (s : State) (h : KeepsFuses hook) :
    (resetTargets ps keep hook s).fuses = s.fuses := by
  rw [keepsFuses_iff] at h
  simp [resetTargets, h]

@[simp] theorem startReset_fuses (req : Request) (ps : List Path) (keep : Nat → Bool) (hook : State → State) (s : State)
    (h : KeepsFuses hook) :
    (startReset req ps keep hook s).fuses = s.fuses := by
  rw [keepsFuses_iff] at h
  simp [startReset, h]

@[simp] theorem execUnitReset_fuses (req : Request) (checkOk : Bool) (s : State) :
    (stateOf (execUnitReset req checkOk s) s).fuses = s.fuses := by simp [execUnitReset]

@[simp] theorem execSectionReset_fuses (req : Request) (checkOk : Bool) (s : State) :
    (stateOf (execSectionReset req checkOk s) s).fuses = s.fuses := by
  rw [execSectionReset, stateOf_next]
  apply serve_fuses
  intro s
  dsimp only
  repeat' split
  all_goals simp

@[simp] theorem answerReset_fuses (ps : List Path) (s : State) : (answerReset ps s).fuses = s.fuses := by
  unfold answerReset
  split <;> simp

@[simp] theorem execResetRelease_fuses (path : Path) (s : State) : (stateOf (execResetRelease path s) s).fuses = s.fuses := by
  unfold execResetRelease
  split <;> simp

@[simp] theorem controlRestart_fuses (s : State) : (controlRestart s).fuses = s.fuses := by simp [controlRestart]

@[simp] theorem execControlRestart_fuses (req : Request) (s : State) :
    (stateOf (execControlRestart req s) s).fuses = s.fuses := by simp [execControlRestart]

@[simp] theorem execFwWatchdog_fuses (core : Fin 4) (expires : Bool) (s : State) :
    (stateOf (execFwWatchdog core expires s) s).fuses = s.fuses := by simp [execFwWatchdog]

@[simp] theorem execFwFetchUncorrectable_fuses (word : Nat) (poisoned : Bool) (s : State) :
    (stateOf (execFwFetchUncorrectable word poisoned s) s).fuses = s.fuses := by simp [execFwFetchUncorrectable]

@[simp] theorem execControlRestartDone_fuses (s : State) :
    (stateOf (execControlRestartDone s) s).fuses = s.fuses := by simp [execControlRestartDone]

/-! ### `Machine/Power.lean` -/

@[simp] theorem coldReset_fuses (cause : Nat) (s : State) : (coldReset cause s).fuses = s.fuses := rfl
@[simp] theorem railsOff_fuses (s : State) : (railsOff s).fuses = s.fuses := rfl
@[simp] theorem shutDown_fuses (cause : Nat) (s : State) : (shutDown cause s).fuses = s.fuses := rfl

@[simp] theorem execDeviceReset_fuses (req : Request) (s : State) : (stateOf (execDeviceReset req s) s).fuses = s.fuses := by
  rw [execDeviceReset, stateOf_next]
  apply serve_fuses
  intro s
  dsimp only
  split <;> simp

@[simp] theorem execVinRise_fuses (lost : Bool) (s : State) : (stateOf (execVinRise lost s) s).fuses = s.fuses := by simp [execVinRise]
@[simp] theorem execVinLow_fuses (s : State) : (stateOf (execVinLow s) s).fuses = s.fuses := by simp [execVinLow]
@[simp] theorem execVinLowClear_fuses (s : State) : (stateOf (execVinLowClear s) s).fuses = s.fuses := rfl
@[simp] theorem execBrownOut_fuses (s : State) : (stateOf (execBrownOut s) s).fuses = s.fuses := rfl
@[simp] theorem execPorstAssert_fuses (s : State) : (stateOf (execPorstAssert s) s).fuses = s.fuses := rfl

@[simp] theorem execStartupReference_fuses (straps : BitVec 8) (aonTemp : Int) (s : State) :
    (stateOf (execStartupReference straps aonTemp s) s).fuses = s.fuses := by simp [execStartupReference]

@[simp] theorem execRailsInRegulation_fuses (s : State) :
    (stateOf (execRailsInRegulation s) s).fuses = s.fuses := by simp [execRailsInRegulation]

@[simp] theorem execPhaseFailed_fuses (rail : Fin 7) (s : State) :
    (stateOf (execPhaseFailed rail s) s).fuses = s.fuses := by simp [execPhaseFailed]

@[simp] theorem execRailFault_fuses (rail : Fin 7) (s : State) :
    (stateOf (execRailFault rail s) s).fuses = s.fuses := by simp [execRailFault]

@[simp] theorem execAvsUpdate_fuses (s : State) : (stateOf (execAvsUpdate s) s).fuses = s.fuses := by simp [execAvsUpdate]

@[simp] theorem execIinMeasure_fuses (vinMv iin10mA : Nat) (s : State) :
    (stateOf (execIinMeasure vinMv iin10mA s) s).fuses = s.fuses := by simp [execIinMeasure]

@[simp] theorem execRegIinPeakRead_fuses (seat : SeatId) (s : State) :
    (stateOf (execRegIinPeakRead seat s) s).fuses = s.fuses := by simp [execRegIinPeakRead]

@[simp] theorem atStep_fuses (step : Nat) (s : State) (act : State → State) (h : KeepsFuses act) :
    (stateOf (atStep step s act) s).fuses = s.fuses := by
  rw [keepsFuses_iff] at h
  simp [atStep, h]

@[simp] theorem retireAtStart_fuses (banks : List Nat) (s : State) : (retireAtStart banks s).fuses = s.fuses := by simp [retireAtStart]

@[simp] theorem execMemorySelftestFill_fuses (singles : List (Fin 6 × Nat)) (banks : List (Fin 64)) (failed : Bool) (s : State) :
    (stateOf (execMemorySelftestFill singles banks failed s) s).fuses = s.fuses := by simp [execMemorySelftestFill]

@[simp] theorem execSeqBootGo_fuses (seat : SeatId) (value : Word) (s : State) :
    (stateOf (execSeqBootGo seat value s) s).fuses = s.fuses := by simp [execSeqBootGo]

@[simp] theorem execSeatsReady_fuses (s : State) : (stateOf (execSeatsReady s) s).fuses = s.fuses := by simp [execSeatsReady]

@[simp] theorem execInitCalDone_fuses (adcs dacs : List InitCalItem) (s : State) :
    (stateOf (execInitCalDone adcs dacs s) s).fuses = s.fuses := by simp [execInitCalDone]

@[simp] theorem execStartupFault_fuses (cause : Fin 7) (s : State) :
    (stateOf (execStartupFault cause s) s).fuses = s.fuses := by simp [execStartupFault]

@[simp] theorem execPwrTolerance_fuses (req : Request) (s : State) :
    (stateOf (execPwrTolerance req s) s).fuses = s.fuses := by simp [execPwrTolerance]

@[simp] theorem execPwrQuery_fuses (req : Request) (s : State) : (stateOf (execPwrQuery req s) s).fuses = s.fuses := by simp [execPwrQuery]
@[simp] theorem State.onTraffic_fuses (s : State) (g : Fin 4) (f : Group → Group) : (State.onTraffic s g f).fuses = s.fuses := rfl

@[simp] theorem execDeepenHoldExpire_fuses (group : Fin 4) (s : State) : (stateOf (execDeepenHoldExpire group s) s).fuses = s.fuses := by
  simp only [execDeepenHoldExpire]
  split <;> simp

@[simp] theorem execPowerStateEntered_fuses (group : Fin 4) (s : State) : (stateOf (execPowerStateEntered group s) s).fuses = s.fuses := by
  unfold execPowerStateEntered
  split <;> simp

@[simp] theorem execPowerStateExited_fuses (group : Fin 4) (us : Nat) (s : State) :
    (stateOf (execPowerStateExited group us s) s).fuses = s.fuses := by
  simp only [execPowerStateExited]
  repeat' split
  all_goals simp

@[simp] theorem execThermalRead_fuses (readings : Vector Int 8) (s : State) :
    (stateOf (execThermalRead readings s) s).fuses = s.fuses := by simp [execThermalRead]

@[simp] theorem execThmMaxSeenRead_fuses (seat : SeatId) (s : State) :
    (stateOf (execThmMaxSeenRead seat s) s).fuses = s.fuses := by simp [execThmMaxSeenRead]

@[simp] theorem restartCore_fuses (s : State) : (restartCore s).fuses = s.fuses := by simp [restartCore]
@[simp] theorem restartHcore_fuses (s : State) : (restartHcore s).fuses = s.fuses := by simp [restartHcore]
@[simp] theorem restartTime_fuses (s : State) : (restartTime s).fuses = s.fuses := by simp [restartTime]

@[simp] theorem execClkResume_fuses (req : Request) (s : State) :
    (stateOf (execClkResume req s) s).fuses = s.fuses := by simp [execClkResume]

/-! ### `Machine/Performance.lean` -/

@[simp] theorem putMeasure_fuses (i : Fin 9) (v : Int) (s : State) : (putMeasure i v s).fuses = s.fuses := rfl
@[simp] theorem takeEstimate_fuses (e : Estimates) (s : State) : (takeEstimate e s).fuses = s.fuses := by simp [takeEstimate]

@[simp] theorem execMeasureSample_fuses (e : Estimates) (s : State) : (stateOf (execMeasureSample e s) s).fuses = s.fuses := by
  simp only [execMeasureSample]
  repeat' split
  all_goals simp

@[simp] theorem openSlot_fuses (kind : Nat) (s : State) : (openSlot kind s).fuses = s.fuses := by simp [openSlot]

@[simp] theorem storeRecord_fuses (c : PmContent) (bad : List (Nat × Nat)) (s : State) :
    (storeRecord c bad s).fuses = s.fuses := by simp [storeRecord]

@[simp] theorem latchOnDemand_fuses (rs : List Request) (s : State) : (latchOnDemand rs s).fuses = s.fuses := by simp [latchOnDemand]

@[simp] theorem endDrain_fuses (bad : List (Nat × Nat)) (ns : Nat) (s : State) : (endDrain bad ns s).fuses = s.fuses := by
  unfold endDrain
  split <;> simp

@[simp] theorem execPmDrainDone_fuses (bad : List PmError) (ns : Nat) (s : State) :
    (stateOf (execPmDrainDone bad ns s) s).fuses = s.fuses := by simp [execPmDrainDone]

@[simp] theorem judgeCeRate_fuses (s : State) : (judgeCeRate s).fuses = s.fuses := by simp [judgeCeRate]

@[simp] theorem execPmIntervalTick_fuses (s : State) : (stateOf (execPmIntervalTick s) s).fuses = s.fuses := by
  unfold execPmIntervalTick
  split
  · rfl
  · rw [stateOf_next, judgeCeRate_fuses, hstInterval_fuses, secInterval_fuses, frmInterval_fuses, codInterval_fuses,
      overAll_fuses _ _ fun r s => respond_fuses _ _ s, foldl_fuses _ _ fun x s => openSlot_fuses _ s, openSlot_fuses]
    exact (settleReplaced_fuses _).trans ((endDrain_fuses _ _ _).trans (endDrain_fuses _ _ _))

@[simp] theorem execPmSnapshot_fuses (req : Request) (s : State) : (stateOf (execPmSnapshot req s) s).fuses = s.fuses := by
  rw [execPmSnapshot, stateOf_next]
  apply serveTarget_fuses
  intro s
  dsimp only
  repeat' split
  all_goals simp

@[simp] theorem execPmLocate_fuses (req : Request) (s : State) : (stateOf (execPmLocate req s) s).fuses = s.fuses := by
  rw [execPmLocate, stateOf_next]
  apply serveTarget_fuses
  intro s
  dsimp only
  repeat' split
  all_goals simp

/-! ### `Machine/Domain.lean` -/

@[simp] theorem sendNak_fuses (p : TvlId) (reason : Nat) (f : TvlFrame) (s : State) :
    (sendNak p reason f s).fuses = s.fuses := by simp [sendNak]

@[simp] theorem countBad_fuses (p : TvlId) (s : State) : (countBad p s).fuses = s.fuses := by simp [countBad]

@[simp] theorem countFault_fuses (p : TvlId) (x : TvlFault) (f : TvlFrame) (s : State) : (countFault p x f s).fuses = s.fuses := by
  unfold countFault
  split <;> simp

@[simp] theorem noteFrame_fuses (f : TvlFrame) (s : State) : (noteFrame f s).fuses = s.fuses := rfl
@[simp] theorem relayFrame_fuses (p : TvlId) (f : TvlFrame) (s : State) : (relayFrame p f s).fuses = s.fuses := by simp [relayFrame]
@[simp] theorem acceptFrame_fuses (p : TvlId) (f : TvlFrame) (s : State) : (acceptFrame p f s).fuses = s.fuses := by simp [acceptFrame]
@[simp] theorem judgeDuplicate_fuses (f : TvlFrame) (s : State) : (judgeDuplicate f s).fuses = s.fuses := by simp [judgeDuplicate]

@[simp] theorem receiveFrame_fuses (p : TvlId) (f : TvlFrame) (type : Nat) (s : State) (act : State → State) (h : KeepsFuses act) :
    (receiveFrame p f type s act).fuses = s.fuses := by
  have h := (keepsFuses_iff act).1 h
  unfold receiveFrame
  split
  · rfl
  · split
    · simp
    · split
      · simp
      · split
        · rfl
        · dsimp only
          split <;> simp [h]

@[simp] theorem sendHello_fuses (p : TvlId) (s : State) : (sendHello p s).fuses = s.fuses := by simp [sendHello]
@[simp] theorem execHelloSend_fuses (s : State) : (stateOf (execHelloSend s) s).fuses = s.fuses := by simp [execHelloSend]

@[simp] theorem meetNeighbour_fuses (p : TvlId) (f : TvlFrame) (s : State) :
    (meetNeighbour p f s).fuses = s.fuses := by simp [meetNeighbour]

@[simp] theorem hearHello_fuses (p : TvlId) (f : TvlFrame) (s : State) : (hearHello p f s).fuses = s.fuses := by simp [hearHello]

@[simp] theorem execHelloRx_fuses (port : Fin 2) (bytes : List Byte) (s : State) :
    (stateOf (execHelloRx port bytes s) s).fuses = s.fuses := by simp [execHelloRx]

@[simp] theorem execNeighbourLost_fuses (port : Fin 2) (id : Nat) (s : State) :
    (stateOf (execNeighbourLost port id s) s).fuses = s.fuses := by
  unfold execNeighbourLost
  split <;> simp

@[simp] theorem execReachLost_fuses (id : Nat) (s : State) : (stateOf (execReachLost id s) s).fuses = s.fuses := by
  unfold execReachLost
  split <;> simp

@[simp] theorem execTvlPortLink_fuses (port : Fin 2) (up : Bool) (s : State) :
    (stateOf (execTvlPortLink port up s) s).fuses = s.fuses := by simp [execTvlPortLink]

@[simp] theorem hearRoster_fuses (f : TvlFrame) (s : State) : (hearRoster f s).fuses = s.fuses := by simp [hearRoster]

@[simp] theorem execRosterRx_fuses (port : Fin 2) (bytes : List Byte) (s : State) :
    (stateOf (execRosterRx port bytes s) s).fuses = s.fuses := by simp [execRosterRx]

@[simp] theorem execRosterTimeout_fuses (id : Nat) (s : State) : (stateOf (execRosterTimeout id s) s).fuses = s.fuses := by
  unfold execRosterTimeout
  split <;> simp

@[simp] theorem execDomRosterAdopt_fuses (req : Request) (s : State) :
    (stateOf (execDomRosterAdopt req s) s).fuses = s.fuses := by simp [execDomRosterAdopt]

@[simp] theorem execDomMemberQuery_fuses (req : Request) (s : State) :
    (stateOf (execDomMemberQuery req s) s).fuses = s.fuses := by simp [execDomMemberQuery]

@[simp] theorem execNakRx_fuses (port : Fin 2) (bytes : List Byte) (s : State) :
    (stateOf (execNakRx port bytes s) s).fuses = s.fuses := by simp [execNakRx]

@[simp] theorem execHostFrameRx_fuses (port : Fin 2) (bytes : List Byte) (s : State) :
    (stateOf (execHostFrameRx port bytes s) s).fuses = s.fuses := by simp [execHostFrameRx]

@[simp] theorem execDomHostTx_fuses (s : State) : (stateOf (execDomHostTx s) s).fuses = s.fuses := by
  rw [execDomHostTx, stateOf_next]
  split
  · rfl
  · split <;> rename_i h
    · exact hwPop_eq_fuses h
    · split <;> simp [hwPop_eq_fuses h]

@[simp] theorem execDomPolicySend_fuses (req : Request) (s : State) :
    (stateOf (execDomPolicySend req s) s).fuses = s.fuses := by simp [execDomPolicySend]

theorem snd_snd_ite_fuses {c : Prop} [Decidable c] {a b : Nat × Nat × State} {s : State} (ha : a.2.2.fuses = s.fuses)
    (hb : b.2.2.fuses = s.fuses) : (if c then a else b).2.2.fuses = s.fuses := by
  split
  · exact ha
  · exact hb

theorem snd_snd_dite_fuses {c : Prop} [Decidable c] {a : c → Nat × Nat × State} {b : ¬c → Nat × Nat × State} {s : State}
    (ha : ∀ h, (a h).2.2.fuses = s.fuses) (hb : ∀ h, (b h).2.2.fuses = s.fuses) : (dite c a b).2.2.fuses = s.fuses := by
  split
  · exact ha _
  · exact hb _

@[simp] theorem applyPolicy_fuses (payload : List Byte) (s : State) : (applyPolicy payload s).2.2.fuses = s.fuses := by
  unfold applyPolicy
  extract_lets w p n rs seat recs all base ch e id
  refine snd_snd_ite_fuses rfl (snd_snd_dite_fuses (fun _ => rfl) fun h => ?_)
  extract_lets i
  refine snd_snd_ite_fuses rfl (snd_snd_ite_fuses rfl (snd_snd_ite_fuses rfl (snd_snd_ite_fuses rfl
    (snd_snd_ite_fuses rfl (snd_snd_ite_fuses rfl ?_)))))
  cases firstUnowned s i [p] ch.recs with
  | some _ => rfl
  | none =>
    refine snd_snd_ite_fuses rfl ?_
    cases commitRefusal all.recs ch.recs base with
    | some _ => rfl
    | none => exact snd_snd_ite_fuses rfl ((State.onCommit_fuses _ _ _).trans (launch_fuses _ _ _ _ _ _))

@[simp] theorem hearPolicy_fuses (f : TvlFrame) (s : State) : (hearPolicy f s).fuses = s.fuses := by simp [hearPolicy]

@[simp] theorem execPolicyRx_fuses (port : Fin 2) (bytes : List Byte) (s : State) :
    (stateOf (execPolicyRx port bytes s) s).fuses = s.fuses := by simp [execPolicyRx]

@[simp] theorem hearPolicyAck_fuses (f : TvlFrame) (s : State) : (hearPolicyAck f s).fuses = s.fuses := by
  unfold hearPolicyAck
  split <;> simp

@[simp] theorem execPolicyAckRx_fuses (port : Fin 2) (bytes : List Byte) (s : State) :
    (stateOf (execPolicyAckRx port bytes s) s).fuses = s.fuses := by simp [execPolicyAckRx]

@[simp] theorem execDomainTimeout_fuses (policy : Nat) (s : State) : (stateOf (execDomainTimeout policy s) s).fuses = s.fuses := by
  unfold execDomainTimeout
  split <;> simp

@[simp] theorem followHealth_fuses (s : State) : (followHealth s).fuses = s.fuses := by simp [followHealth]
@[simp] theorem execFlintFrameTx_fuses (s : State) : (stateOf (execFlintFrameTx s) s).fuses = s.fuses := by simp [execFlintFrameTx]

@[simp] theorem execFlintFrameRx_fuses (word : BitVec 16) (check : Byte) (s : State) :
    (stateOf (execFlintFrameRx word check s) s).fuses = s.fuses := by simp [execFlintFrameRx]

@[simp] theorem execFlintHealthChange_fuses (s : State) :
    (stateOf (execFlintHealthChange s) s).fuses = s.fuses := by simp [execFlintHealthChange]

@[simp] theorem execFlintLinkLoss_fuses (s : State) : (stateOf (execFlintLinkLoss s) s).fuses = s.fuses := by simp [execFlintLinkLoss]

@[simp] theorem execFlintWtrExpire_fuses (s : State) : (stateOf (execFlintWtrExpire s) s).fuses = s.fuses := by
  unfold execFlintWtrExpire
  split <;> simp

@[simp] theorem setFlintRequest_fuses (force : Nat) (lockout : Bool) (s : State) :
    (setFlintRequest force lockout s).fuses = s.fuses := by simp [setFlintRequest]

@[simp] theorem execFlintForce_fuses (req : Request) (s : State) :
    (stateOf (execFlintForce req s) s).fuses = s.fuses := by simp [execFlintForce]

@[simp] theorem execFlintLockout_fuses (req : Request) (s : State) :
    (stateOf (execFlintLockout req s) s).fuses = s.fuses := by simp [execFlintLockout]

@[simp] theorem execNpStatusTx_fuses (s : State) : (stateOf (execNpStatusTx s) s).fuses = s.fuses := by simp [execNpStatusTx]
@[simp] theorem execNpSelectTx_fuses (s : State) : (stateOf (execNpSelectTx s) s).fuses = s.fuses := by simp [execNpSelectTx]

@[simp] theorem execNpStatusRx_fuses (port : Fin 2) (bytes : List Byte) (s : State) :
    (stateOf (execNpStatusRx port bytes s) s).fuses = s.fuses := by simp [execNpStatusRx]

@[simp] theorem execNpSelectRx_fuses (port : Fin 2) (bytes : List Byte) (s : State) :
    (stateOf (execNpSelectRx port bytes s) s).fuses = s.fuses := by simp [execNpSelectRx]

@[simp] theorem execNpSelectTimeout_fuses (s : State) : (stateOf (execNpSelectTimeout s) s).fuses = s.fuses := by simp [execNpSelectTimeout]

@[simp] theorem execNpWtrExpire_fuses (s : State) : (stateOf (execNpWtrExpire s) s).fuses = s.fuses := by
  unfold execNpWtrExpire
  split <;> simp

@[simp] theorem execNpForce_fuses (req : Request) (s : State) : (stateOf (execNpForce req s) s).fuses = s.fuses := by simp [execNpForce]

/-! ### `Machine/Access.lean` -/

@[simp] theorem execPmcReadStatusRead_fuses (seat : SeatId) (s : State) :
    (stateOf (execPmcReadStatusRead seat s) s).fuses = s.fuses := by simp [execPmcReadStatusRead]

@[simp] theorem whenAllOpen_fuses (seat : SeatId) (offs : List Nat) (write : Bool) (command : Instr) (s : State) (act : Result)
    (h : (stateOf act s).fuses = s.fuses) :
    (stateOf (whenAllOpen seat offs write command s act) s).fuses = s.fuses := by
  unfold whenAllOpen
  split <;> simp [h]

@[simp] theorem writeField_fuses (sec unit off v : Nat) (s : State) : (writeField sec unit off v s).fuses = s.fuses := by
  unfold writeField
  repeat' split
  all_goals simp

@[simp] theorem writeMsix_fuses (i : SeatId) (off v : Nat) (s : State) : (writeMsix i off v s).fuses = s.fuses := by simp [writeMsix]

@[simp] theorem writeRegister_fuses (seat : SeatId) (off v : Nat) (s : State) :
    (writeRegister seat off v s).fuses = s.fuses := by simp [writeRegister]

@[simp] theorem execDataPathReadError_fuses (read : DataRead) (word : Nat) (mask : Nat) (s : State) :
    (stateOf (execDataPathReadError read word mask s) s).fuses = s.fuses := by
  simp only [execDataPathReadError]
  repeat' split
  all_goals simp

@[simp] theorem execScrubRead_fuses (group : Fin 6) (mask : Nat) (s : State) :
    (stateOf (execScrubRead group mask s) s).fuses = s.fuses := by
  simp only [execScrubRead]
  repeat' split
  all_goals simp

@[simp] theorem execTapInstruction_fuses (code : Byte) (cells : List Bool) (s : State) :
    (stateOf (execTapInstruction code cells s) s).fuses = s.fuses := rfl

@[simp] theorem execTapTestLogicReset_fuses (s : State) : (stateOf (execTapTestLogicReset s) s).fuses = s.fuses := rfl

/-! ### `Machine/Bus.lean` -/

@[simp] theorem readRegister_fuses (seat : SeatId) (off : Nat) (s : State) : (readRegister seat off s).fuses = s.fuses := by
  unfold readRegister
  repeat' split
  all_goals simp

@[simp] theorem execLoRead_fuses (seat : SeatId) (offset : Fin 1048576) (s : State) :
    (stateOf (execLoRead seat offset s) s).fuses = s.fuses := by
  unfold execLoRead
  apply whenAllOpen_fuses
  repeat' split
  all_goals simp

@[simp] theorem execHiRead_fuses (seat : SeatId) (offset : Fin 1048576) (s : State) :
    (stateOf (execHiRead seat offset s) s).fuses = s.fuses := by
  unfold execHiRead
  apply whenAllOpen_fuses
  repeat' split
  all_goals simp

@[simp] theorem execPaired64Read_fuses (seat : SeatId) (offset : Fin 1048576) (s : State) :
    (stateOf (execPaired64Read seat offset s) s).fuses = s.fuses := by
  unfold execPaired64Read
  apply whenAllOpen_fuses
  repeat' split
  all_goals simp

@[simp] theorem readAddress_fuses (seat : SeatId) (addr : Nat) (s : State) :
    (readAddress seat addr s).fuses = s.fuses := by simp [readAddress]

@[simp] theorem captureRead_fuses (seat : SeatId) (a n : Nat) (s : State) :
    (captureRead seat a n s).fuses = s.fuses := by simp [captureRead]

/-- Every command that a register write stands for keeps what is fused. -/
theorem writeCommand_fuses (seat : SeatId) (off : Nat) (v : Word) :
    ∀ act ∈ writeCommand seat off v, ∀ s, (stateOf (act s) s).fuses = s.fuses := by
  unfold writeCommand
  repeat' split
  all_goals simp

@[simp] theorem writeWord_fuses (seat : SeatId) (off : Nat) (v : Word) (s : State) : (writeWord seat off v s).fuses = s.fuses := by
  unfold writeWord
  split
  · rename_i act h
    exact writeCommand_fuses seat off v act h s
  · simp

@[simp] theorem writeAddress_fuses (seat : SeatId) (addr : Nat) (v : Word) (s : State) :
    (writeAddress seat addr v s).fuses = s.fuses := by simp [writeAddress]

@[simp] theorem writeWords_fuses (seat : SeatId) (addr : Nat) (ws : List (List Byte)) (s : State) :
    (writeWords seat addr ws s).fuses = s.fuses := by
  induction ws generalizing addr s with
  | nil => rfl
  | cons w ws ih => simp [writeWords, ih]

@[simp] theorem readWords_fuses (seat : SeatId) (n addr : Nat) (s : State) : (readWords seat n addr s).2.fuses = s.fuses := by
  induction n generalizing addr s with
  | zero => rfl
  | succ n ih => simp [readWords, ih]

@[simp] theorem sendWords_fuses (seat : SeatId) (n addr : Nat) (s : State) :
    (sendWords seat n addr s).fuses = s.fuses := by simp [sendWords]

@[simp] theorem spiFrame_fuses (seat : SeatId) (bs : List Byte) (s : State) : (spiFrame seat bs s).fuses = s.fuses := by
  unfold spiFrame
  split <;> simp

@[simp] theorem i2cTransfer_fuses (seat : SeatId) (bs : List Byte) (reads : Nat) (s : State) :
    (i2cTransfer seat bs reads s).fuses = s.fuses := by simp [i2cTransfer]

@[simp] theorem execRegisterWrite_fuses (seat : SeatId) (write : WindowWrite) (s : State) :
    (stateOf (execRegisterWrite seat write s) s).fuses = s.fuses := by
  unfold execRegisterWrite
  split <;> simp

/-! ### `Machine/Tick.lean` -/

@[simp] theorem answerUndefined_fuses (s : State) : (answerUndefined s).fuses = s.fuses := by
  unfold answerUndefined
  split <;> simp

@[simp] theorem releaseHeld_fuses (s : State) : (releaseHeld s).fuses = s.fuses := rfl
@[simp] theorem tick_fuses (s : State) : (tick s).fuses = s.fuses := by simp [tick]

/-! ### The step -/

/-- From the fuses `f` to the fuses `g` the version floor does not fall, and what is fused in manufacture stays. -/
def FusesRise (f g : Fuses) : Prop :=
  f.floor ≤ g.floor ∧ g.deviceId = f.deviceId ∧ g.encEnabled = f.encEnabled ∧ g.speedCode = f.speedCode

theorem FusesRise.of_eq {f g : Fuses} (h : g = f) : FusesRise f g := by
  subst h
  exact ⟨Nat.le_refl _, rfl, rfl, rfl⟩

/-- The one command that writes the fuses: the floor becomes the greater of itself and the image's (R534). -/
theorem execFirmwareVerified_fusesRise (slot : Fin 2) (version floor build : Nat) (s : State) :
    FusesRise s.fuses (stateOf (execFirmwareVerified slot version floor build s) s).fuses := by
  unfold execFirmwareVerified atStep
  split
  · rw [stateOf_next]
    dsimp only
    split
    · exact .of_eq rfl
    · split
      · exact .of_eq (by simp)
      · exact ⟨Nat.le_max_left _ _, rfl, rfl, rfl⟩
  · exact .of_eq rfl

/-- Every other command keeps what is fused. -/
theorem exec_fuses (c : Instr) (s : State) (h : ∀ slot version floor build, c ≠ .firmwareVerified slot version floor build) :
    (stateOf (exec c s) s).fuses = s.fuses := by
  cases c
  case firmwareVerified => exact absurd rfl (h _ _ _ _)
  all_goals simp [exec]

theorem exec_fusesRise (c : Instr) (s : State) : FusesRise s.fuses (stateOf (exec c s) s).fuses := by
  by_cases h : ∃ slot version floor build, c = .firmwareVerified slot version floor build
  · obtain ⟨slot, version, floor, build, rfl⟩ := h
    exact execFirmwareVerified_fusesRise slot version floor build s
  · exact .of_eq (exec_fuses c s fun slot version floor build e => h ⟨slot, version, floor, build, e⟩)

theorem step_fusesRise {s t : State} (h : step s = .next t) : FusesRise s.fuses t.fuses := by
  unfold step at h
  split at h
  · cases h
    exact .of_eq (tick_fuses s)
  next c rest _ =>
    have hc := exec_fusesRise c { s with pending := rest }
    rwa [h] at hc

/-- Settles O56: a step takes a command of the queue or idles; `FIRMWARE_VERIFIED` raises the floor, and all else keeps the fuses. -/
theorem fusesAreKept : Obligations.FusesAreKept := by
  unfold Obligations.FusesAreKept
  exact fun _ _ h => step_fusesRise h

end Sys2Proof.Machine

/-!
PROOFS. Doorbells of seats that are not attached (R45).
-/
namespace Sys2Proof.Machine

/-- Outside a quarantine (R76), and while MGMT runs (R422), what a seat writes is carried out. -/
theorem seatWrite_of_taken (i : SeatId) (s : State) (act : State → State) (hm : s.clk.mgmtStopped = false)
    (hq : (s.seat i).quarantined = false) : seatWrite i s act = .next (act s) := by
  simp [seatWrite, hm, hq]

/-- Bits that go wrong in words of a group change the wrong bits alone. -/
theorem foldl_upset_frame (g : MemGroup) (wordOf : Nat → Nat) (us : List (Nat × Nat)) (s : State) :
    ∃ flips, us.foldl (fun s u => upset g (wordOf u.1) u.2 s) s = { s with mem.flips := flips } := by
  induction us generalizing s with
  | nil => exact ⟨s.mem.flips, rfl⟩
  | cons u us ih =>
    obtain ⟨flips, h⟩ := ih (upset g (wordOf u.1) u.2 s)
    exact ⟨flips, h⟩

/-- The doorbell of a seat that is not attached is a refused write: only the upsets come before it, and the dispatcher does not run. -/
theorem execDoorbell_of_detached (i : SeatId) (tail : BitVec 7) (us : List (Nat × Nat)) (s : State) (hm : s.clk.mgmtStopped = false)
    (hq : (s.seat i).quarantined = false) (ha : (s.seat i).attached = false) :
    execDoorbell i tail us s = .next (refuseWrite i (us.foldl (fun s u => upset 1 (ringWord i u.1) u.2 s) s)) := by
  unfold execDoorbell
  rw [seatWrite_of_taken i s _ hm hq]
  simp [ha]

/-- Settles O41: the command is the refusal alone, after upsets that reach only `mem.flips`. -/
theorem doorbellIgnored : Obligations.DoorbellIgnored := by
  unfold Obligations.DoorbellIgnored
  intro s i tail us hm hq ha
  refine ⟨_, execDoorbell_of_detached i tail us s hm hq ha, ?_⟩
  obtain ⟨flips, h⟩ := foldl_upset_frame 1 (ringWord i) us s
  refine ⟨?seat, ?others, ?frame, ?mem⟩
  case seat =>
    rw [h]
    exact State.onSeat_seat _ _ _
  case others =>
    intro j hj
    rw [h]
    exact State.onSeat_seat_other _ _ _ _ hj
  case frame => rw [h]; rfl
  case mem => rintro rfl; rfl

end Sys2Proof.Machine

/-!
PROOFS. Aligned 64-bit reads of a register pair (R342).
-/
namespace Sys2Proof.Machine

@[simp] theorem readReturns_seat (i : SeatId) (v : Nat) (s : State) : (readReturns i v s).seat i = { s.seat i with readData := v } :=
  State.onSeat_seat _ _ _

theorem readReturns_seat_other (i j : SeatId) (v : Nat) (s : State) (h : j ≠ i) : (readReturns i v s).seat j = s.seat j :=
  State.onSeat_seat_other _ _ _ _ h

/-- What a read returns changes the seats alone. -/
theorem readReturns_frame (i : SeatId) (v : Nat) (s : State) :
    readReturns i v s = { s with mgt.seats := (readReturns i v s).mgt.seats } := rfl

/-- An access is not held while the gate of each block that it reaches is open (R424). -/
theorem whenAllOpen_of_open (seat : SeatId) (offs : List Nat) (write : Bool) (command : Instr) (s : State) (act : Result)
    (h : ∀ off ∈ offs, Open s off) : whenAllOpen seat offs write command s act = act := by
  have hnone : (offs.filterMap blockAt).find? s.gateClosed = none := by
    rw [List.find?_eq_none]
    intro p hp
    obtain ⟨off, hoff, hblock⟩ := List.mem_filterMap.mp hp
    simp [h off hoff p hblock]
  simp only [whenAllOpen, hnone]

/-- Of a live pair, a PCIe seat's aligned read returns the whole value at once; no half goes through `LO_READ` or `HI_READ`. -/
theorem execPaired64Read_of_livePair (i : SeatId) (off : Fin 1048576) (v : Nat) (s : State) (hm : s.clk.mgmtStopped = false)
    (hpcie : isPcieSeat s.mapB i = true) (halign : off.val % 8 = 0) (hlive : livePair s off.val = some v) (hlo : Open s off.val)
    (hhi : Open s (off.val + 4)) : execPaired64Read i off s = .next (readReturns i v s) := by
  have hopen : ∀ o ∈ [off.val, off.val + 4], Open s o := by
    intro o ho
    obtain rfl | rfl : o = off.val ∨ o = off.val + 4 := by simpa using ho
    · exact hlo
    · exact hhi
  unfold execPaired64Read
  rw [whenAllOpen_of_open _ _ _ _ _ _ hopen]
  simp [hm, hpcie, halign, hlive]

/-- Settles O2: the command is the return of the pair's value alone, which sets the seat's `readData`. -/
theorem pairedReads : Obligations.PairedReads := by
  unfold Obligations.PairedReads
  intro s i off v hm hpcie halign hlive hlo hhi
  exact ⟨readReturns i v s, execPaired64Read_of_livePair i off v s hm hpcie halign hlive hlo hhi, readReturns_seat i v s,
    fun j hj => readReturns_seat_other i j v s hj, readReturns_frame i v s⟩

end Sys2Proof.Machine

/-!
PROOFS. Stored results of the housekeeping converters (R462).
-/
namespace Sys2Proof

theorem two_pow_pos_int (n : Nat) : (0 : Int) < 2 ^ n := Int.pow_pos (by decide)

theorem two_pow_cast (n : Nat) : ((2 ^ n : Nat) : Int) = 2 ^ n := Int.natCast_pow 2 n

/-- The image, read as an integer, is the residue that it is defined by. -/
theorem natOfInt_cast (n : Nat) (v : Int) : (natOfInt n v : Int) = v % 2 ^ n :=
  Int.toNat_of_nonneg (Int.emod_nonneg v (Int.ne_of_gt (two_pow_pos_int n)))

theorem natOfInt_lt (n : Nat) (v : Int) : natOfInt n v < 2 ^ n := by
  have h : (natOfInt n v : Int) < 2 ^ n := natOfInt_cast n v ▸ Int.emod_lt_of_pos v (two_pow_pos_int n)
  exact_mod_cast h

theorem natOfInt_of_nonneg {n : Nat} {v : Int} (hv : 0 ≤ v) (hlt : v < 2 ^ n) : natOfInt n v = v.toNat := by
  rw [natOfInt, Int.emod_eq_of_lt hv hlt]

/-- The image of a negative number counts down from `2 ^ n`, so its bits are those of `-v - 1` complemented. -/
theorem natOfInt_of_neg {n : Nat} {v : Int} (hv : v < 0) (hle : -2 ^ n ≤ v) : natOfInt n v = 2 ^ n - ((-v - 1).toNat + 1) := by
  have hmod : v % 2 ^ n = v + 2 ^ n := by
    rw [← Int.add_emod_right, Int.emod_eq_of_lt (by omega) (by omega)]
  have hcast : (natOfInt n v : Int) = v + (2 ^ n : Nat) := by rw [natOfInt_cast, hmod, two_pow_cast]
  omega

/-- The low bits of an image are the image in fewer bits. -/
theorem bits_natOfInt {m n : Nat} (v : Int) (h : m ≤ n) : bits (natOfInt n v) 0 m = natOfInt m v := by
  have hdvd : (2 ^ m : Int) ∣ 2 ^ n := by
    rw [← two_pow_cast, ← two_pow_cast]
    exact Int.natCast_dvd_natCast.mpr (Nat.pow_dvd_pow 2 h)
  have hcast : ((natOfInt n v % 2 ^ m : Nat) : Int) = (natOfInt m v : Nat) := by
    rw [Int.natCast_emod, natOfInt_cast, natOfInt_cast, two_pow_cast]
    exact Int.emod_emod_of_dvd v hdvd
  rw [bits, Nat.pow_zero, Nat.div_one]
  exact Int.ofNat.inj hcast

/-- Sign extension: of a number that fits `m` bits and a sign, every bit of the image from `m` up is the sign. -/
theorem testBit_natOfInt_of_le {n m b : Nat} {v : Int} (hlo : -2 ^ m ≤ v) (hhi : v < 2 ^ m) (hm : m ≤ b) (hb : b < n) :
    (natOfInt n v).testBit b = decide (v < 0) := by
  have hmb : 2 ^ m ≤ 2 ^ b := Nat.pow_le_pow_right (by decide) hm
  have hbn : 2 ^ b ≤ 2 ^ n := Nat.pow_le_pow_right (by decide) (Nat.le_of_lt hb)
  rw [← two_pow_cast] at hlo hhi
  by_cases hv : v < 0
  · have hsmall : (-v - 1).toNat < 2 ^ b := by omega
    have hfits : (-v - 1).toNat < 2 ^ n := by omega
    have hle : -2 ^ n ≤ v := by rw [← two_pow_cast]; omega
    rw [natOfInt_of_neg hv hle, Nat.testBit_two_pow_sub_succ hfits, Nat.testBit_lt_two_pow hsmall]
    simp [hv, hb]
  · have hsmall : v.toNat < 2 ^ b := by omega
    have hlt : v < 2 ^ n := by rw [← two_pow_cast]; omega
    rw [natOfInt_of_nonneg (by omega) hlt, Nat.testBit_lt_two_pow hsmall]
    simp [hv]

/-- A number multiplied by `2 ^ k` stands in the bits above `k`, over `k` zeros. -/
theorem bits_mul_two_pow_above {a k len : Nat} (ha : a < 2 ^ len) : bits (a * 2 ^ k) k len = a := by
  rw [bits, Nat.mul_div_cancel _ (Nat.two_pow_pos k), Nat.mod_eq_of_lt ha]

theorem bits_mul_two_pow_below (a k : Nat) : bits (a * 2 ^ k) 0 k = 0 := by
  rw [bits, Nat.pow_zero, Nat.div_one, Nat.mul_mod_left]

/-- The bits above a number are zero. -/
theorem bits_of_lt {a lo len : Nat} (ha : a < 2 ^ lo) : bits a lo len = 0 := by
  rw [bits, Nat.div_eq_of_lt ha, Nat.zero_mod]

end Sys2Proof

namespace Sys2Proof.Machine

theorem hkFormat_right (v : Int) : hkFormat false v = natOfInt 16 v := rfl

theorem hkFormat_left (v : Int) : hkFormat true v = natOfInt 12 v * 2 ^ 4 := rfl

theorem hkFormat_lt (left : Bool) (v : Int) : hkFormat left v < 2 ^ 16 := by
  cases left with
  | false => exact natOfInt_lt 16 v
  | true =>
    have h := natOfInt_lt 12 v
    rw [hkFormat_left]
    omega

/-- Right alignment of either kind of result: bits [11:0] hold its image in 12 bits. -/
theorem bits_hkFormat_right (v : Int) : bits (hkFormat false v) 0 12 = natOfInt 12 v := by
  rw [hkFormat_right, bits_natOfInt v (by decide)]

/-- Settles O35: right alignment stores the image in 16 bits, whose low 12 bits are the image in 12 bits and whose upper bits are the sign;
left alignment multiplies the image in 12 bits by 16. -/
theorem resultFormat : Obligations.ResultFormat := by
  unfold Obligations.ResultFormat
  intro v
  refine ⟨?singleEnded, ?differential, ?leftAligned, fun _ _ left => hkFormat_lt left v⟩
  case singleEnded =>
    intro hlo hhi
    have hsmall : hkFormat false v < 2 ^ 12 := by rw [hkFormat_right, natOfInt_of_nonneg hlo (by omega)]; omega
    exact ⟨by rw [bits_hkFormat_right, natOfInt_of_nonneg hlo (by omega)], bits_of_lt hsmall⟩
  case differential =>
    intro hlo hhi
    have hsign : ∀ b, 11 ≤ b → b < 16 → (hkFormat false v).testBit b = decide (v < 0) := by
      intro b hb hb'
      rw [hkFormat_right, testBit_natOfInt_of_le (by omega) (by omega) hb hb']
    refine ⟨bits_hkFormat_right v, fun b hb hb' => ?_⟩
    rw [hsign b (by omega) hb', hsign 11 (Nat.le_refl 11) (by decide)]
  case leftAligned =>
    intro _ _
    rw [hkFormat_left]
    exact ⟨bits_mul_two_pow_above (natOfInt_lt 12 v), bits_mul_two_pow_below _ 4⟩

end Sys2Proof.Machine
